-- ==== Sys2Proof/Word.lean ====
section
/-!
DEFINITION. The word types of the G410: what the guide treats as bits is a bit vector, every
counted thing (a level, a cell index, a count) is a `Nat`.
-/

namespace Sys2Proof

/-- A byte on a wire, in a frame or in SDRAM. Emitted characters are bytes too: a printable
character is its code, a line-break is 0x0A (R182). -/
abbrev Byte := BitVec 8

/-- A key set or stroke as every frame, record and cell carries it: a 3-byte number whose bit `n`
is key `n` (R1, R181). -/
abbrev Stroke := BitVec 24

/-- A set of keys as the KSU holds it: exactly the 23 keys (R1). -/
abbrev KeySet := BitVec 23

/-- A key number, 0 to 22 (R1). -/
abbrev Key := Fin 23

/-- A dictionary slot, 0 to 3 (chapter 2). -/
abbrev SlotNo := Fin 4

/-- A feed channel, FC0 to FC3 (chapter 8). -/
abbrev ChanNo := Fin 4

/-- A cell link: the index of a cell, or NONE (R41). -/
abbrev Link := Option Nat

end Sys2Proof
end

