-- ==== Sys2Proof/Syntax.lean ====
section
/-!
DEFINITION. The steps of the part: one constructor of `Instr` for each row of
spec/opcode_table.json, in the table's order, with the row's operands; and `Command`, the commands
of the catalogue of 9.12 that wait in the command queue (all but RESTART, which never does, R163).
An operand that a frame carries has the width its frame field has (R185), so that every value a
frame can carry is an operand.
-/

namespace Sys2Proof

/-- The commands a frame of the command queue can carry (9.12, R185). -/
inductive Command where
  | setKeyTiming (debounce ghost : Byte) (stuck : BitVec 16)
  | setKeyPolarity (keys : Stroke)
  | setKeyMask (keys : Stroke)
  | setStacking (value : Byte)
  | injectStroke (keys : Stroke)
  | setClock (value : BitVec 32)
  | keyInfo (clear : Byte)
  | setMemory (mib : Byte)
  | setWindow (slot : Byte) (base size : BitVec 32)
  | format (slot : Byte) (buckets : BitVec 32)
  | releaseSlot (slot : Byte)
  | setAccess (slot code : Byte)
  | setRanks (r0 r1 r2 r3 : Byte)
  | lockSlot (slot : Byte)
  | slotInfo (slot : Byte)
  | addEntry (slot : Byte) (outline : List Stroke) (flags : Byte) (text : List Byte)
  | replaceEntry (slot : Byte) (outline : List Stroke) (flags : Byte) (text : List Byte)
  | retireEntry (slot : Byte) (outline : List Stroke)
  | fetchEntry (slot : Byte) (outline : List Stroke)
  | setMaintShare (share : Byte)
  | start
  | stop
  | windowInfo (record : Byte)
  | setSpeaker (number : Byte) (label : List Byte)
  | setSettleTime (ms : BitVec 16)
  | flush
  | setChannel (chan mode flow : Byte) (divisor resume : BitVec 16) (stall keepalive : Byte)
  | channelOn (chan : Byte)
  | channelOff (chan : Byte)
  | channelInfo (chan : Byte)
  | clearNotices (mask : Byte)
  | setInterrupts (response report mask trigger : Byte)
deriving DecidableEq, Repr

/-- What the host has clocked through after the lead byte of a read or of a void transaction, when SPSEL
rises: `count` whole bytes, and `extra` bits of an incomplete one (R160). -/
structure Clocked where
  count : Nat
  extra : Fin 8
deriving DecidableEq, Repr

/-- What the host has shifted in after the lead byte of a command write, when SPSEL rises: whole bytes,
and `extra` bits of an incomplete one (R160, R162). -/
structure Written where
  bytes : List Byte
  extra : Fin 8
deriving DecidableEq, Repr

/-- How much of a transaction of the command port a step is (R160): all of it, from the fall of SPSEL
to its rise with nothing else happening meanwhile; or one of its three moments, between which the
other blocks' steps can come. What has been shifted belongs to the rise. -/
inductive SpiPart (shifted : Type) where
  /-- SPSEL falls, the bytes are shifted, SPSEL rises -/
  | whole (x : shifted)
  /-- SPSEL falls (R161) -/
  | fall
  /-- the lead byte is complete (R160, R169, R171, R172) -/
  | lead
  /-- the bytes after the lead byte have been shifted, and SPSEL rises (R162, R169, R171) -/
  | rise (x : shifted)
deriving DecidableEq, Repr

/-- The steps of the G410: what the host, the keys and the feed equipment do to it, and the moves
the part makes of itself. -/
inductive Instr where
  /-- RESETN held low, or power-on (R180). -/
  | hardReset
  /-- Key-sense line `key` goes to the given level (R2). -/
  | lineLevelChange (key : Key) (high : Bool)
  /-- The debounce timer of `key` expires (R2). -/
  | debounceExpiry (key : Key)
  /-- The hold timer of `key` reaches the stuck limit (R12). -/
  | holdTimerExpiry (key : Key)
  /-- A command write, or a part of one (R160, R162). -/
  | commandWrite (part : SpiPart Written)
  /-- A response read, or a part of one (R169). -/
  | responseRead (part : SpiPart Clocked)
  /-- A report read, or a part of one (R171). -/
  | reportRead (part : SpiPart Clocked)
  /-- A status read, or a part of one (R172). -/
  | statusRead (part : SpiPart Clocked)
  /-- A transaction, or a part of one, whose lead byte is unknown, or incomplete (`none`): then `extra`
  of its bits are shifted (R160). -/
  | voidTransaction (lead : Option Byte) (part : SpiPart Clocked)
  /-- The oldest waiting frame begins execution (R164). -/
  | commandBegin
  | setKeyTiming (debounce ghost : Byte) (stuck : BitVec 16)
  | setKeyPolarity (keys : Stroke)
  | setKeyMask (keys : Stroke)
  | setStacking (value : Byte)
  | injectStroke (keys : Stroke)
  | setClock (value : BitVec 32)
  | keyInfo (clear : Byte)
  | setMemory (mib : Byte)
  | setWindow (slot : Byte) (base size : BitVec 32)
  | format (slot : Byte) (buckets : BitVec 32)
  /-- The last write of the FORMAT in progress ends (R25). -/
  | formatComplete
  | releaseSlot (slot : Byte)
  | setAccess (slot code : Byte)
  | setRanks (r0 r1 r2 r3 : Byte)
  | lockSlot (slot : Byte)
  | slotInfo (slot : Byte)
  | addEntry (slot : Byte) (outline : List Stroke) (flags : Byte) (text : List Byte)
  | replaceEntry (slot : Byte) (outline : List Stroke) (flags : Byte) (text : List Byte)
  | retireEntry (slot : Byte) (outline : List Stroke)
  /-- FETCH_ENTRY naming a slot (R57). -/
  | fetchEntry (slot : Byte) (outline : List Stroke)
  /-- FETCH_ENTRY with ANY (R58). -/
  | fetchEntryAny (outline : List Stroke)
  /-- The entry operation or FETCH_ENTRY that holds its gate ends (R166). -/
  | upkeepOperationEnd
  | setMaintShare (share : Byte)
  | start
  | stop
  /-- WINDOW_INFO with RECORD = 0 (R93). -/
  | windowInfo
  /-- WINDOW_INFO with RECORD = `record`, not 0 (R94). -/
  | windowInfoRecord (record : Byte)
  | setSpeaker (number : Byte) (label : List Byte)
  | setSettleTime (ms : BitVec 16)
  | flush
  | setChannel (chan mode flow : Byte) (divisor resume : BitVec 16) (stall keepalive : Byte)
  | channelOn (chan : Byte)
  | channelOff (chan : Byte)
  | channelInfo (chan : Byte)
  /-- A RESTART frame is taken (R177, R179). -/
  | restart
  /-- The restart in progress takes effect (R178). -/
  | restartTakesEffect
  | clearNotices (mask : Byte)
  | setInterrupts (response report mask trigger : Byte)
  /-- The arbiter grants one access; where it grants the lookup walker, the walker presents the
  access of its probe in `slot`, or else its first ready one (R62, R69). -/
  | arbiterGrant (slot : SlotNo)
  /-- The TE issues its next pending probe (R83). -/
  | probeIssue
  /-- The walk of the probe that holds the gate of `slot` ends (R64). -/
  | probeEnd (slot : SlotNo)
  /-- The TE takes a stroke (R79). -/
  | takeStroke
  /-- The TE serves settle-due (R121). -/
  | settleDueService
  /-- The settle timer expires (R119). -/
  | settleTimerExpiry
  /-- The TE begins a rescan (R125). -/
  | rescan
  /-- A channel's head byte starts on the wire (R138). -/
  | transmitByte (chan : ChanNo)
  /-- The byte on a channel's wire completes (R138). -/
  | byteComplete (chan : ChanNo)
  /-- Ten bit times have been sampled on FRXn from the beginning of a byte on: nine bits, bit 0 of
  `sampled` the first, and then `stopBit`; a set bit is mark (R135, R153). -/
  | inboundByte (chan : ChanNo) (sampled : BitVec 9) (stopBit : Bool)
  /-- FCLRn goes to the given level (R140). -/
  | fclrChange (chan : ChanNo) (high : Bool)
  /-- FRXn has been at space for more than 20 bit times (R150). -/
  | breakReceived (chan : ChanNo)
  /-- A channel's stall timer reaches the stall limit (R149). -/
  | stallTimerExpiry (chan : ChanNo)
  /-- A channel's keepalive timer expires (R154). -/
  | keepaliveTimerExpiry (chan : ChanNo)
  /-- One millisecond passes (R15). -/
  | strokeClockTick
  /-- FRXn returns to mark (R150). -/
  | returnToMark (chan : ChanNo)
deriving DecidableEq, Repr

end Sys2Proof
end

