-- ==== Sys2Proof/WellFormed.lean ====
section
/-!
DEFINITION. Which terms of `Instr` are steps of the part: the operands that their Lean types do not
already bound. A command's parameters must fit in a frame, whose length byte counts at most 255
bytes (R162, R185); the two forms of FETCH_ENTRY and of WINDOW_INFO are told apart by the byte that
tells them apart in the frame; a void transaction's lead byte is none of the four (R160).
-/

namespace Sys2Proof

/-- The bytes a frame of `params` parameter bytes counts fit its length byte (R185). -/
def frameFits (params : Nat) : Bool := params + 1 ≤ 255

/-- A command whose parameters a frame can carry (R185). -/
def Command.wf : Command → Bool
  | .addEntry _ outline _ text => frameFits (4 + 3 * outline.length + text.length)
  | .replaceEntry _ outline _ text => frameFits (4 + 3 * outline.length + text.length)
  | .retireEntry _ outline => frameFits (2 + 3 * outline.length)
  | .fetchEntry _ outline => frameFits (2 + 3 * outline.length)
  | .setSpeaker _ label => frameFits (2 + label.length)
  | _ => true

/-- The lead bytes that name a transaction (R160). -/
def leadBytes : List Byte := [0x5A, 0x5B, 0x5C, 0x5D]

/-- No whole byte has been shifted after the lead byte. -/
def SpiPart.noByte : SpiPart Clocked → Bool
  | .whole x => x.count == 0
  | .rise x => x.count == 0
  | .fall => true
  | .lead => true

/-- A step the part can take. -/
def Instr.wf : Instr → Bool
  | .voidTransaction lead part =>
      match lead with
      | some b => !leadBytes.contains b
      | none => part.noByte
  | .addEntry slot outline flags text => Command.wf (.addEntry slot outline flags text)
  | .replaceEntry slot outline flags text => Command.wf (.replaceEntry slot outline flags text)
  | .retireEntry slot outline => Command.wf (.retireEntry slot outline)
  | .fetchEntry slot outline => slot != 0xFF && Command.wf (.fetchEntry slot outline)
  | .fetchEntryAny outline => Command.wf (.fetchEntry 0xFF outline)
  | .windowInfoRecord record => record != 0
  | .setSpeaker number label => Command.wf (.setSpeaker number label)
  | _ => true

end Sys2Proof
end

