-- ==== Sys2Proof/Decode.lean ====
section
/-!
DEFINITION. The command frames of R162, R165 and R185: the reading of a frame's bytes as a command
(`parseParams`), and its converse (`Command.frame`). The table of operations gives no row any bits,
so `decodeTableWord` reads none.
-/

namespace Sys2Proof

/-- The bytes of a 16-bit number, most significant first (10, conventions). -/
def bytesOf16 (v : BitVec 16) : List Byte := [v.extractLsb' 8 8, v.extractLsb' 0 8]

/-- The bytes of a 24-bit number, most significant first. -/
def bytesOf24 (v : BitVec 24) : List Byte :=
  [v.extractLsb' 16 8, v.extractLsb' 8 8, v.extractLsb' 0 8]

/-- The bytes of a 32-bit number, most significant first. -/
def bytesOf32 (v : BitVec 32) : List Byte :=
  [v.extractLsb' 24 8, v.extractLsb' 16 8, v.extractLsb' 8 8, v.extractLsb' 0 8]

/-- A 16-bit number from its bytes, most significant first. -/
def word16 (a b : Byte) : BitVec 16 := a ++ b

/-- A 24-bit number from its bytes, most significant first. -/
def word24 (a b c : Byte) : BitVec 24 := a ++ b ++ c

/-- A 32-bit number from its bytes, most significant first. -/
def word32 (a b c d : Byte) : BitVec 32 := a ++ b ++ c ++ d

/-- The stroke bytes of an outline, 3 bytes each, first stroke first (R181). -/
def strokeBytes : List Stroke → List Byte
  | [] => []
  | v :: rest => bytesOf24 v ++ strokeBytes rest

/-- The first `k` strokes of a list of bytes, and the bytes after them (R181). -/
def readStrokes : Nat → List Byte → Option (List Stroke × List Byte)
  | 0, bytes => some ([], bytes)
  | k + 1, a :: b :: c :: rest =>
      (readStrokes k rest).map fun p => (word24 a b c :: p.1, p.2)
  | _ + 1, _ => none

/-- A count byte and exactly as many bytes after it (R165). -/
def readCounted : List Byte → Option (List Byte)
  | n :: bytes => if bytes.length = n.toNat then some bytes else none
  | [] => none

/-- An outline with its stroke count, and the bytes after it (R181). -/
def readOutline : List Byte → Option (List Stroke × List Byte)
  | k :: rest => readStrokes k.toNat rest
  | [] => none

/-- The parameters of an entry write: slot, outline, flags, text (R185). -/
def readEntryWrite (make : Byte → List Stroke → Byte → List Byte → Command) :
    List Byte → Option Command
  | slot :: rest =>
      match readOutline rest with
      | some (outline, flags :: more) => (readCounted more).map (make slot outline flags)
      | _ => none
  | [] => none

/-- The parameters of RETIRE_ENTRY and FETCH_ENTRY: slot and outline (R185). -/
def readEntryName (make : Byte → List Stroke → Command) : List Byte → Option Command
  | slot :: rest =>
      match readOutline rest with
      | some (outline, []) => some (make slot outline)
      | _ => none
  | [] => none

/-- No parameter bytes (R185). -/
def read0 (make : Command) : List Byte → Option Command
  | [] => some make
  | _ => none

/-- One value of 1 byte (R185). -/
def read1 (make : Byte → Command) : List Byte → Option Command
  | [v] => some (make v)
  | _ => none

/-- One value of 2 bytes (R185). -/
def read16 (make : BitVec 16 → Command) : List Byte → Option Command
  | [a, b] => some (make (word16 a b))
  | _ => none

/-- One key set, of 3 bytes (R181, R185). -/
def read24 (make : Stroke → Command) : List Byte → Option Command
  | [a, b, c] => some (make (word24 a b c))
  | _ => none

/-- One value of 4 bytes (R185). -/
def read32 (make : BitVec 32 → Command) : List Byte → Option Command
  | [a, b, c, d] => some (make (word32 a b c d))
  | _ => none

/-- Two values of 1 byte (R185). -/
def read2 (make : Byte → Byte → Command) : List Byte → Option Command
  | [a, b] => some (make a b)
  | _ => none

/-- Four values of 1 byte (R185). -/
def read4 (make : Byte → Byte → Byte → Byte → Command) : List Byte → Option Command
  | [a, b, c, d] => some (make a b c d)
  | _ => none

/-- The parameters of SET_KEY_TIMING (R185). -/
def readTiming : List Byte → Option Command
  | [d, g, s1, s0] => some (.setKeyTiming d g (word16 s1 s0))
  | _ => none

/-- The parameters of SET_WINDOW (R185). -/
def readWindow : List Byte → Option Command
  | [s, b3, b2, b1, b0, z3, z2, z1, z0] =>
      some (.setWindow s (word32 b3 b2 b1 b0) (word32 z3 z2 z1 z0))
  | _ => none

/-- The parameters of FORMAT (R185). -/
def readFormat : List Byte → Option Command
  | [s, b3, b2, b1, b0] => some (.format s (word32 b3 b2 b1 b0))
  | _ => none

/-- The parameters of SET_SPEAKER (R185). -/
def readSpeaker : List Byte → Option Command
  | n :: bytes => (readCounted bytes).map (.setSpeaker n)
  | [] => none

/-- The parameters of SET_CHANNEL (R185). -/
def readChannel : List Byte → Option Command
  | [ch, m, f, d1, d0, r1, r0, st, ka] =>
      some (.setChannel ch m f (word16 d1 d0) (word16 r1 r0) st ka)
  | _ => none

/-- The command a code and its parameter bytes spell, by the catalogue of 9.12 and the layouts of
R185; none where the code is unknown or the bytes do not number as the layout requires. The code
of RESTART spells no command here: a well-formed RESTART frame never waits to execute (R163). -/
def parseParams (code : Byte) (params : List Byte) : Option Command :=
  match code.toNat with
  | 0x10 => readTiming params
  | 0x11 => read24 .setKeyPolarity params
  | 0x12 => read24 .setKeyMask params
  | 0x13 => read1 .setStacking params
  | 0x14 => read24 .injectStroke params
  | 0x15 => read32 .setClock params
  | 0x16 => read1 .keyInfo params
  | 0x17 => read1 .setMemory params
  | 0x18 => readWindow params
  | 0x19 => readFormat params
  | 0x1A => read1 .releaseSlot params
  | 0x1B => read2 .setAccess params
  | 0x1C => read4 .setRanks params
  | 0x1D => read1 .lockSlot params
  | 0x1E => read1 .slotInfo params
  | 0x1F => readEntryWrite .addEntry params
  | 0x20 => readEntryWrite .replaceEntry params
  | 0x21 => readEntryName .retireEntry params
  | 0x22 => readEntryName .fetchEntry params
  | 0x23 => read1 .setMaintShare params
  | 0x24 => read0 .start params
  | 0x25 => read0 .stop params
  | 0x26 => read1 .windowInfo params
  | 0x27 => readSpeaker params
  | 0x28 => read16 .setSettleTime params
  | 0x29 => read0 .flush params
  | 0x2A => readChannel params
  | 0x2B => read1 .channelOn params
  | 0x2C => read1 .channelOff params
  | 0x2D => read1 .channelInfo params
  | 0x2F => read1 .clearNotices params
  | 0x30 => read4 .setInterrupts params
  | _ => none

/-- The code of a command (9.12). -/
def Command.code : Command → Byte
  | .setKeyTiming .. => 0x10
  | .setKeyPolarity .. => 0x11
  | .setKeyMask .. => 0x12
  | .setStacking .. => 0x13
  | .injectStroke .. => 0x14
  | .setClock .. => 0x15
  | .keyInfo .. => 0x16
  | .setMemory .. => 0x17
  | .setWindow .. => 0x18
  | .format .. => 0x19
  | .releaseSlot .. => 0x1A
  | .setAccess .. => 0x1B
  | .setRanks .. => 0x1C
  | .lockSlot .. => 0x1D
  | .slotInfo .. => 0x1E
  | .addEntry .. => 0x1F
  | .replaceEntry .. => 0x20
  | .retireEntry .. => 0x21
  | .fetchEntry .. => 0x22
  | .setMaintShare .. => 0x23
  | .start => 0x24
  | .stop => 0x25
  | .windowInfo .. => 0x26
  | .setSpeaker .. => 0x27
  | .setSettleTime .. => 0x28
  | .flush => 0x29
  | .setChannel .. => 0x2A
  | .channelOn .. => 0x2B
  | .channelOff .. => 0x2C
  | .channelInfo .. => 0x2D
  | .clearNotices .. => 0x2F
  | .setInterrupts .. => 0x30

/-- The code of RESTART (9.12). -/
def restartCode : Byte := 0x2E

/-- The bytes of an outline in a frame: the stroke count and the strokes (R181). -/
def outlineBytes (outline : List Stroke) : List Byte :=
  BitVec.ofNat 8 outline.length :: strokeBytes outline

/-- The bytes of a counted text in a frame (R185). -/
def countedBytes (text : List Byte) : List Byte := BitVec.ofNat 8 text.length :: text

/-- The parameter bytes of a command (R185). -/
def Command.params : Command → List Byte
  | .setKeyTiming d g st => [d, g] ++ bytesOf16 st
  | .setKeyPolarity v => bytesOf24 v
  | .setKeyMask v => bytesOf24 v
  | .setStacking v => [v]
  | .injectStroke v => bytesOf24 v
  | .setClock v => bytesOf32 v
  | .keyInfo v => [v]
  | .setMemory v => [v]
  | .setWindow s b z => [s] ++ bytesOf32 b ++ bytesOf32 z
  | .format s b => [s] ++ bytesOf32 b
  | .releaseSlot s => [s]
  | .setAccess s a => [s, a]
  | .setRanks a b c d => [a, b, c, d]
  | .lockSlot s => [s]
  | .slotInfo s => [s]
  | .addEntry s o f t => [s] ++ outlineBytes o ++ [f] ++ countedBytes t
  | .replaceEntry s o f t => [s] ++ outlineBytes o ++ [f] ++ countedBytes t
  | .retireEntry s o => [s] ++ outlineBytes o
  | .fetchEntry s o => [s] ++ outlineBytes o
  | .setMaintShare v => [v]
  | .start => []
  | .stop => []
  | .windowInfo v => [v]
  | .setSpeaker n l => [n] ++ countedBytes l
  | .setSettleTime v => bytesOf16 v
  | .flush => []
  | .setChannel ch m f d r st ka => [ch, m, f] ++ bytesOf16 d ++ bytesOf16 r ++ [st, ka]
  | .channelOn ch => [ch]
  | .channelOff ch => [ch]
  | .channelInfo ch => [ch]
  | .clearNotices m => [m]
  | .setInterrupts r p m t => [r, p, m, t]

/-- The frame of a command: the length byte, the code and the parameters (R162, R185). -/
def Command.frame (c : Command) : List Byte :=
  BitVec.ofNat 8 (c.params.length + 1) :: c.code :: c.params

/-- The frame of RESTART: exactly two bytes (R163). -/
def restartFrame : List Byte := [1, restartCode]

/-- The command that a kept frame's bytes spell, none where the frame is malformed (R165). -/
def parseFrame (bytes : List Byte) (overLong : Bool) : Option Command :=
  match bytes with
  | len :: code :: params =>
      if overLong || len.toNat ≠ params.length + 1 then none else parseParams code params
  | _ => none

/-- The code byte a response echoes: 0x00 for a frame without one (R165, R167). -/
def echoOf (bytes : List Byte) : Byte := (bytes[1]?).getD 0

/-- The command a word spells by the table's bits. The table gives no row any bits, so no word
spells one (notes/assumptions/2.md). -/
def decodeTableWord (_nbits _w : Nat) : Option Instr := none

end Sys2Proof
end

