-- ==== Sys2Proof/Config.lean ====
section
/-!
DEFINITION. What the guide fixes for every G410: capacities, limits and hard-reset settings.
The guide leaves no result of a step open, so there is no free value here. The one open byte, what
SDRAM holds before the part writes it, is `sdramPowerOn` (notes/assumptions/4.md).
-/

namespace Sys2Proof.Config

/-- Places of the stroke queue (R16). -/
abbrev strokeQueuePlaces : Nat := 16
/-- Places of the command queue (chapter 9). -/
abbrev commandQueuePlaces : Nat := 4
/-- Places of the response queue (R167). -/
abbrev responseQueuePlaces : Nat := 8
/-- Places of the report queue (R170). -/
abbrev reportQueuePlaces : Nat := 64
/-- Bytes of a channel's transmit FIFO (R137). -/
abbrev fifoBytes : Nat := 1024
/-- Bytes of a frame the CP keeps (R162). -/
abbrev frameBytes : Nat := 256
/-- RESTART frames one restart takes (R179). -/
abbrev restartPlaces : Nat := 8
/-- Entries of a bucket chain (R44). -/
abbrev chainLimit : Nat := 32
/-- Strokes of the translation window (R117). -/
abbrev windowStrokes : Nat := 16
/-- Characters of the open text (R117). -/
abbrev openTextLimit : Nat := 480
/-- Characters of one record's emitted text (R107). -/
abbrev recordTextLimit : Nat := 200
/-- Free report places a stroke reserves (R78). -/
abbrev strokeReserve : Nat := 17
/-- Free report places a rescan reserves (R78). -/
abbrev rescanReserve : Nat := 16
/-- Bytes of a cell (R61). -/
abbrev cellBytes : Nat := 32
/-- The value at which the KSU counts saturate (R9, R16). -/
abbrev countLimit : Nat := 65535

/-- What a byte of SDRAM reads as before anything has written it. DESIGN CHOICE, unsafe
(notes/assumptions/4.md): the guide gives no power-on contents. -/
abbrev sdramPowerOn : Byte := 0

end Sys2Proof.Config
end

