-- ==== Sys2Proof/Machine/State.lean ====
section
/-!
DEFINITION. Everything the guide gives the G410 to hold, block by block, as plain data, and the
hard-reset value of each piece. INVENTORY.md lists every field with its rule.
-/

namespace Sys2Proof.Machine

/-! ### Key Sense Unit and stroke queue (chapter 1) -/

/-- The state of stroke assembly (1.3). -/
inductive AssemblyState where
  | idle | chord | release
deriving DecidableEq, Repr

/-- Where a stroke record came from (R9, R17). -/
inductive Origin where
  | keyboard | injected
deriving DecidableEq, Repr

/-- A record of the stroke queue (R9, R17). -/
structure StrokeRecord where
  keys : Stroke
  time : BitVec 32
  origin : Origin
  split : Bool
  stuckCut : Bool
deriving DecidableEq, Repr

/-- The Key Sense Unit (1.2, 1.3, R15). -/
structure Ksu where
  /-- the level of each key-sense line, set = high: the pins KS0 to KS22 -/
  line : KeySet
  /-- the accepted level of each line, set = high -/
  accepted : KeySet
  /-- the debounce timers: idle, or running toward a debounce time (0.1 ms) -/
  debounce : Vector (Option Nat) 23
  /-- set = high-pressed -/
  polarity : KeySet
  hostMask : KeySet
  stuckMask : KeySet
  /-- the hold timers: idle, or running, with the whole milliseconds run so far -/
  hold : Vector (Option Nat) 23
  /-- 0.1 ms -/
  debounceTime : Nat
  /-- ms -/
  ghostMin : Nat
  /-- ms -/
  stuckLimit : Nat
  stacking : Bool
  assembly : AssemblyState
  strokeSet : KeySet
  chordStart : Option (BitVec 32)
  firstRelease : Option (BitVec 32)
  cutFlag : Bool
  carried : KeySet
  ghostCount : Nat
  lostCount : Nat
  /-- the stroke clock (ms) -/
  clock : BitVec 32
deriving DecidableEq, Repr

/-! ### Dictionary Store (chapters 2 and 3) -/

/-- The state of a slot (2.2). -/
inductive SlotState where
  | vacant | unformatted | formatting | ready
deriving DecidableEq, Repr

/-- The access of a slot (2.7). -/
inductive Access where
  | shut | lookup | maintain | full
deriving DecidableEq, Repr

/-- A slot descriptor (2.2). -/
structure Slot where
  state : SlotState
  access : Access
  lock : Bool
  base : Nat
  size : Nat
  buckets : Nat
  entryCount : Nat
  freeCount : Nat
  freeHead : Link
  rank : Fin 4
deriving DecidableEq, Repr

/-- The Dictionary Store: memory size (MiB, 0 = unconfigured) and the four descriptors. -/
structure Dict where
  memMiB : Nat
  slots : Vector Slot 4
deriving DecidableEq, Repr

/-! ### Memory Port (chapter 4) -/

/-- The entry a walk is at, as read from its cells (R42, R47). -/
structure EntryRegs where
  cell : Nat
  next : Link
  cont : Link
  strokes : Nat
  textLen : Nat
  flags : Byte
  payload : List Byte
deriving DecidableEq, Repr

/-- What a walk reads next, or how it ended (R47, R48). -/
inductive WalkPhase where
  /-- next: the directory cell with the bucket head -/
  | bucketHead
  /-- next: the head cell of an entry of the chain -/
  | headCell (cell : Nat)
  /-- next: the first continuation cell, for the last byte of an eighth stroke -/
  | eighth (cell : Nat)
  /-- next: a continuation cell of the entry found, for its text -/
  | text (cell : Nat)
  | found
  | absent
deriving DecidableEq, Repr

/-- The walk of one operation for one outline, with the slot's window and bucket count in force when
it began (R47, R48, R64). -/
structure Walk where
  /-- the window the walk reads: its base and its size in bytes -/
  base : Nat
  size : Nat
  outline : List Stroke
  bucket : Nat
  /-- whether the caller needs flags and text (R48) -/
  wantText : Bool
  phase : WalkPhase
  /-- the bucket head as read -/
  bucketLink : Link
  /-- head cell of the entry before the one the walk is at; none: the bucket head -/
  prev : Link
  /-- head cells read -/
  seen : Nat
  entry : EntryRegs
deriving DecidableEq, Repr

/-- An outstanding probe (R63): WAITING while it has no walk, TAKEN once it has one. -/
structure Probe where
  tag : Fin 32
  slot : SlotNo
  outline : List Stroke
  withdrawn : Bool
  walk : Option Walk
deriving DecidableEq, Repr

/-- A claim at a slot gate (R65). -/
inductive Claim where
  | probe (tag : Fin 32)
  | upkeep
deriving DecidableEq, Repr

/-- A slot gate (R65): its holder and its waiting list, oldest first. -/
structure Gate where
  holder : Option Claim
  waiting : List Claim
deriving DecidableEq, Repr

/-- The thirteen status values (R168). -/
inductive Status where
  | done | badFrame | badArg | badState | protectedSlot | locked | duplicate | notFound
  | noSpace | bucketFull | badText | overlap | queueFull
deriving DecidableEq, Repr

/-- The entry operations (chapter 3). -/
inductive EntryKind where
  | add | replace | retire | fetch
deriving DecidableEq, Repr

/-- How far an entry operation has come: its next access, or its end (R53, R55, R56). -/
inductive EntryStage where
  /-- the walk of R47 -/
  | walking
  /-- next: write the link that names the old entry -/
  | unlink
  /-- next: read the link of a continuation cell to be returned -/
  | returnRead (cell : Nat)
  /-- next: write the free-list link of a cell; then its entry's cell `next`, if any -/
  | returnWrite (cell : Nat) (next : Link)
  /-- next: read the link of the cell at the free-list head -/
  | take
  /-- next: write the new head cell -/
  | writeHead
  /-- next: write the `i`-th cell taken, a continuation cell -/
  | writeCont (i : Nat)
  /-- next: write the bucket head -/
  | writeBucket
  | ended
deriving DecidableEq, Repr

/-- An entry operation or FETCH_ENTRY in the upkeep engine (R62). -/
structure EntryOp where
  kind : EntryKind
  slot : SlotNo
  outline : List Stroke
  flags : Byte
  text : List Byte
  /-- a FETCH_ENTRY with ANY, and the consulted slots it has still to search (R58) -/
  any : Bool
  laterSlots : List SlotNo
  walk : Walk
  stage : EntryStage
  /-- the bucket head as the operation has it now -/
  bucketLink : Link
  /-- the free list as the operation has it now -/
  freeHead : Link
  freeCount : Nat
  /-- cells taken, first taken first -/
  taken : List Nat
  status : Status
deriving DecidableEq, Repr

/-- The operation of the upkeep engine (R62). -/
inductive UpkeepOp where
  | entry (op : EntryOp)
  /-- a FORMAT, and the next cell it writes -/
  | format (slot : SlotNo) (next : Nat)
  | release (slot : SlotNo)
deriving DecidableEq, Repr

/-- The Memory Port (chapter 4). `probes` is the tag list: a tag no probe has is free. -/
structure Mp where
  share : Nat
  lookupRun : Nat
  probes : List Probe
  gates : Vector Gate 4
  upkeep : Option UpkeepOp
deriving DecidableEq, Repr

/-! ### Translation Engine and Text Formatter (chapters 5 to 7) -/

/-- The engine states (R74). -/
inductive TeState where
  | stopped | waiting | resolving | rescanning
deriving DecidableEq, Repr

/-- The source of a record (R80). -/
inductive Source where
  | slot (n : SlotNo)
  | number
  | raw
deriving DecidableEq, Repr

/-- The case mode (R97). -/
inductive CaseMode where
  | none | upper | lower
deriving DecidableEq, Repr

/-- A format state (R97). -/
structure Fmt where
  lineStart : Bool
  attachNext : Bool
  glueLast : Bool
  caseMode : CaseMode
  speaker : Option (Fin 16)
deriving DecidableEq, Repr

/-- The initial format state (R97). -/
def Fmt.initial : Fmt := ⟨true, false, false, .upper, none⟩

/-- The fields of a record, its displaced list apart (R80). -/
structure RecordData where
  outline : List Stroke
  source : Source
  /-- bits as the head-cell flags byte (R183) -/
  flags : Byte
  /-- text items as bytes (R182) -/
  items : List Byte
  before : Fmt
  text : List Byte
  truncated : Bool
  after : Fmt
deriving DecidableEq, Repr

/-- A displaced list: records, oldest first, each with its own displaced list (R81). -/
inductive Displaced where
  | nil
  | cons (data : RecordData) (displaced : Displaced) (rest : Displaced)
deriving DecidableEq, Repr

/-- A record of the translation window (R80). -/
structure Record where
  data : RecordData
  displaced : Displaced
deriving DecidableEq, Repr

/-- The result of a pair of the probe table (R83). -/
inductive PairResult where
  /-- the probe is not issued yet -/
  | unissued
  | pending (tag : Fin 32)
  | hit (flags : Byte) (text : List Byte)
  | miss
deriving DecidableEq, Repr

/-- A pair of a candidate and a consulted slot (R83). -/
structure Pair where
  cand : Nat
  slot : SlotNo
  outline : List Stroke
  result : PairResult
deriving DecidableEq, Repr

/-- The probe table (R83), pairs in decision order; `viewChanged` records that the lookup view has
changed since the table was recorded (R86, R124). -/
structure ProbeTable where
  stroke : Stroke
  maxCand : Nat
  consulted : List SlotNo
  rankOrder : List SlotNo
  pairs : List Pair
  viewChanged : Bool
deriving DecidableEq, Repr

/-- A rescan in progress: the strokes of the replay sequence after the one in resolution, and the
replay window (R125, R126). -/
structure Replay where
  remaining : List Stroke
  window : List Record
deriving DecidableEq, Repr

/-- The Translation Engine (chapters 5 and 7). -/
structure Te where
  state : TeState
  run : Bool
  window : List Record
  settledFmt : Fmt
  /-- ms, 0 = off -/
  settleTime : Nat
  /-- idle, or running toward a settle time -/
  settleTimer : Option Nat
  settleDue : Bool
  rescanPending : Bool
  table : Option ProbeTable
  replay : Option Replay
deriving DecidableEq, Repr

/-! ### Feed channels (chapter 8) -/

/-- The modes of a channel (R134). -/
inductive ChanMode where
  | live | framed | final
deriving DecidableEq, Repr

/-- The flow settings of a channel (R134). -/
inductive FlowSetting where
  | none | xonxoff | line
deriving DecidableEq, Repr

/-- The states of a channel (R139). -/
inductive ChanState where
  | down | sending | held | lapsed
deriving DecidableEq, Repr

/-- A byte of a transmit FIFO, and whether it is a character byte (R137). -/
structure FifoByte where
  byte : Byte
  char : Bool
deriving DecidableEq, Repr

/-- The six settings of a channel (R134). -/
structure ChanSettings where
  mode : ChanMode
  flow : FlowSetting
  divisor : Nat
  resume : Nat
  /-- s, 0 = off -/
  stallLimit : Nat
  /-- s, 0 = off -/
  keepalive : Nat
deriving DecidableEq, Repr

/-- A feed channel (chapter 8). -/
structure Channel where
  settings : ChanSettings
  state : ChanState
  /-- oldest at the head -/
  fifo : List FifoByte
  /-- D, the displayed length -/
  shown : Nat
  /-- T, the trimmable count -/
  trimmable : Nat
  stopped : Bool
  /-- idle, or running toward a stall limit (s) -/
  stall : Option Nat
  /-- not running, or loaded with a period (s) -/
  keep : Option Nat
  /-- the byte in progress on FTXn: its start bit, data bits and stop bit, bit 0 first on the line, a
  set bit mark (R135); none: the line at mark -/
  wire : Option (BitVec 10)
  /-- the pin FCLRn: high = negated -/
  fclrHigh : Bool
  /-- a break has been detected and FRXn has not returned to mark since -/
  breakSeen : Bool
deriving DecidableEq, Repr

/-! ### Command Port (chapter 9) -/

/-- A frame as the CP keeps it (R162). -/
structure Frame where
  bytes : List Byte
  overLong : Bool
deriving DecidableEq, Repr

/-- A response (R167). -/
structure Response where
  status : Status
  code : Byte
  data : List Byte
deriving DecidableEq, Repr

/-- A report (R79, R116). -/
inductive Report where
  | stroke (keys : Stroke) (time : BitVec 32) (origin : Origin) (split stuckCut undoEmpty : Bool)
  | settled (source : Source) (outline : List Stroke) (text : List Byte) (truncated : Bool)
deriving DecidableEq, Repr

/-- What a lead byte makes of a transaction (R160). -/
inductive Transfer where
  | commandWrite | responseRead | reportRead | statusRead | void
deriving DecidableEq, Repr

/-- A transaction in progress (R160). -/
structure Transaction where
  /-- the port status byte, captured when SPSEL fell (R161) -/
  status : Byte
  /-- none until the lead byte is complete -/
  kind : Option Transfer
  /-- the bytes fixed on at the end of the lead byte (R169, R171, R172) -/
  frame : List Byte
  /-- the record fixed on still stands at the head of its queue (R169, R171) -/
  queued : Bool
deriving DecidableEq, Repr

/-- The select line and what it selects (R160, R180). -/
inductive Spi where
  /-- SPSEL high, SPDO undriven -/
  | idle
  | busy (t : Transaction)
  /-- SPSEL low since before a hard reset ended: what was selected is ignored until SPSEL rises -/
  | ignored
deriving DecidableEq, Repr

/-- The Command Port (chapter 9). -/
structure Cp where
  queue : List Frame
  /-- the command in execution, by its code -/
  executing : Option Byte
  responses : List Response
  reports : List Report
  /-- bits as the notice mask of R184 -/
  notices : Byte
  respEnable : Bool
  reportEnable : Bool
  noticeEnable : Byte
  trigger : Nat
  /-- RESTART frames of the restart in progress; 0: none in progress -/
  restarts : Nat
deriving DecidableEq, Repr

/-! ### The part -/

/-- The G410 with its SDRAM, its pins, and the queue of steps that wait. -/
structure State where
  ksu : Ksu
  strokeQueue : List StrokeRecord
  dict : Dict
  /-- the external SDRAM: addresses rising, no entry equal to `Config.sdramPowerOn` -/
  sdram : List Host.Cell
  mp : Mp
  te : Te
  /-- the speaker table (R108) -/
  speakers : Vector (List Byte) 16
  chans : Vector Channel 4
  cp : Cp
  /-- the SPI port -/
  spi : Spi
  /-- the bits shifted out on SPDO while SPSEL is low, since its fall or the hard reset it has outlasted,
  or else in the latest such time -/
  spdo : List Bool
  /-- the steps that wait, first in, first out: the model's own field -/
  pending : List Instr
deriving DecidableEq, Repr

/-- Why the part stops with a fault: never. No step of the guide stops the part, so no constructor is
here. -/
inductive Fault where
deriving DecidableEq, Repr

/-- Why a step has no meaning. -/
inductive Refusal where
  /-- Raised by `exec` for a row of the table without a meaning; no row of this model. Safe. -/
  | notModelled (mnemonic : String)
deriving DecidableEq, Repr

/-! ### Hard reset -/

/-- The hard-reset state of the KSU with every line high (R20). -/
def Ksu.reset : Ksu where
  line := BitVec.allOnes 23
  accepted := BitVec.allOnes 23
  debounce := Vector.replicate 23 none
  polarity := 0
  hostMask := 0
  stuckMask := 0
  hold := Vector.replicate 23 none
  debounceTime := 10
  ghostMin := 8
  stuckLimit := 3000
  stacking := true
  assembly := .idle
  strokeSet := 0
  chordStart := none
  firstRelease := none
  cutFlag := false
  carried := 0
  ghostCount := 0
  lostCount := 0
  clock := 0

/-- The hard-reset value of a slot descriptor of the given rank (2.2). -/
def Slot.reset (rank : Fin 4) : Slot where
  state := .vacant
  access := .shut
  lock := false
  base := 0
  size := 0
  buckets := 0
  entryCount := 0
  freeCount := 0
  freeHead := none
  rank := rank

/-- The hard-reset state of the Dictionary Store (R36). -/
def Dict.reset : Dict where
  memMiB := 0
  slots := #v[Slot.reset 0, Slot.reset 1, Slot.reset 2, Slot.reset 3]

/-- The hard-reset state of the Memory Port (R73). -/
def Mp.reset : Mp where
  share := 3
  lookupRun := 0
  probes := []
  gates := Vector.replicate 4 ⟨none, []⟩
  upkeep := none

/-- The hard-reset state of the TE (R96, R133). -/
def Te.reset : Te where
  state := .stopped
  run := false
  window := []
  settledFmt := Fmt.initial
  settleTime := 1500
  settleTimer := none
  settleDue := false
  rescanPending := false
  table := none
  replay := none

/-- The hard-reset settings of a channel (R134). -/
def ChanSettings.reset : ChanSettings := ⟨.live, .none, 192, 256, 30, 5⟩

/-- The hard-reset state of a channel whose FCLRn pin is at the given level (R159). -/
def Channel.reset (fclrHigh : Bool) : Channel where
  settings := ChanSettings.reset
  state := .down
  fifo := []
  shown := 0
  trimmable := 0
  stopped := false
  stall := none
  keep := none
  wire := none
  fclrHigh := fclrHigh
  breakSeen := false

/-- The hard-reset state of the Command Port (R180). -/
def Cp.reset : Cp where
  queue := []
  executing := none
  responses := []
  reports := []
  notices := 0
  respEnable := false
  reportEnable := false
  noticeEnable := 0
  trigger := 1
  restarts := 0

/-- The part right after a hard reset, with nothing written to its SDRAM, its key lines high, its
FCLRn lines low and SPSEL high (R20, R36, R73, R96, R108, R133, R159, R180; notes/assumptions/3.md). -/
def State.reset : State where
  ksu := Ksu.reset
  strokeQueue := []
  dict := Dict.reset
  sdram := []
  mp := Mp.reset
  te := Te.reset
  speakers := Vector.replicate 16 []
  chans := Vector.replicate 4 (Channel.reset false)
  cp := Cp.reset
  spi := .idle
  spdo := []
  pending := []

end Sys2Proof.Machine
end

