-- ==== Sys2Proof/Machine/Ops.lean ====
section
/-!
DEFINITION. The named operations every family uses: replacing one block of the state, the SDRAM and
its byte layouts (R61, R183), key sets and their timers, byte layouts of numbers, and the queues and
responses of the Command Port.
-/

namespace Sys2Proof.Machine

/-! ### Replacing one block -/

/-- `s` with another Key Sense Unit. -/
def State.withKsu (s : State) (k : Ksu) : State := { s with ksu := k }
/-- `s` with another stroke queue. -/
def State.withStrokeQueue (s : State) (q : List StrokeRecord) : State := { s with strokeQueue := q }
/-- `s` with another Dictionary Store. -/
def State.withDict (s : State) (d : Dict) : State := { s with dict := d }
/-- `s` with other SDRAM contents. -/
def State.withSdram (s : State) (m : List Host.Cell) : State := { s with sdram := m }
/-- `s` with another Memory Port. -/
def State.withMp (s : State) (m : Mp) : State := { s with mp := m }
/-- `s` with another Translation Engine. -/
def State.withTe (s : State) (t : Te) : State := { s with te := t }
/-- `s` with another speaker table. -/
def State.withSpeakers (s : State) (t : Vector (List Byte) 16) : State := { s with speakers := t }
/-- `s` with other feed channels. -/
def State.withChans (s : State) (c : Vector Channel 4) : State := { s with chans := c }
/-- `s` with another Command Port. -/
def State.withCp (s : State) (c : Cp) : State := { s with cp := c }
/-- `s` with another state of the SPI port. -/
def State.withSpi (s : State) (p : Spi) : State := { s with spi := p }
/-- `s` with other bits shifted out on SPDO. -/
def State.withSpdo (s : State) (b : List Bool) : State := { s with spdo := b }
/-- `s` with another queue of waiting steps. -/
def State.withPending (s : State) (p : List Instr) : State := { s with pending := p }

/-- `s` with slot `n` replaced. -/
def State.withSlot (s : State) (n : SlotNo) (d : Slot) : State :=
  s.withDict { s.dict with slots := s.dict.slots.set n d }
/-- `s` with the gate of slot `n` replaced. -/
def State.withGate (s : State) (n : SlotNo) (g : Gate) : State :=
  s.withMp { s.mp with gates := s.mp.gates.set n g }
/-- `s` with channel `n` replaced. -/
def State.withChan (s : State) (n : ChanNo) (c : Channel) : State :=
  s.withChans (s.chans.set n c)

/-- The descriptor of slot `n`. -/
def State.slot (s : State) (n : SlotNo) : Slot := s.dict.slots[n]
/-- The gate of slot `n`. -/
def State.gate (s : State) (n : SlotNo) : Gate := s.mp.gates[n]
/-- Channel `n`. -/
def State.chan (s : State) (n : ChanNo) : Channel := s.chans[n]

/-! ### The external SDRAM (R61) -/

/-- The byte at an address; an address nothing has written reads as `Config.sdramPowerOn`. -/
def readByte : List Host.Cell → Nat → Byte
  | [], _ => Config.sdramPowerOn
  | (b, v) :: rest, a => if b = a then v else readByte rest a

/-- The memory with one byte written, in canonical form: addresses rising, no entry equal to what
an unlisted address reads as. -/
def writeByte : List Host.Cell → Nat → Byte → List Host.Cell
  | [], a, v => if v = Config.sdramPowerOn then [] else [(a, v)]
  | (b, w) :: rest, a, v =>
      if a < b then (if v = Config.sdramPowerOn then (b, w) :: rest else (a, v) :: (b, w) :: rest)
      else if a = b then (if v = Config.sdramPowerOn then rest else (a, v) :: rest)
      else (b, w) :: writeByte rest a v

/-- The memory with consecutive bytes written from an address on. -/
def writeBytes (m : List Host.Cell) (a : Nat) : List Byte → List Host.Cell
  | [] => m
  | v :: rest => writeBytes (writeByte m a v) (a + 1) rest

/-- Consecutive bytes read from an address on. -/
def readBytes (m : List Host.Cell) (a : Nat) : Nat → List Byte
  | 0 => []
  | n + 1 => readByte m a :: readBytes m (a + 1) n

/-- Whether every entry lies above an address and none equals what an unlisted address reads as. -/
def Memory.wfFrom : Nat → List Host.Cell → Bool
  | _, [] => true
  | least, (a, v) :: rest =>
      decide (least ≤ a) && v != Config.sdramPowerOn && Memory.wfFrom (a + 1) rest

/-- The canonical form of the SDRAM's contents. -/
def Memory.wf (m : List Host.Cell) : Bool := Memory.wfFrom 0 m

/-- The byte address of a cell of the window at `base` (2.4). -/
def cellAddr (base cell : Nat) : Nat := base + Config.cellBytes * cell

/-- The 32 bytes of a cell of the window at `base`. -/
def readCell (m : List Host.Cell) (base cell : Nat) : List Byte :=
  readBytes m (cellAddr base cell) Config.cellBytes

/-- The memory with bytes written into a cell of the window at `base` from byte `at_` on. -/
def writeCell (m : List Host.Cell) (base cell at_ : Nat) (bytes : List Byte) : List Host.Cell :=
  writeBytes m (cellAddr base cell + at_) bytes

/-! ### Numbers and links as bytes, most significant byte first -/

/-- A count as one byte. -/
def byteOf (n : Nat) : Byte := BitVec.ofNat 8 n
/-- A count as two bytes. -/
def bytes2 (n : Nat) : List Byte := bytesOf16 (BitVec.ofNat 16 n)
/-- A count as three bytes. -/
def bytes3 (n : Nat) : List Byte := bytesOf24 (BitVec.ofNat 24 n)
/-- A count as four bytes. -/
def bytes4 (n : Nat) : List Byte := bytesOf32 (BitVec.ofNat 32 n)
/-- A truth value as a byte, 0 or 1. -/
def byteOfBool (b : Bool) : Byte := if b then 1 else 0
/-- A key set as three bytes (R181). -/
def bytesOfKeys (k : KeySet) : List Byte := bytesOf24 (k.setWidth 24)

/-- The value of NONE in a link (R41). -/
def noneLink : Nat := 0xFFFFFF

/-- A link as its three bytes (R183). -/
def linkBytes : Link → List Byte
  | none => bytes3 noneLink
  | some cell => bytes3 cell

/-- The link three bytes hold (R183). -/
def linkOf (bytes : List Byte) : Link :=
  match bytes with
  | [a, b, c] => if (word24 a b c).toNat = noneLink then none else some (word24 a b c).toNat
  | _ => none

/-! ### Keys (chapter 1) -/

/-- The keys in steno order (R1). -/
def allKeys : List Key :=
  [0, 1, 2, 3, 4, 5, 6, 7, 8, 9, 10, 11, 12, 13, 14, 15, 16, 17, 18, 19, 20, 21, 22]

/-- The slots, and the channels, in order of number. -/
def allFour : List (Fin 4) := [0, 1, 2, 3]

/-- The set of one key. -/
def keyBit (k : Key) : KeySet := BitVec.twoPow 23 k.val

/-- Whether a key is in a set. -/
def hasKey (set : KeySet) (k : Key) : Bool := set.getLsbD k.val

/-- A set with a key put in. -/
def addKey (set : KeySet) (k : Key) : KeySet := set ||| keyBit k

/-- A set with a key taken out. -/
def dropKey (set : KeySet) (k : Key) : KeySet := set &&& ~~~keyBit k

/-- A set with a key in or out. -/
def putKey (set : KeySet) (k : Key) (member : Bool) : KeySet :=
  if member then addKey set k else dropKey set k

/-- The keys that are down: the accepted level is the pressed level under the polarity (R2). -/
def Ksu.down (k : Ksu) : KeySet := ~~~(k.accepted ^^^ k.polarity)

/-- The stroke keys that are still down (R6). A carried key is none of them, though it may have been a
stroke key before its release: it takes no part in a stroke until it is released and pressed again
(R3; notes/assumptions/8.md). -/
def Ksu.stillDown (k : Ksu) : KeySet :=
  k.strokeSet &&& k.down &&& ~~~k.hostMask &&& ~~~k.stuckMask &&& ~~~k.carried

/-- The keys that a RESTART makes carried: down and out of both masks (R19). -/
def Ksu.downUnmasked (k : Ksu) : KeySet := k.down &&& ~~~k.hostMask &&& ~~~k.stuckMask

/-- One timer of the 23 replaced. -/
def setTimer (t : Vector (Option Nat) 23) (k : Key) (v : Option Nat) : Vector (Option Nat) 23 :=
  t.set k v

/-- A saturating count, one higher (R9, R16). -/
def satInc (n : Nat) : Nat := min (n + 1) Config.countLimit

/-! ### The Command Port's queues (chapter 9) -/

/-- Free places of the report queue (R170). -/
def State.freeReports (s : State) : Nat := Config.reportQueuePlaces - s.cp.reports.length

/-- A report at the tail of the report queue (R170). -/
def State.pushReport (s : State) (r : Report) : State :=
  s.withCp { s.cp with reports := s.cp.reports ++ [r] }

/-- The conditions of R164 but for the waiting frame. -/
def State.canBegin (s : State) : Bool :=
  s.cp.executing.isNone && s.cp.restarts == 0 &&
    decide (s.cp.responses.length < Config.responseQueuePlaces)

/-- The command in execution becomes the one with this code (R164). -/
def State.beginExecution (s : State) (code : Byte) : State :=
  s.withCp { s.cp with executing := some code }

/-- The command in execution ends without a response (R177). -/
def State.endSilently (s : State) : State := s.withCp { s.cp with executing := none }

/-- The command in execution ends: its response is placed at the tail of the response queue, or
discarded where a restart is in progress (R166, R177). -/
def State.respond (s : State) (status : Status) (data : List Byte) : State :=
  if s.cp.restarts = 0 then
    s.withCp { s.cp with
      executing := none
      responses := s.cp.responses ++ [⟨status, s.cp.executing.getD 0, data⟩] }
  else s.endSilently

/-- DONE without data. -/
def State.done (s : State) : State := s.respond .done []

/-- A refusal, which carries no data (R167). -/
def State.refuse (s : State) (status : Status) : State := s.respond status []

/-! ### Reading the dictionary store -/

/-- Translation consults the slot (2.7). -/
def Slot.consulted (d : Slot) : Bool := d.access == .lookup || d.access == .full

/-- The slots from rank 0 to rank 3 (2.8). -/
def Dict.rankOrder (d : Dict) : List SlotNo :=
  allFour.flatMap fun r => allFour.filter fun n => d.slots[n].rank == r

/-- The consulted slots in rank order. -/
def Dict.consultedSlots (d : Dict) : List SlotNo :=
  d.rankOrder.filter fun n => d.slots[n].consulted

/-- The number of cells of a window of `size` bytes. -/
def cellsOf (size : Nat) : Nat := size / Config.cellBytes

/-- The number of cells of a slot's window. -/
def Slot.cells (d : Slot) : Nat := cellsOf d.size

end Sys2Proof.Machine
end

