-- ==== Sys2Proof/Machine/Flags.lean ====
section
/-!
DEFINITION. The status flags of the part: the sticky notices (R173), the interrupt line HINT
(R175), the port status byte (R161, R184), and the codes of enumerated values (R168, R184).
-/

namespace Sys2Proof.Machine

/-- The notice mask of a bit number of R184. -/
def noticeBit (n : Nat) : Byte := BitVec.twoPow 8 n

/-- STROKE_LOST (R184). -/
def strokeLost : Byte := noticeBit 0
/-- KEY_STUCK (R184). -/
def keyStuck : Byte := noticeBit 1
/-- PROTECT (R184). -/
def protect : Byte := noticeBit 2
/-- COMMAND_DROPPED (R184). -/
def commandDropped : Byte := noticeBit 3
/-- LAPSEn (R184). -/
def lapseNotice (n : ChanNo) : Byte := noticeBit (4 + n.val)

/-- The named notices are set; a notice set while already set stays set (R173). -/
def State.setNotices (s : State) (mask : Byte) : State :=
  s.withCp { s.cp with notices := s.cp.notices ||| mask }

/-- A frame as the CP keeps it: its first 256 bytes, and a mark where there were more (R162). -/
def keepFrame (bytes : List Byte) : Frame :=
  ⟨bytes.take Config.frameBytes, decide (Config.frameBytes < bytes.length)⟩

/-- A frame that is no RESTART frame is placed at the tail of the command queue, or discarded with
COMMAND_DROPPED set where 4 frames wait (R163). -/
def State.placeFrame (s : State) (f : Frame) : State :=
  if s.cp.queue.length < Config.commandQueuePlaces then
    s.withCp { s.cp with queue := s.cp.queue ++ [f] }
  else s.setNotices commandDropped

/-- The host's frame for a command arrives (R163). Where the CP can begin a command and no frame
waits before it, the command executes at once (R164, R166); otherwise the frame waits its turn or
is dropped. This is the meaning of every command row of the table (notes/assumptions/5.md). -/
def hostCommand (c : Command) (effect : State → State) (s : State) : State :=
  if s.canBegin && s.cp.queue.isEmpty then effect (s.beginExecution c.code)
  else s.placeFrame (keepFrame c.frame)

/-- Whether HINT is asserted, from moment to moment (R175). -/
def State.hint (s : State) : Bool :=
  (s.cp.respEnable && !s.cp.responses.isEmpty) ||
    (s.cp.reportEnable && decide (s.cp.trigger ≤ s.cp.reports.length)) ||
    s.cp.notices &&& s.cp.noticeEnable != 0

/-- The command-queue free count (R161). -/
def State.freeFrames (s : State) : Nat := Config.commandQueuePlaces - s.cp.queue.length

/-- The port status byte, captured when SPSEL falls (R161, R184). -/
def State.portStatus (s : State) : Byte :=
  byteOf s.freeFrames
    ||| (if s.cp.responses.isEmpty then 0 else 0x08)
    ||| (if s.cp.reports.isEmpty then 0 else 0x10)
    ||| (if s.hint then 0x20 else 0)

/-- The code of a status (R168). -/
def Status.code : Status → Byte
  | .done => 0x00
  | .badFrame => 0x01
  | .badArg => 0x02
  | .badState => 0x03
  | .protectedSlot => 0x04
  | .locked => 0x05
  | .duplicate => 0x06
  | .notFound => 0x07
  | .noSpace => 0x08
  | .bucketFull => 0x09
  | .badText => 0x0A
  | .overlap => 0x0B
  | .queueFull => 0x0C

/-- TE state codes (R184). -/
def TeState.code : TeState → Byte
  | .stopped => 0
  | .waiting => 1
  | .resolving => 2
  | .rescanning => 3

/-- Assembly state codes (R184). -/
def AssemblyState.code : AssemblyState → Byte
  | .idle => 0
  | .chord => 1
  | .release => 2

/-- Slot state codes (R184). -/
def SlotState.code : SlotState → Byte
  | .vacant => 0
  | .unformatted => 1
  | .formatting => 2
  | .ready => 3

/-- Access codes (R184). -/
def Access.code : Access → Byte
  | .shut => 0
  | .lookup => 1
  | .maintain => 2
  | .full => 3

/-- Channel state codes (R184). -/
def ChanState.code : ChanState → Byte
  | .down => 0
  | .sending => 1
  | .held => 2
  | .lapsed => 3

/-- Record source codes (R184). -/
def Source.code : Source → Byte
  | .slot n => byteOf n.val
  | .number => 4
  | .raw => 5

/-- Stroke origin codes (R184). -/
def Origin.code : Origin → Byte
  | .keyboard => 0
  | .injected => 1

/-- Case mode codes (R184). -/
def CaseMode.code : CaseMode → Byte
  | .none => 0
  | .upper => 1
  | .lower => 2

/-- Byte 1 of a format state (R184). -/
def Fmt.byte1 (f : Fmt) : Byte :=
  byteOfBool f.lineStart ||| (byteOfBool f.attachNext <<< 1) ||| (byteOfBool f.glueLast <<< 2)
    ||| (f.caseMode.code <<< 3)

/-- Byte 2 of a format state (R184). -/
def Fmt.byte2 (f : Fmt) : Byte :=
  match f.speaker with
  | some n => byteOf n.val
  | none => 16

/-- A response as its frame (R185). -/
def Response.frame (r : Response) : List Byte :=
  byteOf (2 + r.data.length) :: r.status.code :: r.code :: r.data

/-- The bytes of a report after its length byte (R186). -/
def Report.body : Report → List Byte
  | .stroke keys time origin split stuckCut undoEmpty =>
      0x01 :: bytesOf24 keys ++ bytesOf32 time ++
        [origin.code,
          byteOfBool split ||| (byteOfBool stuckCut <<< 1) ||| (byteOfBool undoEmpty <<< 2)]
  | .settled source outline text truncated =>
      [0x02, source.code, byteOfBool truncated, byteOf outline.length] ++ strokeBytes outline ++
        byteOf text.length :: text

/-- A report as its frame (R186). -/
def Report.frame (r : Report) : List Byte := byteOf r.body.length :: r.body

/-- The status record of R172, laid out as R184 gives. -/
def State.statusRecord (s : State) : List Byte :=
  [byteOf s.freeFrames, byteOfBool s.cp.executing.isSome, s.cp.executing.getD 0,
    byteOf s.cp.responses.length, byteOf s.cp.reports.length, s.cp.notices, byteOfBool s.hint,
    s.te.state.code, byteOf s.strokeQueue.length, byteOfBool (s.cp.restarts != 0)]

end Sys2Proof.Machine
end

