-- ==== Sys2Proof/Machine/Operands.lean ====
section
/-!
DEFINITION. The operand forms of the commands: the coded sets, ranges and clamps that the chapters
give for parameters, and the checks on outlines, texts and labels.
-/

namespace Sys2Proof.Machine

/-- A slot number in its range, 0 to 3 (R22, R49). -/
def slotOf (b : Byte) : Option SlotNo := if h : b.toNat < 4 then some ⟨b.toNat, h⟩ else none

/-- A channel number in its range, 0 to 3 (R134, R155, R156, R157). -/
def chanOf (b : Byte) : Option ChanNo := if h : b.toNat < 4 then some ⟨b.toNat, h⟩ else none

/-- A speaker number in its range, 0 to 15 (R109). -/
def speakerOf (b : Byte) : Option (Fin 16) :=
  if h : b.toNat < 16 then some ⟨b.toNat, h⟩ else none

/-- The largest key-set value (R1). -/
def maxKeySet : Nat := 8388607

/-- A key set, where the value is no more than 8,388,607 (R1). -/
def keySetOf (v : Stroke) : Option KeySet :=
  if v.toNat ≤ maxKeySet then some (v.setWidth 23) else none

/-- A stroke: a non-empty key set (R1). -/
def isStroke (v : Stroke) : Bool := decide (1 ≤ v.toNat) && decide (v.toNat ≤ maxKeySet)

/-- An access code (R184). -/
def accessOf (b : Byte) : Option Access :=
  match b.toNat with
  | 0 => some .shut
  | 1 => some .lookup
  | 2 => some .maintain
  | 3 => some .full
  | _ => none

/-- A mode code (R134). -/
def modeOf (b : Byte) : Option ChanMode :=
  match b.toNat with
  | 0 => some .live
  | 1 => some .framed
  | 2 => some .final
  | _ => none

/-- A flow code (R134). -/
def flowOf (b : Byte) : Option FlowSetting :=
  match b.toNat with
  | 0 => some .none
  | 1 => some .xonxoff
  | 2 => some .line
  | _ => none

/-- A setting clamped into its range (conventions). -/
def clamp (low high n : Nat) : Nat := max low (min high n)

/-- The memory sizes of R21, in MiB. -/
def memorySizes : List Nat := [8, 16, 32, 64]

/-- The window sizes of R23: the powers of two from 64 KiB to 16 MiB. -/
def windowSizes : List Nat :=
  [65536, 131072, 262144, 524288, 1048576, 2097152, 4194304, 8388608, 16777216]

/-- The bucket counts of R24: the powers of two from 1,024 to 262,144. -/
def bucketCounts : List Nat :=
  [1024, 2048, 4096, 8192, 16384, 32768, 65536, 131072, 262144]

/-- The exponent of a window size, 16 to 24, or 0 for none (R185). -/
def sizeExponent (size : Nat) : Nat := if size = 0 then 0 else Nat.log2 size

/-- The share settings of R70. -/
def shareSettings : List Nat := [1, 3, 7, 15]

/-- The four slot numbers of SET_RANKS, where they are a permutation of 0 to 3 (R31). -/
def rankListOf (r0 r1 r2 r3 : Byte) : Option (List SlotNo) :=
  match slotOf r0, slotOf r1, slotOf r2, slotOf r3 with
  | some a, some b, some c, some d =>
      if [a, b, c, d].Nodup then some [a, b, c, d] else none
  | _, _, _, _ => none

/-- An outline an entry operation takes: 1 to 8 strokes (R50). -/
def outlineOk (outline : List Stroke) : Bool :=
  decide (1 ≤ outline.length) && decide (outline.length ≤ 8) && outline.all isStroke

/-- The four entry flags are bits 0 to 3 (R183). -/
def entryFlagMask : Byte := 0x0F

/-- ATTACH_BEFORE (R183). -/
def attachBefore (flags : Byte) : Bool := flags.getLsbD 0
/-- ATTACH_AFTER (R183). -/
def attachAfter (flags : Byte) : Bool := flags.getLsbD 1
/-- GLUE (R183). -/
def glue (flags : Byte) : Bool := flags.getLsbD 2
/-- SETTLE_BEFORE (R183). -/
def settleBefore (flags : Byte) : Bool := flags.getLsbD 3
/-- GLUE alone, the flags of a NUMBER record (R88). -/
def glueFlag : Byte := 0x04

/-- The flags and text length an entry write takes (R50). -/
def writeArgsOk (flags : Byte) (text : List Byte) : Bool :=
  flags &&& ~~~entryFlagMask == 0 && decide (text.length ≤ 160)

/-- A printable character (R38). -/
def isPrintable (b : Byte) : Bool := decide (0x20 ≤ b.toNat) && decide (b.toNat ≤ 0x7E)

/-- A byte that is a text item (R38, R182). -/
def isTextItem (b : Byte) : Bool :=
  isPrintable b || b == 0x01 || b == 0x02 || b == 0x03 ||
    (decide (0x80 ≤ b.toNat) && decide (b.toNat ≤ 0x8F))

/-- The coded values 0 and 1 of SET_STACKING (R8) and KEY_INFO (R18). -/
def bit01Of (b : Byte) : Option Bool :=
  match b.toNat with
  | 0 => some false
  | 1 => some true
  | _ => none

end Sys2Proof.Machine
end

