-- ==== Sys2Proof/Machine/Keyboard.lean ====
section
/-!
DEFINITION. The Key Sense Unit and the stroke queue (chapter 1): key lines and debounce, stroke
assembly, ghost, stacked and stuck strokes, the stroke clock, and the commands SET_KEY_TIMING,
SET_KEY_POLARITY, SET_KEY_MASK, SET_STACKING, INJECT_STROKE, SET_CLOCK and KEY_INFO.
-/

namespace Sys2Proof.Machine

/-! ### Stroke assembly (1.3) -/

/-- A record offered from stroke assembly: placed at the tail of the stroke queue, or counted and
noticed as lost where 16 wait (R16). -/
def State.offerStroke (s : State) (r : StrokeRecord) : State :=
  if s.strokeQueue.length < Config.strokeQueuePlaces then s.withStrokeQueue (s.strokeQueue ++ [r])
  else (s.withKsu { s.ksu with lostCount := satInc s.ksu.lostCount }).setNotices strokeLost

/-- The chord duration of the stroke in progress, modulo 2^32 ms (R9). -/
def Ksu.duration (k : Ksu) : BitVec 32 := k.firstRelease.getD 0 - k.chordStart.getD 0

/-- The record of the stroke in progress (R9). -/
def Ksu.strokeRecord (k : Ksu) (split : Bool) : StrokeRecord where
  keys := k.strokeSet.setWidth 24
  time := k.chordStart.getD 0
  origin := .keyboard
  split := split
  stuckCut := k.cutFlag

/-- Stroke assembly with no stroke in progress (1.3). -/
def Ksu.toIdle (k : Ksu) : Ksu :=
  { k with
    assembly := .idle
    strokeSet := 0
    chordStart := none
    firstRelease := none
    cutFlag := false }

/-- The stroke in progress closes: a ghost is discarded and counted, any other stroke is offered to
the stroke queue (R9). -/
def State.closeStroke (s : State) (split : Bool) : State :=
  if s.ksu.duration.toNat < s.ksu.ghostMin then
    s.withKsu { s.ksu.toIdle with ghostCount := satInc s.ksu.ghostCount }
  else (s.withKsu s.ksu.toIdle).offerStroke (s.ksu.strokeRecord split)

/-- A stroke begins with key `k` (R6, R8). -/
def State.beginStroke (s : State) (k : Key) : State :=
  s.withKsu { s.ksu with
    strokeSet := keyBit k
    chordStart := some s.ksu.clock
    firstRelease := none
    assembly := .chord }

/-- A press splits the stroke in progress: it closes flagged SPLIT, its keys still down (the key
pressed apart) become carried, and a new stroke begins (R8). -/
def State.splitStroke (s : State) (k : Key) : State :=
  let carry := dropKey s.ksu.stillDown k
  let closed := s.closeStroke true
  (closed.withKsu { closed.ksu with carried := closed.ksu.carried ||| carry }).beginStroke k

/-- The hold timer of `k` starts from now (R10). -/
def State.startHold (s : State) (k : Key) : State :=
  s.withKsu { s.ksu with hold := setTimer s.ksu.hold k (some 0) }

/-- The hold timer of `k` stops (R10). -/
def State.stopHold (s : State) (k : Key) : State :=
  s.withKsu { s.ksu with hold := setTimer s.ksu.hold k none }

/-- Stroke assembly takes a press of `k` (R6, R8, R10). -/
def State.pressKey (s : State) (k : Key) : State :=
  let joined := s.withKsu { s.ksu with strokeSet := addKey s.ksu.strokeSet k }
  let taken := match s.ksu.assembly with
    | .idle => s.beginStroke k
    | .chord => joined
    | .release => if s.ksu.stacking then s.splitStroke k else joined
  taken.startHold k

/-- After a stroke key's release: the stroke goes on in RELEASE, or closes where no stroke key is
left down (R7). -/
def State.afterRelease (s : State) : State :=
  if s.ksu.stillDown = 0 then s.closeStroke false
  else s.withKsu { s.ksu with assembly := .release }

/-- The first-release time after a release in the present state (R7). -/
def Ksu.releaseTime (k : Ksu) : Option (BitVec 32) :=
  match k.assembly with
  | .chord => some k.clock
  | _ => k.firstRelease

/-- Stroke assembly takes a release of `k`, which no longer counts as down (R7). -/
def State.releaseKey (s : State) (k : Key) : State :=
  if hasKey s.ksu.carried k then
    (s.withKsu { s.ksu with carried := dropKey s.ksu.carried k }).stopHold k
  else if hasKey s.ksu.strokeSet k then
    ((s.withKsu { s.ksu with firstRelease := s.ksu.releaseTime }).stopHold k).afterRelease
  else s

/-- The hold timer of `k` has reached the stuck limit: the key enters the stuck mask, KEY_STUCK is
set, and the key is cut from the stroke or the carried set (R12). -/
def State.cutKey (s : State) (k : Key) : State :=
  let stuck := ((s.withKsu { s.ksu with
      stuckMask := addKey s.ksu.stuckMask k
      cutFlag := true }).stopHold k).setNotices keyStuck
  let takes := hasKey s.ksu.carried k || hasKey s.ksu.stillDown k
  let cut := if takes then stuck.releaseKey k else stuck
  cut.withKsu { cut.ksu with cutFlag := false }

/-! ### Key lines (1.2) -/

/-- The debounce timer a line needs: running while its level differs from the accepted level. -/
def Ksu.lineTo (u : Ksu) (k : Key) (high : Bool) : Ksu :=
  { u with
    line := putKey u.line k high
    debounce :=
      if high = hasKey u.accepted k then setTimer u.debounce k none
      else match u.debounce[k] with
        | some _ => u.debounce
        | none => setTimer u.debounce k (some u.debounceTime) }

/-- LINE_LEVEL_CHANGE: the debounce timer starts when the level differs from the accepted level,
and returns to idle when the line returns to it (R2). -/
def execLineLevelChange (k : Key) (high : Bool) (s : State) : Host.Outcome State Fault Refusal :=
  .next (s.withKsu (s.ksu.lineTo k high))

/-- The line's level is accepted and the debounce timer returns to idle (R2). -/
def Ksu.accept (u : Ksu) (k : Key) : Ksu :=
  { u with
    accepted := putKey u.accepted k (hasKey u.line k)
    debounce := setTimer u.debounce k none }

/-- A key's level is accepted: a press, a release, or no event for a masked key; a key in the stuck
mask that becomes up leaves it (R2, R14). -/
def State.acceptLevel (s : State) (k : Key) : State :=
  let t := s.withKsu (s.ksu.accept k)
  if hasKey t.ksu.down k = hasKey s.ksu.down k then t
  else if hasKey s.ksu.stuckMask k then
    (if hasKey t.ksu.down k then t
     else t.withKsu { t.ksu with stuckMask := dropKey t.ksu.stuckMask k })
  else if hasKey s.ksu.hostMask k then t
  else if hasKey t.ksu.down k then t.pressKey k
  else t.releaseKey k

/-- DEBOUNCE_EXPIRY: a running debounce timer expires (R2). -/
def execDebounceExpiry (k : Key) (s : State) : Host.Outcome State Fault Refusal :=
  .next (if (s.ksu.debounce[k]).isSome then s.acceptLevel k else s)

/-- HOLD_TIMER_EXPIRY: a running hold timer reaches the stuck limit (R12). -/
def execHoldTimerExpiry (k : Key) (s : State) : Host.Outcome State Fault Refusal :=
  .next (if (s.ksu.hold[k]).isSome then s.cutKey k else s)

/-- STROKE_CLOCK_TICK: the stroke clock counts one millisecond, and so does every running hold
timer (R10, R15). -/
def execStrokeClockTick (s : State) : Host.Outcome State Fault Refusal :=
  .next (s.withKsu { s.ksu with
    clock := s.ksu.clock + 1
    hold := Vector.ofFn fun k : Key => s.ksu.hold[k].map (· + 1) })

/-! ### Commands -/

/-- The keys whose hold timers have run for at least the stuck limit (R5). -/
def Ksu.overdue (u : Ksu) : List Key :=
  allKeys.filter fun k => match u.hold[k] with
    | some run => decide (u.stuckLimit ≤ run)
    | none => false

/-- SET_KEY_TIMING (R5). That a stroke closed by a key that the new stuck limit catches is tested against
the new ghost minimum is the model's choice (notes/assumptions/20.md). -/
def cmdSetKeyTiming (debounce ghost : Byte) (stuck : BitVec 16) (s : State) : State :=
  let t := s.withKsu { s.ksu with
    debounceTime := clamp 2 50 debounce.toNat
    ghostMin := clamp 0 30 ghost.toNat
    stuckLimit := clamp 500 10000 stuck.toNat }
  (t.ksu.overdue.foldl State.cutKey t).done

/-- A polarity change takes key `k`, which was down if `wasDown` and has changed its meaning (R3). -/
def State.turnKey (s : State) (k : Key) (wasDown : Bool) : State :=
  if wasDown then
    let masked := hasKey s.ksu.hostMask k || hasKey s.ksu.stuckMask k
    let t := (if masked then s else s.releaseKey k).stopHold k
    t.withKsu { t.ksu with
      carried := dropKey t.ksu.carried k
      stuckMask := dropKey t.ksu.stuckMask k }
  else if hasKey s.ksu.hostMask k then s
  else (s.withKsu { s.ksu with carried := addKey s.ksu.carried k }).startHold k

/-- SET_KEY_POLARITY: all the changes carry one time, and a key that is turned down is carried
before a release is looked at (R3; notes/assumptions/8.md). -/
def cmdSetKeyPolarity (keys : Stroke) (s : State) : State :=
  match keySetOf keys with
  | none => s.refuse .badArg
  | some high =>
      let changed := s.ksu.polarity ^^^ high
      let turnedDown := allKeys.filter (hasKey (changed &&& ~~~s.ksu.down))
      let turnedUp := allKeys.filter (hasKey (changed &&& s.ksu.down))
      let t := s.withKsu { s.ksu with polarity := high }
      (turnedUp.foldl (fun u k => u.turnKey k true)
        (turnedDown.foldl (fun u k => u.turnKey k false) t)).done

/-- A key that is down and not stuck enters the host mask (R4). -/
def State.maskKey (s : State) (k : Key) : State := (s.releaseKey k).stopHold k

/-- A key that is down and not stuck leaves the host mask (R4). -/
def State.unmaskKey (s : State) (k : Key) : State :=
  (s.withKsu { s.ksu with carried := addKey s.ksu.carried k }).startHold k

/-- SET_KEY_MASK: keys that leave the mask down are carried before the releases of those that enter it
are looked at, all at one time (R4; notes/assumptions/8.md). -/
def cmdSetKeyMask (keys : Stroke) (s : State) : State :=
  match keySetOf keys with
  | none => s.refuse .badArg
  | some mask =>
      let downFree := s.ksu.down &&& ~~~s.ksu.stuckMask
      let entering := allKeys.filter (hasKey (mask &&& ~~~s.ksu.hostMask &&& downFree))
      let leaving := allKeys.filter (hasKey (s.ksu.hostMask &&& ~~~mask &&& downFree))
      let t := s.withKsu { s.ksu with hostMask := mask }
      (entering.foldl State.maskKey (leaving.foldl State.unmaskKey t)).done

/-- SET_STACKING (R8). -/
def cmdSetStacking (value : Byte) (s : State) : State :=
  match bit01Of value with
  | none => s.refuse .badArg
  | some on => (s.withKsu { s.ksu with stacking := on }).done

/-- INJECT_STROKE (R17). That a bad value is refused before the queue is looked at, of which the guide
gives no order, is the model's choice (notes/assumptions/18.md). -/
def cmdInjectStroke (keys : Stroke) (s : State) : State :=
  if !isStroke keys then s.refuse .badArg
  else if s.strokeQueue.length < Config.strokeQueuePlaces then
    (s.withStrokeQueue (s.strokeQueue ++ [⟨keys, s.ksu.clock, .injected, false, false⟩])).done
  else s.refuse .queueFull

/-- SET_CLOCK: the times of the stroke in progress move with the clock (R15). -/
def cmdSetClock (value : BitVec 32) (s : State) : State :=
  let move := value - s.ksu.clock
  (s.withKsu { s.ksu with
    clock := value
    chordStart := s.ksu.chordStart.map (· + move)
    firstRelease := s.ksu.firstRelease.map (· + move) }).done

/-- The data of KEY_INFO (R18, R185). -/
def State.keyInfoData (s : State) : List Byte :=
  bytesOfKeys s.ksu.down ++ bytesOfKeys s.ksu.carried ++ bytesOfKeys s.ksu.hostMask ++
    bytesOfKeys s.ksu.stuckMask ++ bytesOfKeys s.ksu.strokeSet ++ [s.ksu.assembly.code] ++
    bytes2 s.ksu.ghostCount ++ bytes2 s.ksu.lostCount ++ [byteOf s.strokeQueue.length]

/-- KEY_INFO (R18). -/
def cmdKeyInfo (clear : Byte) (s : State) : State :=
  match bit01Of clear with
  | none => s.refuse .badArg
  | some false => s.respond .done s.keyInfoData
  | some true =>
      (s.withKsu { s.ksu with ghostCount := 0, lostCount := 0 }).respond .done s.keyInfoData

/-- A RESTART on the KSU and the stroke queue (R19). -/
def State.restartKeys (s : State) : State :=
  (s.withKsu { s.ksu.toIdle with carried := s.ksu.downUnmasked }).withStrokeQueue []

/-- The KSU after a hard reset, its lines read afresh: a debounce timer starts on every line whose
level differs from the accepted level, high (R2, R20). -/
def Ksu.hardReset (u : Ksu) : Ksu :=
  { Ksu.reset with
    line := u.line
    debounce := Vector.ofFn fun k : Key =>
      if hasKey u.line k then none else some Ksu.reset.debounceTime }

/-- The row SET_KEY_TIMING. -/
def execSetKeyTiming (d g : Byte) (st : BitVec 16) (s : State) : Host.Outcome State Fault Refusal :=
  .next (hostCommand (.setKeyTiming d g st) (cmdSetKeyTiming d g st) s)

/-- The row SET_KEY_POLARITY. -/
def execSetKeyPolarity (keys : Stroke) (s : State) : Host.Outcome State Fault Refusal :=
  .next (hostCommand (.setKeyPolarity keys) (cmdSetKeyPolarity keys) s)

/-- The row SET_KEY_MASK. -/
def execSetKeyMask (keys : Stroke) (s : State) : Host.Outcome State Fault Refusal :=
  .next (hostCommand (.setKeyMask keys) (cmdSetKeyMask keys) s)

/-- The row SET_STACKING. -/
def execSetStacking (value : Byte) (s : State) : Host.Outcome State Fault Refusal :=
  .next (hostCommand (.setStacking value) (cmdSetStacking value) s)

/-- The row INJECT_STROKE. -/
def execInjectStroke (keys : Stroke) (s : State) : Host.Outcome State Fault Refusal :=
  .next (hostCommand (.injectStroke keys) (cmdInjectStroke keys) s)

/-- The row SET_CLOCK. -/
def execSetClock (value : BitVec 32) (s : State) : Host.Outcome State Fault Refusal :=
  .next (hostCommand (.setClock value) (cmdSetClock value) s)

/-- The row KEY_INFO. -/
def execKeyInfo (clear : Byte) (s : State) : Host.Outcome State Fault Refusal :=
  .next (hostCommand (.keyInfo clear) (cmdKeyInfo clear) s)

end Sys2Proof.Machine
end

