-- ==== Sys2Proof/Machine/Channels.lean ====
section
/-!
DEFINITION. The feed channels FC0 to FC3 (chapter 8): encoding, the transmit FIFO, flow control, the
displayed and trimmable counts, the applying of channel updates, lapse, recovery, refresh, keepalive,
and the commands SET_CHANNEL, CHANNEL_ON, CHANNEL_OFF and CHANNEL_INFO.
-/

namespace Sys2Proof.Machine

/-- A line-break of emitted text (R182). -/
def lineBreak : Byte := 0x0A

/-- The open text of a window: its records' emitted texts end to end (R113). -/
def openTextOf (window : List Record) : List Byte := window.flatMap fun r => r.data.text

/-- The open text as it stands (R113). -/
def State.openText (s : State) : List Byte := openTextOf s.te.window

/-! ### Encoding (R136) -/

/-- A character byte of a FIFO (R137). -/
def charByte (b : Byte) : FifoByte := ⟨b, true⟩
/-- A control byte of a FIFO (R137). -/
def controlByte (b : Byte) : FifoByte := ⟨b, false⟩

/-- A revising mode shows the open text and corrects it (R134). -/
def ChanMode.revising (m : ChanMode) : Bool := m == .live || m == .framed

/-- The erase sequences of a FRAMED channel for `m` characters: ⌊m / 255⌋ of 255 and one of the rest,
if any (R136). -/
def framedErase (m : Nat) : List Byte :=
  (List.replicate (m / 255) [0x1E, 0x45, 0xFF]).flatten ++
    (if m % 255 = 0 then [] else [0x1E, 0x45, byteOf (m % 255)])

/-- The erase of `m` characters in a mode (R136). -/
def eraseBytes (mode : ChanMode) (m : Nat) : List FifoByte :=
  match mode with
  | .live => List.replicate m (controlByte 0x08)
  | .framed => (framedErase m).map controlByte
  | .final => []

/-- The resync bytes of a mode (R136). -/
def resyncBytes (mode : ChanMode) : List FifoByte :=
  match mode with
  | .live => [controlByte 0x0A]
  | .framed => [controlByte 0x1E, controlByte 0x52]
  | .final => [controlByte 0x0D, controlByte 0x0A]

/-- The keepalive sequence (R136). -/
def keepaliveBytes : List FifoByte := [controlByte 0x1E, controlByte 0x4B]

/-- A character of settled text in FINAL_TEXT: a line-break takes two bytes (R136, R146). -/
def finalBytes (c : Byte) : List FifoByte :=
  if c = lineBreak then [controlByte 0x0D, charByte 0x0A] else [charByte c]

/-- The character bytes of a FIFO (R137). -/
def charsIn (fifo : List FifoByte) : Nat := fifo.countP (·.char)

/-! ### A channel's own moves -/

/-- A channel in SENDING or HELD (R139). -/
def Channel.isOpen (c : Channel) : Bool := c.state == .sending || c.state == .held

/-- The keepalive timer is loaded, in FRAMED with a period above 0 (R154). -/
def Channel.loadKeepalive (c : Channel) : Channel :=
  if c.settings.mode = .framed ∧ 0 < c.settings.keepalive then
    { c with keep := some c.settings.keepalive }
  else c

/-- The stall timer as it starts when the channel enters HELD (R149). -/
def Channel.stallStart (c : Channel) : Option Nat :=
  if c.settings.stallLimit = 0 then none else some c.settings.stallLimit

/-- A resync at the FIFO tail: the resync bytes and, in a revising mode, the open text, with D and T
its length (R141, R151). -/
def Channel.queueResync (text : List Byte) (c : Channel) : Channel :=
  if c.settings.mode.revising then
    { c with
      fifo := c.fifo ++ resyncBytes c.settings.mode ++ text.map charByte
      shown := text.length
      trimmable := text.length }
  else
    { c with fifo := c.fifo ++ resyncBytes c.settings.mode, shown := 0, trimmable := 0 }

/-- The recovery condition of a channel (R151). -/
def Channel.canRecover (c : Channel) : Bool :=
  c.state == .lapsed && !c.stopped && decide (c.fifo.length ≤ c.settings.resume)

/-- A LAPSED channel tests the recovery condition and, where it holds, resyncs and becomes SENDING
(R151). -/
def Channel.testRecovery (text : List Byte) (c : Channel) : Channel :=
  if c.canRecover then { c.queueResync text with state := .sending } else c

/-- The channel enters LAPSED, its FIFO kept (R145, R147). -/
def Channel.lapse (c : Channel) : Channel :=
  { c with state := .lapsed, shown := 0, trimmable := 0, stall := none }

/-- The stopped flag becomes set (R140). -/
def Channel.stop (c : Channel) : Channel :=
  if c.stopped then c
  else if c.state = .sending then
    { c with stopped := true, state := .held, stall := c.stallStart }
  else { c with stopped := true }

/-- The stopped flag becomes clear (R140, R151). -/
def Channel.release (text : List Byte) (c : Channel) : Channel :=
  if !c.stopped then c
  else if c.state = .held then { c with stopped := false, state := .sending, stall := none }
  else Channel.testRecovery text { c with stopped := false }

/-! ### Channel updates (8.7) -/

/-- A channel update: the settled chunks, and a correction (R129). -/
structure Update where
  chunks : List (List Byte)
  kept : Nat
  fresh : List Byte
deriving DecidableEq, Repr

/-- A settled chunk in a revising mode (R143). -/
def Channel.applyChunk (c : Channel) (chunk : List Byte) : Channel :=
  { c with
    shown := c.shown - chunk.length
    trimmable := min c.trimmable (c.shown - chunk.length) }

/-- The number of characters a correction removes (R144, step 1). -/
def Channel.eraseCount (c : Channel) (kept : Nat) : Nat := c.shown - kept

/-- The number of them that a trim takes from the FIFO (R144, step 2). -/
def Channel.trimCount (c : Channel) (kept : Nat) : Nat := min (c.eraseCount kept) c.trimmable

/-- The erase bytes of a correction (R144, step 3). -/
def Channel.correctionErase (c : Channel) (kept : Nat) : List FifoByte :=
  eraseBytes c.settings.mode (c.eraseCount kept - c.trimCount kept)

/-- Whether a correction's bytes fit (R144, steps 3 and 4). -/
def Channel.correctionFits (c : Channel) (kept : Nat) (fresh : List Byte) : Bool :=
  decide ((c.correctionErase kept).length + fresh.length ≤
    Config.fifoBytes - c.fifo.length + c.trimCount kept)

/-- A correction that fits: the trim, the erase, the new characters (R144). -/
def Channel.correct (c : Channel) (kept : Nat) (fresh : List Byte) : Channel :=
  { c with
    fifo := c.fifo.take (c.fifo.length - c.trimCount kept) ++ c.correctionErase kept ++
      fresh.map charByte
    shown := kept + fresh.length
    trimmable :=
      (if c.eraseCount kept - c.trimCount kept = 0 then c.trimmable - c.trimCount kept else 0)
        + fresh.length }

/-- An update on an open channel in a revising mode: applied whole, or the channel lapses (R142,
R143, R144, R145). -/
def Channel.applyRevising (u : Update) (c : Channel) : Channel :=
  let chunked := u.chunks.foldl Channel.applyChunk c
  if chunked.correctionFits u.kept u.fresh then chunked.correct u.kept u.fresh else c.lapse

/-- An update on an open channel in FINAL_TEXT: its settled chunks together, or the channel lapses
(R146). -/
def Channel.applyFinal (u : Update) (c : Channel) : Channel :=
  let bytes := u.chunks.flatten.flatMap finalBytes
  if bytes.length ≤ Config.fifoBytes - c.fifo.length then { c with fifo := c.fifo ++ bytes }
  else c.lapse

/-- A channel takes one update, by its state and mode (R142). -/
def Channel.applyUpdate (c : Channel) (u : Update) : Channel :=
  if !c.isOpen then c
  else if c.settings.mode.revising then c.applyRevising u
  else c.applyFinal u

/-- A channel takes the updates of one change as one event (R142). -/
def Channel.takeUpdates (us : List Update) (c : Channel) : Channel := us.foldl Channel.applyUpdate c

/-- A channel that was open has lapsed: it sets its notice (R147). -/
def Channel.lapsedFrom (old new : Channel) : Bool := old.isOpen && new.state == .lapsed

/-- Every channel takes the updates of one change, and a LAPSED one then tests the recovery
condition; a channel that lapsed sets its notice (R129, R142, R145). -/
def State.sendUpdates (s : State) (us : List Update) : State :=
  let lapses := (allFour.filter fun n => (s.chan n).lapsedFrom ((s.chan n).takeUpdates us)).map
    lapseNotice
  (s.withChans (Vector.ofFn fun n : ChanNo =>
    ((s.chan n).takeUpdates us).testRecovery s.openText)).setNotices (lapses.foldl (· ||| ·) 0)

/-! ### The transmitter (R138) and the receiver (R140, R150, R152, R153) -/

/-- A byte as it stands on a feed line, bit 0 first and a set bit mark: a start bit, the 8 data bits with
the least significant first, no parity, a stop bit (R135). -/
def wireFrame (b : Byte) : BitVec 10 := 1#1 ++ b ++ 0#1

/-- The byte that ten sampled bits carry, where they begin with a start bit and end with a stop bit
(R135, R153). -/
def sampledByte (sampled : BitVec 9) (stopBit : Bool) : Option Byte :=
  if stopBit && !sampled.getLsbD 0 then some (sampled.extractLsb' 1 8) else none

/-- The head byte may start (R138). -/
def Channel.canTransmit (c : Channel) : Bool :=
  (c.state == .sending || c.state == .lapsed) && !c.stopped && c.wire.isNone

/-- TRANSMIT_BYTE: the head byte leaves the FIFO (R138, R141, R151, R154). -/
def Channel.transmit (text : List Byte) (c : Channel) : Channel :=
  match c.fifo with
  | [] => c
  | b :: rest =>
      if c.canTransmit then
        Channel.testRecovery text
          (Channel.loadKeepalive
            { c with
              fifo := rest
              wire := some (wireFrame b.byte)
              trimmable := min c.trimmable (charsIn rest) })
      else c

/-- TRANSMIT_BYTE. -/
def execTransmitByte (n : ChanNo) (s : State) : Host.Outcome State Fault Refusal :=
  .next (s.withChan n ((s.chan n).transmit s.openText))

/-- BYTE_COMPLETE: the transmitter is free (R138). -/
def execByteComplete (n : ChanNo) (s : State) : Host.Outcome State Fault Refusal :=
  .next (s.withChan n { s.chan n with wire := none })

/-- A refresh: the FIFO is flushed and a resync queued (R152). -/
def Channel.refresh (text : List Byte) (c : Channel) : Channel :=
  if c.isOpen && c.settings.mode.revising then Channel.queueResync text { c with fifo := [] } else c

/-- A byte received whole (R140, R152, R153). -/
def Channel.receive (text : List Byte) (b : Byte) (c : Channel) : Channel :=
  if c.state = .down then c
  else if b = 0x12 then c.refresh text
  else if c.settings.flow = .xonxoff ∧ b = 0x13 then c.stop
  else if c.settings.flow = .xonxoff ∧ b = 0x11 then c.release text
  else c

/-- INBOUND_BYTE: ten bits are sampled; a byte received with a missing stop bit is discarded (R135,
R153). -/
def execInboundByte (n : ChanNo) (sampled : BitVec 9) (stopBit : Bool) (s : State) :
    Host.Outcome State Fault Refusal :=
  .next (match sampledByte sampled stopBit with
    | some b => s.withChan n ((s.chan n).receive s.openText b)
    | none => s)

/-- FCLRn at a level: under LINE the stopped flag of a channel that is not DOWN follows it (R140). -/
def Channel.clearLine (text : List Byte) (high : Bool) (c : Channel) : Channel :=
  let t := { c with fclrHigh := high }
  if c.state = .down ∨ c.settings.flow ≠ .line then t
  else if high then t.stop
  else t.release text

/-- FCLR_CHANGE. -/
def execFclrChange (n : ChanNo) (high : Bool) (s : State) : Host.Outcome State Fault Refusal :=
  .next (s.withChan n ((s.chan n).clearLine s.openText high))

/-- A channel that was not LAPSED sets its notice on entering LAPSED (R147). -/
def State.noteLapse (s : State) (n : ChanNo) (entered : Bool) : State :=
  if entered then s.setNotices (lapseNotice n) else s

/-- A break: flush, clear an XONXOFF stop, lapse, test recovery; detected once, until FRXn returns
to mark, and not in DOWN (R150). -/
def Channel.takeBreak (text : List Byte) (c : Channel) : Channel :=
  if c.state = .down ∨ c.breakSeen then c
  else
    Channel.testRecovery text (Channel.lapse
      { c with
        breakSeen := true
        fifo := []
        stopped := if c.settings.flow = .xonxoff then false else c.stopped })

/-- BREAK. -/
def execBreakReceived (n : ChanNo) (s : State) : Host.Outcome State Fault Refusal :=
  .next ((s.withChan n ((s.chan n).takeBreak s.openText)).noteLapse n
    ((s.chan n).isOpen && !(s.chan n).breakSeen))

/-- RETURN_TO_MARK: a further break can be detected (R150). -/
def execReturnToMark (n : ChanNo) (s : State) : Host.Outcome State Fault Refusal :=
  .next (s.withChan n { s.chan n with breakSeen := false })

/-- The stall timer of a HELD channel is running (R149). -/
def Channel.stalling (c : Channel) : Bool := c.state == .held && c.stall.isSome

/-- STALL_TIMER_EXPIRY: the FIFO is flushed and the channel lapses, its stopped flag unchanged, and
tests recovery (R147, R148, R149, R151). -/
def execStallTimerExpiry (n : ChanNo) (s : State) : Host.Outcome State Fault Refusal :=
  .next (if (s.chan n).stalling then
    (s.withChan n (Channel.testRecovery s.openText
      (Channel.lapse { s.chan n with fifo := [] }))).noteLapse n true
  else s)

/-- KEEPALIVE_TIMER_EXPIRY of a running timer: a SENDING channel with an empty FIFO queues the
keepalive sequence; the timer reloads in every case (R154). -/
def Channel.keepaliveExpires (c : Channel) : Channel :=
  if c.keep.isNone then c
  else if c.state = .sending ∧ c.fifo = [] then
    Channel.loadKeepalive { c with fifo := keepaliveBytes }
  else c.loadKeepalive

/-- KEEPALIVE_TIMER_EXPIRY. -/
def execKeepaliveTimerExpiry (n : ChanNo) (s : State) : Host.Outcome State Fault Refusal :=
  .next (s.withChan n (s.chan n).keepaliveExpires)

/-! ### Commands -/

/-- SET_CHANNEL (R134). -/
def cmdSetChannel (chan mode flow : Byte) (divisor resume : BitVec 16) (stall keepalive : Byte)
    (s : State) : State :=
  match chanOf chan, modeOf mode, flowOf flow with
  | some n, some m, some f =>
      if (s.chan n).state = .down then
        (s.withChan n { s.chan n with settings :=
          ⟨m, f, max 1 divisor.toNat, min 512 resume.toNat, min 120 stall.toNat,
            min 60 keepalive.toNat⟩ }).done
      else s.refuse .badState
  | _, _, _ => s.refuse .badArg

/-- The stopped flag as CHANNEL_ON takes it (R140). -/
def Channel.stoppedAtOn (c : Channel) : Bool :=
  match c.settings.flow with
  | .line => c.fclrHigh
  | _ => false

/-- The stopped flag as a RESTART takes it (R140). -/
def Channel.stoppedAtRestart (c : Channel) : Bool :=
  match c.settings.flow with
  | .line => c.fclrHigh
  | .xonxoff => c.stopped
  | .none => false

/-- The channel opens, or starts afresh, with an empty FIFO and the given stopped flag: a resync is
queued, it is SENDING or HELD, and its timers start (R155, R158). -/
def Channel.startWith (text : List Byte) (stopped : Bool) (c : Channel) : Channel :=
  Channel.loadKeepalive (Channel.queueResync text
    { c with
      fifo := []
      stopped := stopped
      state := if stopped then .held else .sending
      stall := if stopped then c.stallStart else none })

/-- CHANNEL_ON (R155). -/
def cmdChannelOn (chan : Byte) (s : State) : State :=
  match chanOf chan with
  | none => s.refuse .badArg
  | some n =>
      if (s.chan n).state = .down then
        (s.withChan n (Channel.startWith s.openText (s.chan n).stoppedAtOn
          { s.chan n with breakSeen := false })).done
      else s.refuse .badState

/-- CHANNEL_OFF on a channel that is not DOWN (R156). -/
def Channel.close (c : Channel) : Channel :=
  { c with
    fifo := []
    shown := 0
    trimmable := 0
    stopped := false
    stall := none
    keep := none
    state := .down
    breakSeen := false }

/-- CHANNEL_OFF (R156). -/
def cmdChannelOff (chan : Byte) (s : State) : State :=
  match chanOf chan with
  | none => s.refuse .badArg
  | some n =>
      if (s.chan n).state = .down then s.done else (s.withChan n (s.chan n).close).done

/-- The data of CHANNEL_INFO (R157, R185). That a set stopped flag is 1 and a clear one 0 is the model's
choice (notes/assumptions/17.md). -/
def Channel.info (c : Channel) : List Byte :=
  [c.state.code] ++ bytes2 c.fifo.length ++ bytes2 c.shown ++ bytes2 c.trimmable ++
    [byteOfBool c.stopped]

/-- CHANNEL_INFO (R157). -/
def cmdChannelInfo (chan : Byte) (s : State) : State :=
  match chanOf chan with
  | none => s.refuse .badArg
  | some n => s.respond .done (s.chan n).info

/-- A RESTART on a channel, once the open text is empty (R158). -/
def Channel.restarted (c : Channel) : Channel :=
  if c.state = .down then c else Channel.startWith [] c.stoppedAtRestart c

/-- The row SET_CHANNEL. -/
def execSetChannel (chan mode flow : Byte) (divisor resume : BitVec 16) (stall keepalive : Byte)
    (s : State) : Host.Outcome State Fault Refusal :=
  .next (hostCommand (.setChannel chan mode flow divisor resume stall keepalive)
    (cmdSetChannel chan mode flow divisor resume stall keepalive) s)

/-- The row CHANNEL_ON. -/
def execChannelOn (chan : Byte) (s : State) : Host.Outcome State Fault Refusal :=
  .next (hostCommand (.channelOn chan) (cmdChannelOn chan) s)

/-- The row CHANNEL_OFF. -/
def execChannelOff (chan : Byte) (s : State) : Host.Outcome State Fault Refusal :=
  .next (hostCommand (.channelOff chan) (cmdChannelOff chan) s)

/-- The row CHANNEL_INFO. -/
def execChannelInfo (chan : Byte) (s : State) : Host.Outcome State Fault Refusal :=
  .next (hostCommand (.channelInfo chan) (cmdChannelInfo chan) s)

end Sys2Proof.Machine
end

