-- ==== Sys2Proof/Machine/Formatter.lean ====
section
/-!
DEFINITION. The Text Formatter (chapter 6): text items, the rendering of a record, the speaker table
and SET_SPEAKER, the steno and digit renderings, and the signals that ask the TE for a rescan (R28,
R31, R110, R122), which SET_SPEAKER sends.
-/

namespace Sys2Proof.Machine

/-! ### Text items (R38, R182) -/

/-- A text item (R38). -/
inductive TextItem where
  | literal (b : Byte)
  | upperNext
  | lowerNext
  | paragraph
  | speaker (n : Fin 16)
deriving DecidableEq, Repr

/-- The item a byte encodes, if it encodes one (R182). -/
def itemOf (b : Byte) : Option TextItem :=
  if isPrintable b then some (.literal b)
  else if b = 0x01 then some .upperNext
  else if b = 0x02 then some .lowerNext
  else if b = 0x03 then some .paragraph
  else if 0x80 ≤ b.toNat ∧ b.toNat ≤ 0x8F then some (.speaker (Fin.ofNat 16 (b.toNat - 0x80)))
  else none

/-! ### Letters and case (R101) -/

/-- A small letter, a to z. -/
def isSmall (b : Byte) : Bool := decide (0x61 ≤ b.toNat) && decide (b.toNat ≤ 0x7A)
/-- A capital letter, A to Z. -/
def isCapital (b : Byte) : Bool := decide (0x41 ≤ b.toNat) && decide (b.toNat ≤ 0x5A)
/-- A letter. -/
def isLetter (b : Byte) : Bool := isSmall b || isCapital b
/-- The capital form of a letter. -/
def toCapital (b : Byte) : Byte := if isSmall b then b - 0x20 else b
/-- The small form of a letter. -/
def toSmall (b : Byte) : Byte := if isCapital b then b + 0x20 else b

/-- A literal as the case mode sets it (R101). -/
def caseChar (mode : CaseMode) (b : Byte) : Byte :=
  if isLetter b then
    match mode with
    | .none => b
    | .upper => toCapital b
    | .lower => toSmall b
  else b

/-- The case mode after a literal: a letter uses it up (R101). -/
def caseAfter (mode : CaseMode) (b : Byte) : CaseMode := if isLetter b then .none else mode

/-! ### Rendering a record (R99 to R107) -/

/-- The rendering of a record in progress: characters appended, whether a space is pending, whether
the last character appended is the space after a speaker label, case mode and speaker. -/
structure Rendering where
  chars : List Byte
  pendingSpace : Bool
  labelSpace : Bool
  caseMode : CaseMode
  speaker : Option (Fin 16)
deriving DecidableEq, Repr

/-- The space character. -/
def space : Byte := 0x20

/-- A space is pending before the items unless one of the four conditions holds (R100). -/
def startsPending (before : Fmt) (flags : Byte) : Bool :=
  !(before.lineStart || before.attachNext || attachBefore flags || (glue flags && before.glueLast))

/-- The rendering before the first item (R100). -/
def Rendering.start (before : Fmt) (flags : Byte) : Rendering :=
  ⟨[], startsPending before flags, false, before.caseMode, before.speaker⟩

/-- One text item is taken (R101 to R104). -/
def Rendering.take (speakers : Vector (List Byte) 16) (r : Rendering) : TextItem → Rendering
  | .literal b =>
      { r with
        chars := r.chars ++ (if r.pendingSpace then [space] else []) ++ [caseChar r.caseMode b]
        pendingSpace := false
        labelSpace := false
        caseMode := caseAfter r.caseMode b }
  | .upperNext => { r with caseMode := .upper }
  | .lowerNext => { r with caseMode := .lower }
  | .paragraph =>
      { r with
        chars := r.chars ++ [lineBreak]
        pendingSpace := false
        labelSpace := false
        caseMode := .upper }
  | .speaker n =>
      { r with
        chars := r.chars ++ [lineBreak] ++ speakers[n] ++
          (if speakers[n].isEmpty then [] else [space])
        pendingSpace := false
        labelSpace := !speakers[n].isEmpty
        caseMode := .upper
        speaker := some n }

/-- The whole rendering of flags and items from a format state, before the 200-character limit
(R99). -/
def renderAll (speakers : Vector (List Byte) 16) (before : Fmt) (flags : Byte) (items : List Byte) :
    Rendering :=
  (items.filterMap itemOf).foldl (Rendering.take speakers) (Rendering.start before flags)

/-- The format state after the record (R105). -/
def Rendering.after (r : Rendering) (before : Fmt) (flags : Byte) : Fmt where
  lineStart := match r.chars.getLast? with
    | some c => c == lineBreak
    | none => before.lineStart
  attachNext := attachAfter flags || (if r.chars.isEmpty then before.attachNext else r.labelSpace)
  glueLast := glue flags
  caseMode := r.caseMode
  speaker := r.speaker

/-- A record formed from its outline, source, flags, items and displaced list, rendered from the
format state before it (R87, R99, R105, R107). -/
def formRecord (speakers : Vector (List Byte) 16) (before : Fmt) (outline : List Stroke)
    (source : Source) (flags : Byte) (items : List Byte) (displaced : Displaced) : Record :=
  let r := renderAll speakers before flags items
  ⟨{ outline := outline
     source := source
     flags := flags
     items := items
     before := before
     text := r.chars.take Config.recordTextLimit
     truncated := decide (Config.recordTextLimit < r.chars.length)
     after := r.after before flags }, displaced⟩

/-! ### Steno and digit renderings (R88, R111, R112) -/

/-- Whether key number `n` is in a stroke (R181). -/
def hasStrokeKey (s : Stroke) (n : Nat) : Bool := s.getLsbD n

/-- The letters of the keys of a table that are in a stroke, in the table's order. -/
def lettersOf (s : Stroke) (table : List (Nat × Byte)) : List Byte :=
  (table.filter fun e => hasStrokeKey s e.1).map (·.2)

/-- The number key (R1). -/
def numberKey : List (Nat × Byte) := [(0, 0x23)]
/-- The left bank: S T K P W H R (R1, R111). -/
def leftBank : List (Nat × Byte) :=
  [(1, 0x53), (2, 0x54), (3, 0x4B), (4, 0x50), (5, 0x57), (6, 0x48), (7, 0x52)]
/-- The vowels and the star: A O * E U (R1, R111). -/
def middleBank : List (Nat × Byte) := [(8, 0x41), (9, 0x4F), (10, 0x2A), (11, 0x45), (12, 0x55)]
/-- The right bank: F R P B L G T S D Z (R1, R111). -/
def rightBank : List (Nat × Byte) :=
  [(13, 0x46), (14, 0x52), (15, 0x50), (16, 0x42), (17, 0x4C), (18, 0x47), (19, 0x54), (20, 0x53),
    (21, 0x44), (22, 0x5A)]

/-- The digit keys and their digits, in steno order (R88). -/
def digitKeys : List (Nat × Byte) :=
  [(1, 0x31), (2, 0x32), (4, 0x33), (6, 0x34), (8, 0x35), (9, 0x30), (13, 0x36), (15, 0x37),
    (17, 0x38), (19, 0x39)]

/-- The steno rendering of a stroke (R111). -/
def stenoText (s : Stroke) : List Byte :=
  lettersOf s numberKey ++ lettersOf s leftBank ++ lettersOf s middleBank ++
    (if (lettersOf s middleBank).isEmpty && !(lettersOf s rightBank).isEmpty then [0x2D] else []) ++
    lettersOf s rightBank

/-- The digit rendering of a number stroke (R112). -/
def digitText (s : Stroke) : List Byte := lettersOf s digitKeys

/-- The keys a number stroke may hold: the number key and the digit keys (R88). -/
def numberStrokeMask : Stroke :=
  digitKeys.foldl (fun m e => m ||| BitVec.twoPow 24 e.1) (BitVec.twoPow 24 0)

/-- A number stroke: the number key, one or more digit keys, and no other keys (R88). -/
def isNumberStroke (s : Stroke) : Bool :=
  hasStrokeKey s 0 && !(digitText s).isEmpty && s &&& ~~~numberStrokeMask == 0

/-! ### Signals to the TE -/

/-- Rescan-pending is set (R122). -/
def State.setRescanPending (s : State) : State := s.withTe { s.te with rescanPending := true }

/-- A lookup-view or speaker signal: sent while the window is not empty (R28, R31, R110). -/
def State.signalRescan (s : State) : State :=
  if s.te.window.isEmpty then s else s.setRescanPending

/-- A change of the lookup view as the probe table of a resolution notes it (R86, R124). -/
def State.noteViewChange (s : State) : State :=
  s.withTe { s.te with table := s.te.table.map fun t => { t with viewChanged := true } }

/-- SET_SPEAKER (R109, R110). -/
def cmdSetSpeaker (number : Byte) (label : List Byte) (s : State) : State :=
  match speakerOf number with
  | none => s.refuse .badArg
  | some n =>
      if label.all isPrintable then
        ((s.withSpeakers (s.speakers.set n (label.take 24))).signalRescan).done
      else s.refuse .badText

/-- The row SET_SPEAKER. -/
def execSetSpeaker (number : Byte) (label : List Byte) (s : State) :
    Host.Outcome State Fault Refusal :=
  .next (hostCommand (.setSpeaker number label) (cmdSetSpeaker number label) s)

end Sys2Proof.Machine
end

