-- ==== Sys2Proof/Machine/Settling.lean ====
section
/-!
DEFINITION. Changes of the translation window (chapter 7): settling, immediate settling, the channel
update, the settle timer and settle-due, change notices and the run test, and the commands
SET_SETTLE_TIME and FLUSH.
-/

namespace Sys2Proof.Machine

/-! ### Displaced lists (R81) -/

/-- A displaced list as its records, oldest first. -/
def Displaced.records : Displaced → List Record
  | .nil => []
  | .cons data displaced rest => ⟨data, displaced⟩ :: rest.records

/-- Records as a displaced list, each with its own. -/
def Displaced.ofRecords : List Record → Displaced
  | [] => .nil
  | r :: rest => .cons r.data r.displaced (Displaced.ofRecords rest)

/-- The stroke sequence of a window (R80). -/
def strokesOf (window : List Record) : List Stroke := window.flatMap fun r => r.data.outline

/-! ### Immediate settling (R117) -/

/-- Settle the oldest record while a condition on the window holds: the records that settle, oldest
first, and the window left. -/
def settleWhile (more : List Record → Bool) : List Record → List Record × List Record
  | [] => ([], [])
  | r :: rest =>
      if more (r :: rest) then
        ((r :: (settleWhile more rest).1), (settleWhile more rest).2)
      else ([], r :: rest)

/-- Step 1: more than 16 strokes (R117). -/
def tooManyStrokes (w : List Record) : Bool := decide (Config.windowStrokes < (strokesOf w).length)

/-- Step 2: the newest record's flags include SETTLE_BEFORE, and a record is older than it (R117). -/
def newestSettlesBefore (w : List Record) : Bool :=
  match w.getLast? with
  | some r => settleBefore r.data.flags && decide (1 < w.length)
  | none => false

/-- Step 3: the open text is longer than 480 characters (R117). -/
def textTooLong (w : List Record) : Bool := decide (Config.openTextLimit < (openTextOf w).length)

/-- The immediate settling steps: the records that settle, and the window left (R117). -/
def immediateSettle (w : List Record) : List Record × List Record :=
  let one := settleWhile tooManyStrokes w
  let two := settleWhile newestSettlesBefore one.2
  let three := settleWhile textTooLong two.2
  (one.1 ++ two.1 ++ three.1, three.2)

/-! ### Settling (R115) -/

/-- The SETTLED report of a record (R116). -/
def Record.settledReport (r : Record) : Report :=
  .settled r.data.source r.data.outline r.data.text r.data.truncated

/-- Records have left the window, oldest first: their SETTLED reports are queued and the last one's
format state after becomes the settled format state (R115). -/
def State.settleRecords (s : State) (gone : List Record) : State :=
  let t := s.withCp { s.cp with reports := s.cp.reports ++ gone.map Record.settledReport }
  match gone.getLast? with
  | some r => t.withTe { t.te with settledFmt := r.data.after }
  | none => t

/-! ### The channel update (R129 to R131) -/

/-- The length of the longest common prefix of two texts (R130). -/
def commonPrefix : List Byte → List Byte → Nat
  | a :: as, b :: bs => if a = b then commonPrefix as bs + 1 else 0
  | _, _ => 0

/-- The update or updates of a change, from the open text before it, its settled chunks and the open
text after it (R130, R131). -/
def updatesOf (old : List Byte) (chunks : List (List Byte)) (new : List Byte) : List Update :=
  let settled := chunks.flatten
  if settled.isPrefixOf old then
    let left := old.drop settled.length
    let kept := commonPrefix left new
    [⟨chunks, kept, new.drop kept⟩]
  else
    let whole := settled ++ new
    let kept := commonPrefix old whole
    [⟨[], kept, whole.drop kept⟩, ⟨chunks, new.length, []⟩]

/-- A change of the window to `w`: its immediate settling, its reports and its channel update (R90,
R91, R117, R127, R129). -/
def State.changeWindow (s : State) (w : List Record) : State :=
  let parts := immediateSettle w
  let t := (s.withTe { s.te with window := parts.2 }).settleRecords parts.1
  t.sendUpdates (updatesOf s.openText (parts.1.map fun r => r.data.text) (openTextOf parts.2))

/-! ### The service of settle-due (R121) -/

/-- The oldest record `r` settles, leaving `rest`: a change of its own, with its channel update. -/
def State.settleOldest (s : State) (r : Record) (rest : List Record) : State :=
  let t := (s.withTe { s.te with window := rest }).settleRecords [r]
  t.sendUpdates (updatesOf s.openText [r.data.text] (openTextOf rest))

/-- The records of the window settle one by one while a report place is free; with the window empty,
settle-due is cleared (R77, R121). -/
def serveSettleDue : List Record → State → State
  | [], s => s.withTe { s.te with settleDue := false }
  | r :: rest, s =>
      if 0 < s.freeReports then serveSettleDue rest (s.settleOldest r rest) else s

/-- The TE is idle (R74). -/
def TeState.idle (t : TeState) : Bool := t == .stopped || t == .waiting

/-- Item 1 of the service order may begin (R77). -/
def State.rescanReady (s : State) : Bool :=
  s.te.state.idle && s.te.rescanPending && decide (Config.rescanReserve ≤ s.freeReports)

/-- Item 2 of the service order is the first whose condition holds (R77). -/
def State.settleReady (s : State) : Bool := s.te.state.idle && s.te.settleDue && !s.rescanReady

/-- SETTLE_DUE_SERVICE (R77, R121). -/
def execSettleDueService (s : State) : Host.Outcome State Fault Refusal :=
  .next (if s.settleReady then serveSettleDue s.te.window s else s)

/-- Settle-due is set (R119, R121). -/
def State.setSettleDue (s : State) : State := s.withTe { s.te with settleDue := true }

/-- SETTLE_TIMER_EXPIRY of a running timer (R119). -/
def execSettleTimerExpiry (s : State) : Host.Outcome State Fault Refusal :=
  .next (if s.te.settleTimer.isSome then
    (s.withTe { s.te with settleTimer := none }).setSettleDue
  else s)

/-- The settle timer restarts (R119). -/
def Te.restartTimer (t : Te) : Te :=
  { t with settleTimer := if t.settleTime = 0 then none else some t.settleTime }

/-- The settle time SET_SETTLE_TIME sets (R120). -/
def settleTimeOf (ms : Nat) : Nat := if ms = 0 then 0 else clamp 200 20000 ms

/-- SET_SETTLE_TIME (R120). -/
def cmdSetSettleTime (ms : BitVec 16) (s : State) : State :=
  (s.withTe { s.te with settleTime := settleTimeOf ms.toNat }).done

/-- FLUSH (R121). -/
def cmdFlush (s : State) : State := s.setSettleDue.done

/-! ### Change notices (R122, R123) -/

/-- The run test: the outline is a contiguous run of the stroke sequence (R123). -/
def runTest (outline : List Stroke) : List Stroke → Bool
  | [] => false
  | v :: rest => outline.isPrefixOf (v :: rest) || runTest outline rest

/-- A change notice reaches the TE (R122). -/
def State.changeNotice (s : State) (outline : List Stroke) : State :=
  if !s.te.state.idle || runTest outline (strokesOf s.te.window) then s.setRescanPending else s

/-- The row SET_SETTLE_TIME. -/
def execSetSettleTime (ms : BitVec 16) (s : State) : Host.Outcome State Fault Refusal :=
  .next (hostCommand (.setSettleTime ms) (cmdSetSettleTime ms) s)

/-- The row FLUSH. -/
def execFlush (s : State) : Host.Outcome State Fault Refusal :=
  .next (hostCommand .flush cmdFlush s)

end Sys2Proof.Machine
end

