-- ==== Sys2Proof/Machine/Walk.lean ====
section
/-!
DEFINITION. Entries in SDRAM (3.2 to 3.4, R183): the outline hash and bucket, the cell count, the
layouts of head and continuation cells, and the walk of R47 and R48, one cell access at a time.
-/

namespace Sys2Proof.Machine

/-- The outline hash (R39). -/
def outlineHash (outline : List Stroke) : Nat :=
  outline.foldl (fun h v => (h * 131 + v.toNat) % 16777216) 7

/-- The bucket of an outline among `buckets` (R40). -/
def bucketOf (buckets : Nat) (outline : List Stroke) : Nat :=
  (outlineHash outline % buckets + outlineHash outline / buckets) % buckets

/-- The number of cells of an entry whose payload is `size` bytes (R43). -/
def cellsFor (size : Nat) : Nat := if size ≤ 23 then 1 else 1 + (size - 23 + 28) / 29

/-- The payload of an entry (R42). -/
def payloadOf (outline : List Stroke) (text : List Byte) : List Byte := strokeBytes outline ++ text

/-- The cell that holds a bucket head (R183). -/
def directoryCell (bucket : Nat) : Nat := bucket / 8

/-- The byte of that cell at which the bucket head lies (R183). -/
def directoryByte (bucket : Nat) : Nat := 4 * (bucket % 8)

/-- A bucket head: a byte 0x00 and a link (R183). -/
def bucketHeadBytes (l : Link) : List Byte := 0x00 :: linkBytes l

/-- The link of a bucket head in its directory cell (R183). -/
def bucketHeadIn (bytes : List Byte) (bucket : Nat) : Link :=
  linkOf ((bytes.drop (directoryByte bucket + 1)).take 3)

/-- The entry a head cell holds (R183). -/
def entryIn (cell : Nat) (bytes : List Byte) : EntryRegs where
  cell := cell
  next := linkOf (bytes.take 3)
  cont := linkOf ((bytes.drop 3).take 3)
  strokes := ((bytes[6]?).getD 0).toNat
  textLen := ((bytes[7]?).getD 0).toNat
  flags := (bytes[8]?).getD 0
  payload := bytes.drop 9

/-- The link of a continuation cell to the next (R183). -/
def contLinkIn (bytes : List Byte) : Link := linkOf (bytes.take 3)

/-- The payload bytes of a continuation cell (R183). -/
def contPayloadIn (bytes : List Byte) : List Byte := bytes.drop 3

/-- The free-list link of a cell (R183). -/
def freeLinkIn (bytes : List Byte) : Link := linkOf ((bytes.drop 3).take 3)

/-- The bytes of a new head cell: links, counts, flags and the first payload bytes (R53, R183). -/
def headCellBytes (next cont : Link) (outline : List Stroke) (flags : Byte) (text : List Byte) :
    List Byte :=
  linkBytes next ++ linkBytes cont ++ [byteOf outline.length, byteOf text.length, flags] ++
    (payloadOf outline text).take 23

/-- The bytes of the `i`-th cell of a new entry, a continuation cell (R53, R183). -/
def contCellBytes (next : Link) (i : Nat) (outline : List Stroke) (text : List Byte) : List Byte :=
  linkBytes next ++ (((payloadOf outline text).drop (23 + 29 * (i - 1))).take 29)

/-- The number of cells of the entry a walk has found (R54). -/
def EntryRegs.cells (e : EntryRegs) : Nat := cellsFor (3 * e.strokes + e.textLen)

/-- The text of the entry a walk has found and read whole (R48). -/
def EntryRegs.text (e : EntryRegs) : List Byte := (e.payload.drop (3 * e.strokes)).take e.textLen

/-- No entry read yet. -/
def EntryRegs.blank : EntryRegs := ⟨0, none, none, 0, 0, 0, []⟩

/-- The walk of an operation in a slot, with the slot's bucket count and window in force (R47, R64;
notes/assumptions/16.md). -/
def Walk.start (d : Slot) (outline : List Stroke) (wantText : Bool) : Walk where
  base := d.base
  size := d.size
  outline := outline
  bucket := bucketOf d.buckets outline
  wantText := wantText
  phase := .bucketHead
  bucketLink := none
  prev := none
  seen := 0
  entry := EntryRegs.blank

/-- The cell a walk reads next (R47, R48). -/
def Walk.access (w : Walk) : Option Nat :=
  match w.phase with
  | .bucketHead => some (directoryCell w.bucket)
  | .headCell c => some c
  | .eighth c => some c
  | .text c => some c
  | .found => none
  | .absent => none

/-- The cell a link leads the walk to: one of its window, or none. Every access falls within a slot
window (R61), so a link out of it is the end of a chain (notes/assumptions/16.md). -/
def Walk.follow (w : Walk) (l : Link) : Link := l.filter fun c => decide (c < cellsOf w.size)

/-- The phase of a walk that goes on to the entry a link names (R47). -/
def Walk.phaseAt (w : Walk) (l : Link) : WalkPhase :=
  match w.follow l with
  | some c => .headCell c
  | none => .absent

/-- The entry does not match: the walk moves along the chain (R47, step 4). -/
def Walk.pass (w : Walk) : Walk := { w with prev := some w.entry.cell, phase := w.phaseAt w.entry.next }

/-- The entry matches: where its text is wanted and not read whole, the walk reads on at the cell
`more` names (R47, step 5; R48). -/
def Walk.matched (w : Walk) (more : Link) : Walk :=
  if w.wantText && decide (w.entry.payload.length < 3 * w.entry.strokes + w.entry.textLen) then
    { w with phase := match w.follow more with
      | some c => .text c
      | none => .found }
  else { w with phase := .found }

/-- The walk has read the head cell of an entry (R47, steps 1 to 5). -/
def Walk.compareHead (w : Walk) : Walk :=
  let key := strokeBytes w.outline
  if w.entry.strokes ≠ w.outline.length then w.pass
  else if key.length ≤ 23 then
    (if w.entry.payload.take key.length = key then w.matched w.entry.cont else w.pass)
  else if w.entry.payload = key.take 23 then
    match w.follow w.entry.cont with
    | some c => { w with phase := .eighth c }
    | none => w.pass
  else w.pass

/-- The walk has read the first continuation cell for the eighth stroke's last byte (R47, step 3). -/
def Walk.compareEighth (w : Walk) (bytes : List Byte) : Walk :=
  let t := { w with entry := { w.entry with payload := w.entry.payload ++ contPayloadIn bytes } }
  if t.entry.payload.take (strokeBytes w.outline).length = strokeBytes w.outline then
    t.matched (contLinkIn bytes)
  else w.pass

/-- The walk takes the 32 bytes of the cell it asked for (R47, R48). -/
def Walk.advance (w : Walk) (bytes : List Byte) : Walk :=
  match w.phase with
  | .bucketHead =>
      { w with
        bucketLink := bucketHeadIn bytes w.bucket
        phase := w.phaseAt (bucketHeadIn bytes w.bucket) }
  | .headCell c => Walk.compareHead { w with entry := entryIn c bytes, seen := w.seen + 1 }
  | .eighth _ => w.compareEighth bytes
  | .text _ =>
      Walk.matched { w with entry := { w.entry with payload := w.entry.payload ++ contPayloadIn bytes } }
        (contLinkIn bytes)
  | .found => w
  | .absent => w

end Sys2Proof.Machine
end

