-- ==== Sys2Proof/Machine/Gate.lean ====
section
/-!
DEFINITION. The slot gate and the tag list (4.3 to 4.6): claims and their order, the taking of a
claim, RELEASE_SLOT's claim, and the withdrawing of probes.
-/

namespace Sys2Proof.Machine

/-- The tags in order. -/
def allTags : List (Fin 32) :=
  [0, 1, 2, 3, 4, 5, 6, 7, 8, 9, 10, 11, 12, 13, 14, 15, 16, 17, 18, 19, 20, 21, 22, 23, 24, 25, 26,
    27, 28, 29, 30, 31]

/-- The lowest free tag (R63, R83). -/
def Mp.freeTag (m : Mp) : Option (Fin 32) := allTags.find? fun t => m.probes.all fun p => p.tag != t

/-- The outstanding probe on a tag (R63). -/
def Mp.probeOn (m : Mp) (tag : Fin 32) : Option Probe := m.probes.find? fun p => p.tag == tag

/-- The probe on a tag becomes TAKEN: its walk begins with the slot's bucket count in force (R64,
R65). -/
def State.takeProbe (s : State) (n : SlotNo) (tag : Fin 32) : State :=
  s.withMp { s.mp with probes := s.mp.probes.map fun p =>
    if p.tag = tag then { p with walk := some (Walk.start (s.slot n) p.outline true) } else p }

/-- A slot that RELEASE_SLOT returns to VACANT (R27). -/
def Slot.vacated (d : Slot) : Slot := { Slot.reset d.rank with lock := d.lock }

/-- RELEASE_SLOT's claim is taken: the slot becomes VACANT and DONE is queued (R27, R66). -/
def State.finishRelease (s : State) (n : SlotNo) : State :=
  ((s.withSlot n (s.slot n).vacated).withMp
    { (s.withSlot n (s.slot n).vacated).mp with upkeep := none }).done

/-- The gate of slot `n`, without a holder, takes the oldest of its claims (R65). A RELEASE_SLOT
releases the gate as soon as it is taken, and the next claim is taken (R66). -/
def takeClaims (n : SlotNo) : List Claim → State → State
  | [], s => s.withGate n ⟨none, []⟩
  | .probe tag :: rest, s => (s.withGate n ⟨some (.probe tag), rest⟩).takeProbe n tag
  | .upkeep :: rest, s =>
      match s.mp.upkeep with
      | some (.release _) => takeClaims n rest (s.finishRelease n)
      | _ => s.withGate n ⟨some .upkeep, rest⟩

/-- While the gate has no holder, its oldest claim is taken (R65). -/
def State.serveGate (s : State) (n : SlotNo) : State :=
  match (s.gate n).holder with
  | some _ => s
  | none => takeClaims n (s.gate n).waiting s

/-- A claim arrives at the gate of slot `n`, at the tail of its waiting list (R65). -/
def State.claimGate (s : State) (n : SlotNo) (c : Claim) : State :=
  (s.withGate n { s.gate n with waiting := (s.gate n).waiting ++ [c] }).serveGate n

/-- The holder's operation ends: the gate has no holder, and the next oldest claim is taken (R65). -/
def State.releaseGate (s : State) (n : SlotNo) : State :=
  (s.withGate n { s.gate n with holder := none }).serveGate n

/-- The upkeep engine begins an operation in slot `n`: it claims the slot's gate (R65, R66). -/
def State.beginUpkeep (s : State) (n : SlotNo) (op : UpkeepOp) : State :=
  (s.withMp { s.mp with upkeep := some op }).claimGate n .upkeep

/-- A claim that is no probe of the given tags. -/
def Claim.notOn (tags : List (Fin 32)) : Claim → Bool
  | .probe t => !tags.contains t
  | .upkeep => true

/-- Probes are withdrawn by tag: a WAITING one leaves its gate and its tag is free; a TAKEN one walks
on, its result to be discarded (R68). -/
def Mp.withdraw (m : Mp) (tags : List (Fin 32)) : Mp :=
  { m with
    probes := m.probes.filterMap fun p =>
      if tags.contains p.tag then
        (if p.walk.isSome then some { p with withdrawn := true } else none)
      else some p
    gates := Vector.ofFn fun n : SlotNo =>
      { m.gates[n] with waiting := m.gates[n].waiting.filter (Claim.notOn tags) } }

/-- Every outstanding probe is withdrawn (R72). -/
def Mp.withdrawAll (m : Mp) : Mp := m.withdraw allTags

end Sys2Proof.Machine
end

