-- ==== Sys2Proof/Machine/Resolution.lean ====
section
/-!
DEFINITION. The Translation Engine (chapters 5 and 7): its service order, the taking of a stroke,
candidates and the probe table, the decision, the new record, undo, the replay of a rescan, and the
commands START, STOP and WINDOW_INFO.
-/

namespace Sys2Proof.Machine

/-- The state of the TE when its work has ended (R74). -/
def idleState (run : Bool) : TeState := if run then .waiting else .stopped

/-- The undo stroke, the star alone (R79). -/
def undoStroke : Stroke := 1024

/-! ### Candidates (R82, R83) -/

/-- How many records, newest first, a stroke may absorb while they hold `room` strokes or fewer
together (R82). -/
def absorbable : List Record → Nat → Nat
  | [], _ => 0
  | r :: older, room =>
      if r.data.outline.length ≤ room then absorbable older (room - r.data.outline.length) + 1 else 0

/-- J, the largest candidate (R82). -/
def maxCandidate (window : List Record) : Nat := absorbable window.reverse 7

/-- The newest `j` records of a window, oldest first. -/
def newest (window : List Record) (j : Nat) : List Record := window.drop (window.length - j)

/-- The records of a window older than its newest `j`. -/
def older (window : List Record) (j : Nat) : List Record := window.take (window.length - j)

/-- The outline of candidate `j` for a stroke (R82). -/
def candidateOutline (window : List Record) (stroke : Stroke) (j : Nat) : List Stroke :=
  strokesOf (newest window j) ++ [stroke]

/-- The candidates J, J − 1, …, 0 (R82). -/
def candidates : Nat → List Nat
  | 0 => [0]
  | j + 1 => (j + 1) :: candidates j

/-- The pairs of candidates and consulted slots, in decision order (R83). -/
def pairsFor (window : List Record) (stroke : Stroke) (consulted : List SlotNo) : List Pair :=
  (candidates (maxCandidate window)).flatMap fun j =>
    consulted.map fun n => ⟨j, n, candidateOutline window stroke j, .unissued⟩

/-- The probe table of a stroke over a window, with the lookup view as it stands (R83). -/
def Dict.probeTable (d : Dict) (window : List Record) (stroke : Stroke) : ProbeTable where
  stroke := stroke
  maxCand := maxCandidate window
  consulted := d.consultedSlots
  rankOrder := d.rankOrder
  pairs := pairsFor window stroke d.consultedSlots
  viewChanged := false

/-! ### The decision (R84) -/

/-- What the results of a probe table decide (R84). -/
inductive Decision where
  | undecided
  | noHit
  | winner (cand : Nat) (slot : SlotNo) (outline : List Stroke) (flags : Byte) (text : List Byte)
deriving DecidableEq, Repr

/-- The first pair in decision order that has not missed decides, once its result is there (R84). -/
def decisionOf : List Pair → Decision
  | [] => .noHit
  | p :: rest =>
      match p.result with
      | .miss => decisionOf rest
      | .hit flags text => .winner p.cand p.slot p.outline flags text
      | .pending _ => .undecided
      | .unissued => .undecided

/-- The tags of the probes whose results are still pending (R85). -/
def pendingTags (pairs : List Pair) : List (Fin 32) :=
  pairs.filterMap fun p => match p.result with
    | .pending tag => some tag
    | _ => none

/-! ### The new record (R87 to R90) -/

/-- The format state after the newest record of a window, or the settled one (R90, step 3). -/
def lastFmt (settled : Fmt) (window : List Record) : Fmt :=
  match window.getLast? with
  | some r => r.data.after
  | none => settled

/-- The window with the new record of a decided stroke (R87, R88, R89; R90, steps 2 to 5). -/
def appendResolved (speakers : Vector (List Byte) 16) (settled : Fmt) (window : List Record)
    (stroke : Stroke) : Decision → List Record
  | .winner cand slot outline flags text =>
      older window cand ++ [formRecord speakers (lastFmt settled (older window cand)) outline
        (.slot slot) flags text (Displaced.ofRecords (newest window cand))]
  | _ =>
      window ++ [if isNumberStroke stroke then
          formRecord speakers (lastFmt settled window) [stroke] .number glueFlag (digitText stroke) .nil
        else formRecord speakers (lastFmt settled window) [stroke] .raw 0 (stenoText stroke) .nil]

/-! ### The replay of a rescan (R125 to R127) -/

/-- The TE becomes idle, its probe table clear and its replay window gone (R74, R85). -/
def State.becomeIdle (s : State) : State :=
  s.withTe { s.te with state := idleState s.te.run, table := none, replay := none }

/-- A rescan completes with a replay window (R127). -/
def State.completeRescan (s : State) (window : List Record) : State :=
  (s.changeWindow window).becomeIdle

/-- A stroke of the replay sequence is in resolution, `remaining` after it (R126). -/
def State.replaying (s : State) (table : ProbeTable) (remaining : List Stroke)
    (window : List Record) : State :=
  s.withTe { s.te with state := .rescanning, table := some table, replay := some ⟨remaining, window⟩ }

/-- The replay goes on with the strokes left, over a replay window. A stroke whose table has no
pair is decided at once (R83, R84, R126). -/
def replayFrom : List Stroke → List Record → State → State
  | [], window, s => s.completeRescan window
  | v :: rest, window, s =>
      match decisionOf (s.dict.probeTable window v).pairs with
      | .undecided => s.replaying (s.dict.probeTable window v) rest window
      | d => replayFrom rest (appendResolved s.speakers s.te.settledFmt window v d) s

/-! ### The end of a resolution (R90) and of a replayed stroke (R126) -/

/-- Rescan-pending is set where the lookup view has changed since the table was recorded (R86,
R124). -/
def State.testView (s : State) (t : ProbeTable) : State :=
  if t.viewChanged then s.setRescanPending else s

/-- The probes of a decided table are withdrawn and the table is cleared (R85). -/
def State.clearTable (s : State) (t : ProbeTable) : State :=
  (s.withMp (s.mp.withdraw (pendingTags t.pairs))).withTe { s.te with table := none }

/-- A resolution completes at its decision (R90). -/
def State.completeResolution (s : State) (t : ProbeTable) (d : Decision) : State :=
  (((s.clearTable t).changeWindow
    (appendResolved s.speakers s.te.settledFmt s.te.window t.stroke d)).testView t).becomeIdle

/-- A replayed stroke is decided, and the replay goes on (R126). -/
def State.completeReplayed (s : State) (t : ProbeTable) (r : Replay) (d : Decision) : State :=
  replayFrom r.remaining (appendResolved s.speakers s.te.settledFmt r.window t.stroke d)
    ((s.clearTable t).testView t)

/-- The TE decides as soon as the outcome is certain (R84). -/
def State.tryDecide (s : State) : State :=
  match s.te.table with
  | none => s
  | some t =>
      match decisionOf t.pairs with
      | .undecided => s
      | d =>
          match s.te.replay with
          | none => s.completeResolution t d
          | some r => s.completeReplayed t r d

/-- A pair whose result was pending on one of the tags has the result (R86). -/
def Pair.enter (tags : List (Fin 32)) (result : PairResult) (p : Pair) : Pair :=
  match p.result with
  | .pending t => if tags.contains t then { p with result := result } else p
  | _ => p

/-- Results are delivered to the TE: entered in the probe table, where they may complete the
decision (R64, R84, R86). -/
def State.deliver (s : State) (tags : List (Fin 32)) (result : PairResult) : State :=
  (s.withTe { s.te with table := s.te.table.map fun t =>
    { t with pairs := t.pairs.map (Pair.enter tags result) } }).tryDecide

/-! ### The issuing of probes (R83) -/

/-- The first pair not issued takes a result. -/
def enterNext (result : PairResult) : List Pair → List Pair
  | [] => []
  | p :: rest =>
      if p.result = .unissued then { p with result := result } :: rest
      else p :: enterNext result rest

/-- The first pair not issued (R83). -/
def nextPair (pairs : List Pair) : Option Pair := pairs.find? fun p => p.result == .unissued

/-- The table with its next pair's result entered. -/
def State.enterNextResult (s : State) (result : PairResult) : State :=
  s.withTe { s.te with table := s.te.table.map fun t =>
    { t with pairs := enterNext result t.pairs } }

/-- The next pair is issued as a probe on a free tag, or, its slot no longer consulted, has the
result MISS (R63, R83). -/
def State.issue (s : State) (p : Pair) (tag : Fin 32) : State :=
  if (s.slot p.slot).consulted then
    let t := s.enterNextResult (.pending tag)
    (t.withMp { t.mp with probes := t.mp.probes ++ [⟨tag, p.slot, p.outline, false, none⟩] }).claimGate
      p.slot (.probe tag)
  else (s.enterNextResult .miss).tryDecide

/-- PROBE_ISSUE (R83). That a pair whose slot is no longer consulted has its turn only while a tag is free
is the model's choice (notes/assumptions/22.md). -/
def execProbeIssue (s : State) : Host.Outcome State Fault Refusal :=
  .next (match s.te.table with
    | none => s
    | some t =>
        match nextPair t.pairs, s.mp.freeTag with
        | some p, some tag => s.issue p tag
        | _, _ => s)

/-! ### Taking a stroke (R79), undo (R91, R92) -/

/-- The window with its newest record taken back (R91). -/
def undoWindow (window : List Record) : List Record :=
  match window.getLast? with
  | some r => window.dropLast ++ r.displaced.records
  | none => []

/-- The undo of a window that is not empty (R91). -/
def State.undo (s : State) : State := (s.changeWindow (undoWindow s.te.window)).becomeIdle

/-- Whether a stroke is an undo on an empty window (R79, R92). -/
def State.undoEmpty (s : State) (r : StrokeRecord) : Bool :=
  r.keys == undoStroke && s.te.window.isEmpty

/-- The STROKE report of a stroke (R79). -/
def State.strokeReport (s : State) (r : StrokeRecord) : Report :=
  .stroke r.keys r.time r.origin r.split r.stuckCut (s.undoEmpty r)

/-- The resolution of a stroke begins: the TE is RESOLVING with its probe table; with no consulted
slot the stroke has no hit at once (R79, R83). -/
def State.resolve (s : State) (v : Stroke) : State :=
  (s.withTe { s.te with
    state := .resolving
    table := some (s.dict.probeTable s.te.window v)
    replay := none }).tryDecide

/-- The TE takes the stroke at the head of the stroke queue (R79). -/
def State.takeStroke (s : State) (r : StrokeRecord) (rest : List StrokeRecord) : State :=
  let t := ((s.withStrokeQueue rest).pushReport (s.strokeReport r)).withTe s.te.restartTimer
  if r.keys = undoStroke then (if s.te.window.isEmpty then t else t.undo) else t.resolve r.keys

/-- Item 3 of the service order is the first whose condition holds (R77). -/
def State.strokeReady (s : State) : Bool :=
  s.te.state == .waiting && !s.rescanReady && !s.settleReady &&
    decide (Config.strokeReserve ≤ s.freeReports)

/-- TAKE_STROKE (R77, R79). -/
def State.serviceStroke (s : State) : State :=
  match s.strokeQueue with
  | [] => s
  | r :: rest => if s.strokeReady then s.takeStroke r rest else s

/-- TAKE_STROKE. -/
def execTakeStroke (s : State) : Host.Outcome State Fault Refusal := .next s.serviceStroke

/-- A rescan begins: rescan-pending is cleared, and a window that is not empty is replayed (R125). -/
def State.beginRescan (s : State) : State :=
  let t := s.withTe { s.te with rescanPending := false }
  if s.te.window.isEmpty then t
  else replayFrom (strokesOf s.te.window) [] (t.withTe { t.te with state := .rescanning })

/-- RESCAN (R77, R125). -/
def execRescan (s : State) : Host.Outcome State Fault Refusal :=
  .next (if s.rescanReady then s.beginRescan else s)

/-- The service order, looked at once: the first item whose condition holds begins (R77). -/
def State.serviceOrder (s : State) : State :=
  if s.rescanReady then s.beginRescan
  else if s.settleReady then serveSettleDue s.te.window s
  else s.serviceStroke

/-! ### Commands -/

/-- START: the run setting is on; from STOPPED the TE becomes WAITING and its service order is
applied at once (R75). -/
def cmdStart (s : State) : State :=
  let t := s.withTe { s.te with run := true }
  (if s.te.state = .stopped then (t.withTe { t.te with state := .waiting }).serviceOrder else t).done

/-- STOP (R76). -/
def cmdStop (s : State) : State :=
  (s.withTe { s.te with
    run := false
    state := if s.te.state = .waiting then .stopped else s.te.state }).done

/-- The stroke in resolution, in RESOLVING; 0 otherwise (R93). -/
def Te.strokeInResolution (t : Te) : Stroke :=
  match t.state, t.table with
  | .resolving, some p => p.stroke
  | _, _ => 0

/-- The byte of a record in WINDOW_INFO (R185). Bit 3, which the layout does not give, is 0: the model's
choice (notes/assumptions/17.md). -/
def Record.summary (r : Record) : Byte := r.data.source.code ||| (byteOf r.data.outline.length <<< 4)

/-- The data of WINDOW_INFO with RECORD = 0 (R93, R185). That the run setting is 1 for on and 0 for off,
and that bits 2 to 7 of the pending byte are 0, is the model's choice (notes/assumptions/17.md). -/
def State.windowData (s : State) : List Byte :=
  [s.te.state.code, byteOfBool s.te.run] ++ bytesOf24 s.te.strokeInResolution ++
    [byteOf s.te.window.length, byteOf (strokesOf s.te.window).length] ++ bytes2 s.openText.length ++
    [byteOfBool s.te.settleDue ||| (byteOfBool s.te.rescanPending <<< 1),
      s.te.settledFmt.byte1, s.te.settledFmt.byte2] ++
    s.te.window.map Record.summary

/-- The data of WINDOW_INFO with RECORD = n (R94, R185). -/
def Record.windowData (r : Record) : List Byte :=
  [r.data.source.code ||| (byteOfBool r.data.truncated <<< 3) ||| (r.data.flags <<< 4),
    r.data.before.byte1 ||| (byteOf r.displaced.records.length <<< 5),
    r.data.before.byte2 ||| (byteOf (r.data.outline.length - 1) <<< 5)] ++
    strokeBytes r.data.outline ++ r.data.text

/-- WINDOW_INFO (R93, R94). -/
def cmdWindowInfo (record : Byte) (s : State) : State :=
  if 16 < record.toNat then s.refuse .badArg
  else if record = 0 then s.respond .done s.windowData
  else
    match s.te.window[record.toNat - 1]? with
    | some r => s.respond .done r.windowData
    | none => s.refuse .notFound

/-- The row START. -/
def execStart (s : State) : Host.Outcome State Fault Refusal := .next (hostCommand .start cmdStart s)

/-- The row STOP. -/
def execStop (s : State) : Host.Outcome State Fault Refusal := .next (hostCommand .stop cmdStop s)

/-- The row WINDOW_INFO, RECORD = 0. -/
def execWindowInfo (s : State) : Host.Outcome State Fault Refusal :=
  .next (hostCommand (.windowInfo 0) (cmdWindowInfo 0) s)

/-- The row WINDOW_INFO_RECORD. -/
def execWindowInfoRecord (record : Byte) (s : State) : Host.Outcome State Fault Refusal :=
  .next (hostCommand (.windowInfo record) (cmdWindowInfo record) s)

end Sys2Proof.Machine
end

