-- ==== Sys2Proof/Machine/Entries.lean ====
section
/-!
DEFINITION. The entry operations (3.5 to 3.11): the checks of ADD_ENTRY, REPLACE_ENTRY, RETIRE_ENTRY
and FETCH_ENTRY that need no SDRAM, the operation of the upkeep engine one cell access at a time, and
its end.
-/

namespace Sys2Proof.Machine

/-! ### The operation in the upkeep engine -/

/-- The cells the operation's own entry needs (R43). -/
def EntryOp.need (op : EntryOp) : Nat := cellsFor (payloadOf op.outline op.text).length

/-- The walk found the outline (R47). -/
def EntryOp.isFound (op : EntryOp) : Bool := op.walk.phase == .found

/-- The cells of the old entry, 0 where there is none (R54, R55). -/
def EntryOp.oldCells (op : EntryOp) : Nat := if op.isFound then op.walk.entry.cells else 0

/-- The operation ends with a status. -/
def EntryOp.endWith (op : EntryOp) (st : Status) : EntryOp := { op with stage := .ended, status := st }

/-- The operation, its checks passed, goes on. -/
def EntryOp.proceed (op : EntryOp) (stage : EntryStage) : EntryOp :=
  { op with stage := stage, status := .done }

/-- The checks of an addition whose outline is absent: the chain, then the free cells (R49, R52,
R54). -/
def EntryOp.checkAdd (op : EntryOp) : EntryOp :=
  if Config.chainLimit ≤ op.walk.seen then op.endWith .bucketFull
  else if op.freeCount < op.need then op.endWith .noSpace
  else op.proceed .take

/-- The checks 5 to 8 of R49, when the walk has ended (R52, R54, R56, R57). -/
def EntryOp.afterWalk (op : EntryOp) : EntryOp :=
  match op.kind, op.isFound with
  | .add, true => op.endWith .duplicate
  | .add, false => op.checkAdd
  | .replace, true =>
      if op.freeCount + op.oldCells < op.need then op.endWith .noSpace else op.proceed .unlink
  | .replace, false => op.checkAdd
  | .retire, true => op.proceed .unlink
  | .retire, false => op.endWith .notFound
  | .fetch, true => op.endWith .done
  | .fetch, false => op.endWith .notFound

/-- The cell the operation accesses next (R53, R55, R56). -/
def EntryOp.access (op : EntryOp) : Option Nat :=
  match op.stage with
  | .walking => op.walk.access
  | .unlink =>
      match op.walk.prev with
      | some c => some c
      | none => some (directoryCell op.walk.bucket)
  | .returnRead c => some c
  | .returnWrite c _ => some c
  | .take => op.freeHead
  | .writeHead => op.taken[0]?
  | .writeCont i => op.taken[i]?
  | .writeBucket => some (directoryCell op.walk.bucket)
  | .ended => none

/-- The walk of the operation takes a cell (R47, R48). -/
def EntryOp.walkOn (op : EntryOp) (bytes : List Byte) : EntryOp :=
  let w := op.walk.advance bytes
  let t := { op with walk := w, bucketLink := w.bucketLink }
  if w.access.isNone then t.afterWalk else t

/-- The old entry is unlinked: its cells are to be returned, head cell first (R55). -/
def EntryOp.unlinked (op : EntryOp) : EntryOp :=
  { op with
    bucketLink := match op.walk.prev with
      | some _ => op.bucketLink
      | none => op.walk.entry.next
    stage := .returnWrite op.walk.entry.cell op.walk.entry.cont }

/-- A cell is on the free list; the next cell of its entry follows, or the old entry is gone (R45,
R55, R56). -/
def EntryOp.returned (op : EntryOp) (cell : Nat) (next : Link) : EntryOp :=
  { op with
    freeHead := some cell
    freeCount := op.freeCount + 1
    stage := match next with
      | some c => .returnRead c
      | none => if op.kind = .retire then .ended else .take }

/-- The cell at the free-list head is taken; the free list begins at the cell its link names (R45). -/
def EntryOp.took (op : EntryOp) (cell : Nat) (next : Link) : EntryOp :=
  { op with
    freeHead := next
    freeCount := op.freeCount - 1
    taken := op.taken ++ [cell]
    stage := if op.taken.length + 1 < op.need then .take else .writeHead }

/-- After the `i`-th cell of the entry is written comes the next, or the bucket head (R53). -/
def EntryOp.wrote (op : EntryOp) (i : Nat) : EntryOp :=
  { op with stage := if i + 1 < op.taken.length then .writeCont (i + 1) else .writeBucket }

/-- One access of the operation, at cell `c` of its slot's window: the operation after it, and the
SDRAM (R53, R55, R56, R183). -/
def EntryOp.perform (op : EntryOp) (d : Slot) (m : List Host.Cell) (c : Nat) :
    EntryOp × List Host.Cell :=
  match op.stage with
  | .walking => (op.walkOn (readCell m d.base c), m)
  | .unlink =>
      (op.unlinked,
        match op.walk.prev with
        | some p => writeCell m d.base p 0 (linkBytes op.walk.entry.next)
        | none => writeCell m d.base c (directoryByte op.walk.bucket) (bucketHeadBytes op.walk.entry.next))
  | .returnRead cell =>
      ({ op with stage := .returnWrite cell (contLinkIn (readCell m d.base cell)) }, m)
  | .returnWrite cell next =>
      (op.returned cell next, writeCell m d.base cell 3 (linkBytes op.freeHead))
  | .take => (op.took c (freeLinkIn (readCell m d.base c)), m)
  | .writeHead =>
      (op.wrote 0,
        writeCell m d.base c 0 (headCellBytes op.bucketLink op.taken[1]? op.outline op.flags op.text))
  | .writeCont i =>
      (op.wrote i, writeCell m d.base c 0 (contCellBytes op.taken[i + 1]? i op.outline op.text))
  | .writeBucket =>
      (op.endWith .done,
        writeCell m d.base c (directoryByte op.walk.bucket) (bucketHeadBytes op.taken[0]?))
  | .ended => (op, m)

/-! ### The end of the operation (R166) -/

/-- The descriptor's final values (R53, R55, R56). -/
def EntryOp.descriptor (op : EntryOp) (d : Slot) : Slot :=
  if op.status ≠ .done then d
  else
    match op.kind with
    | .add =>
        { d with entryCount := d.entryCount + 1, freeHead := op.freeHead, freeCount := op.freeCount }
    | .replace =>
        { d with
          entryCount := if op.isFound then d.entryCount else d.entryCount + 1
          freeHead := op.freeHead
          freeCount := op.freeCount }
    | .retire =>
        { d with entryCount := d.entryCount - 1, freeHead := op.freeHead, freeCount := op.freeCount }
    | .fetch => d

/-- The index of the new head cell. -/
def EntryOp.newHead (op : EntryOp) : Nat := (op.taken[0]?).getD noneLink

/-- The response data of the operation (R53, R55, R56, R57, R185). -/
def EntryOp.data (op : EntryOp) : List Byte :=
  if op.status ≠ .done then []
  else
    match op.kind with
    | .add => bytes3 op.walk.bucket ++ bytes3 op.newHead ++ [byteOf op.taken.length]
    | .replace =>
        bytes3 op.walk.bucket ++ bytes3 op.newHead ++ [byteOf op.taken.length, byteOf op.oldCells]
    | .retire => [byteOf op.oldCells]
    | .fetch =>
        [byteOf op.slot.val, op.walk.entry.flags, byteOf op.walk.entry.textLen] ++ op.walk.entry.text

/-- A change notice is sent by an entry write that completes with DONE on a FULL slot (R59). -/
def EntryOp.notifies (op : EntryOp) (d : Slot) : Bool :=
  op.status == .done && op.kind != .fetch && d.access == .full

/-- An entry operation on a slot, at its walk's beginning (R49, R62). -/
def EntryOp.start (kind : EntryKind) (n : SlotNo) (d : Slot) (outline : List Stroke) (flags : Byte)
    (text : List Byte) (any : Bool) (laterSlots : List SlotNo) : EntryOp where
  kind := kind
  slot := n
  outline := outline
  flags := flags
  text := text
  any := any
  laterSlots := laterSlots
  walk := Walk.start d outline (kind == .fetch)
  stage := .walking
  bucketLink := none
  freeHead := d.freeHead
  freeCount := d.freeCount
  taken := []
  status := .done

/-- The upkeep engine begins an entry operation (R65, R66). -/
def State.beginEntryOp (s : State) (kind : EntryKind) (n : SlotNo) (outline : List Stroke)
    (flags : Byte) (text : List Byte) (any : Bool) (laterSlots : List SlotNo) : State :=
  s.beginUpkeep n (.entry (EntryOp.start kind n (s.slot n) outline flags text any laterSlots))

/-- The upkeep engine holds no operation. -/
def State.clearUpkeep (s : State) : State := s.withMp { s.mp with upkeep := none }

/-- The slots a FETCH_ENTRY with ANY has still to search, once its walk in one slot has missed; none
while a restart is in progress, which ends the command (R58, R177). -/
def State.slotsLeft (s : State) (op : EntryOp) : List SlotNo :=
  if op.any && op.status == .notFound && s.cp.restarts == 0 then op.laterSlots else []

/-- The DONE or refusal of an operation that has ended, its descriptor and its change notice (R59,
R166). -/
def State.answerEntryOp (s : State) (op : EntryOp) : State :=
  let t := (s.withSlot op.slot (op.descriptor (s.slot op.slot))).respond op.status op.data
  if op.notifies (s.slot op.slot) then t.changeNotice op.outline else t

/-- The entry operation that holds its gate has ended: the command ends, or a FETCH_ENTRY with ANY
goes on to its next slot, and the gate is released (R58, R65, R66, R166). -/
def State.endEntryOp (s : State) (op : EntryOp) : State :=
  match s.slotsLeft op with
  | [] => (s.answerEntryOp op).clearUpkeep.releaseGate op.slot
  | n :: rest =>
      ((s.clearUpkeep.releaseGate op.slot).beginEntryOp .fetch n op.outline 0 [] true rest)

/-- UPKEEP_OPERATION_END (R166). -/
def execUpkeepOperationEnd (s : State) : Host.Outcome State Fault Refusal :=
  .next (match s.mp.upkeep with
    | some (.entry op) =>
        if op.stage = .ended ∧ (s.gate op.slot).holder = some .upkeep then s.endEntryOp op else s
    | _ => s)

/-! ### Commands -/

/-- The protection verdict on an entry write: the status of its refusal (R29). -/
def writeVerdict (d : Slot) : Option Status :=
  if d.lock then some .locked
  else
    match d.access with
    | .shut => some .protectedSlot
    | .lookup => some .protectedSlot
    | .maintain => none
    | .full => none

/-- ADD_ENTRY, REPLACE_ENTRY and RETIRE_ENTRY: checks 1 to 4 of R49, then the claim of the gate (R29,
R30, R50, R51, R66). RETIRE_ENTRY carries no flags and no text. -/
def cmdEntryWrite (kind : EntryKind) (slot : Byte) (outline : List Stroke) (flags : Byte)
    (text : List Byte) (s : State) : State :=
  match slotOf slot with
  | none => s.refuse .badArg
  | some n =>
      match writeVerdict (s.slot n) with
      | some st => (s.setNotices protect).refuse st
      | none =>
          if !(outlineOk outline && writeArgsOk flags text) then s.refuse .badArg
          else if !text.all isTextItem then s.refuse .badText
          else s.beginEntryOp kind n outline flags text false []

/-- FETCH_ENTRY naming a slot: checks 1 to 3 of R49, then the claim of the gate (R29, R57, R66). -/
def cmdFetchNamed (slot : Byte) (outline : List Stroke) (s : State) : State :=
  match slotOf slot with
  | none => s.refuse .badArg
  | some n =>
      if (s.slot n).access = .shut then s.refuse .protectedSlot
      else if !outlineOk outline then s.refuse .badArg
      else s.beginEntryOp .fetch n outline 0 [] false []

/-- FETCH_ENTRY with ANY: the consulted slots in rank order (R58). -/
def cmdFetchAny (outline : List Stroke) (s : State) : State :=
  if !outlineOk outline then s.refuse .badArg
  else
    match s.dict.consultedSlots with
    | [] => s.refuse .notFound
    | n :: rest => s.beginEntryOp .fetch n outline 0 [] true rest

/-- The slot byte that stands for ANY (R185). -/
def anySlot : Byte := 0xFF

/-- FETCH_ENTRY (R57, R58, R185). -/
def cmdFetchEntry (slot : Byte) (outline : List Stroke) (s : State) : State :=
  if slot = anySlot then cmdFetchAny outline s else cmdFetchNamed slot outline s

/-- The row ADD_ENTRY. -/
def execAddEntry (slot : Byte) (outline : List Stroke) (flags : Byte) (text : List Byte) (s : State) :
    Host.Outcome State Fault Refusal :=
  .next (hostCommand (.addEntry slot outline flags text)
    (cmdEntryWrite .add slot outline flags text) s)

/-- The row REPLACE_ENTRY. -/
def execReplaceEntry (slot : Byte) (outline : List Stroke) (flags : Byte) (text : List Byte)
    (s : State) : Host.Outcome State Fault Refusal :=
  .next (hostCommand (.replaceEntry slot outline flags text)
    (cmdEntryWrite .replace slot outline flags text) s)

/-- The row RETIRE_ENTRY. -/
def execRetireEntry (slot : Byte) (outline : List Stroke) (s : State) :
    Host.Outcome State Fault Refusal :=
  .next (hostCommand (.retireEntry slot outline) (cmdEntryWrite .retire slot outline 0 []) s)

/-- The row FETCH_ENTRY. -/
def execFetchEntry (slot : Byte) (outline : List Stroke) (s : State) :
    Host.Outcome State Fault Refusal :=
  .next (hostCommand (.fetchEntry slot outline) (cmdFetchEntry slot outline) s)

/-- The row FETCH_ENTRY_ANY. -/
def execFetchEntryAny (outline : List Stroke) (s : State) : Host.Outcome State Fault Refusal :=
  .next (hostCommand (.fetchEntry anySlot outline) (cmdFetchEntry anySlot outline) s)

end Sys2Proof.Machine
end

