-- ==== Sys2Proof/Machine/Slots.lean ====
section
/-!
DEFINITION. The dictionary slots (chapter 2): SET_MEMORY, SET_WINDOW, FORMAT and its completion and
abandoning, RELEASE_SLOT, SET_ACCESS, SET_RANKS, LOCK_SLOT and SLOT_INFO, with the checks of R22 in
their order.
-/

namespace Sys2Proof.Machine

/-- SET_MEMORY (R21). That a bad size is refused before a slot's state is looked at, of which the guide
gives no order, is the model's choice (notes/assumptions/18.md). -/
def cmdSetMemory (mib : Byte) (s : State) : State :=
  if !memorySizes.contains mib.toNat then s.refuse .badArg
  else if !allFour.all (fun n => (s.slot n).state == .vacant) then s.refuse .badState
  else (s.withDict { s.dict with memMiB := mib.toNat }).done

/-- The declared memory, in bytes (R21). -/
def Dict.memBytes (d : Dict) : Nat := d.memMiB * 1048576

/-- Whether a window shares a byte with the window of another slot that is not VACANT (R23). -/
def State.overlaps (s : State) (n : SlotNo) (base size : Nat) : Bool :=
  allFour.any fun m => m != n && (s.slot m).state != .vacant &&
    decide (base < (s.slot m).base + (s.slot m).size) && decide ((s.slot m).base < base + size)

/-- A slot with a window assigned and not laid out (R23, R26). -/
def Slot.unformatted (d : Slot) (base size : Nat) : Slot :=
  { d with
    state := .unformatted
    access := .shut
    base := base
    size := size
    buckets := 0
    entryCount := 0
    freeCount := 0
    freeHead := none }

/-- SET_WINDOW (R22, R23). -/
def cmdSetWindow (slot : Byte) (base size : BitVec 32) (s : State) : State :=
  match slotOf slot with
  | none => s.refuse .badArg
  | some n =>
      if (s.slot n).lock then s.refuse .locked
      else if s.dict.memMiB = 0 ∨ ((s.slot n).state ≠ .vacant ∧ (s.slot n).state ≠ .unformatted) then
        s.refuse .badState
      else if ¬windowSizes.contains size.toNat ∨ base.toNat % size.toNat ≠ 0 then s.refuse .badArg
      else if s.dict.memBytes < base.toNat + size.toNat then s.refuse .badArg
      else if s.overlaps n base.toNat size.toNat then s.refuse .overlap
      else (s.withSlot n ((s.slot n).unformatted base.toNat size.toNat)).done

/-- A slot a FORMAT has begun on (R24). -/
def Slot.formatting (d : Slot) (buckets : Nat) : Slot :=
  { d with
    state := .formatting
    buckets := buckets
    entryCount := 0
    freeCount := 0
    freeHead := none }

/-- The states in which FORMAT is accepted (R24). -/
def Slot.formattable (d : Slot) : Bool :=
  d.state == .unformatted || (d.state == .ready && d.access == .shut)

/-- FORMAT (R22, R24). -/
def cmdFormat (slot : Byte) (buckets : BitVec 32) (s : State) : State :=
  match slotOf slot with
  | none => s.refuse .badArg
  | some n =>
      if (s.slot n).lock then s.refuse .locked
      else if !(s.slot n).formattable then s.refuse .badState
      else if ¬bucketCounts.contains buckets.toNat ∨ (s.slot n).size / 4 < 4 * buckets.toNat then
        s.refuse .badArg
      else (s.withSlot n ((s.slot n).formatting buckets.toNat)).beginUpkeep n (.format n 0)

/-- The bytes a FORMAT writes in cell `c`, and the byte of the cell they begin at: eight empty bucket
heads in a directory cell, the link to the next higher cell in any other (R25, R183). -/
def formatBytes (d : Slot) (c : Nat) : Nat × List Byte :=
  if c < d.buckets / 8 then (0, (List.replicate 8 (bucketHeadBytes none)).flatten)
  else (3, linkBytes (if c + 1 < d.cells then some (c + 1) else none))

/-- A slot whose FORMAT has completed (R25). -/
def Slot.formatted (d : Slot) : Slot :=
  { d with
    state := .ready
    entryCount := 0
    freeCount := d.cells - d.buckets / 8
    freeHead := some (d.buckets / 8) }

/-- FORMAT_COMPLETE: the last cell is written, and the FORMAT completes (R25). -/
def execFormatComplete (s : State) : Host.Outcome State Fault Refusal :=
  .next (match s.mp.upkeep with
    | some (.format n next) =>
        if next = (s.slot n).cells ∧ (s.gate n).holder = some .upkeep then
          ((s.withSlot n (s.slot n).formatted).done.clearUpkeep).releaseGate n
        else s
    | _ => s)

/-- RELEASE_SLOT: checked, it claims the slot's gate (R22, R27, R66). -/
def cmdReleaseSlot (slot : Byte) (s : State) : State :=
  match slotOf slot with
  | none => s.refuse .badArg
  | some n =>
      if (s.slot n).lock then s.refuse .locked
      else if (s.slot n).state = .formatting ∨ (s.slot n).access ≠ .shut then s.refuse .badState
      else s.beginUpkeep n (.release n)

/-- The WAITING probes into a slot (R67). -/
def Mp.waitingInto (m : Mp) (n : SlotNo) : List (Fin 32) :=
  (m.probes.filter fun p => p.slot == n && p.walk.isNone).map (·.tag)

/-- Every WAITING probe into a slot leaves its gate, its tag free, and is answered MISS (R67). -/
def State.answerMiss (s : State) (n : SlotNo) : State :=
  (s.withMp (s.mp.withdraw (s.mp.waitingInto n))).deliver (s.mp.waitingInto n) .miss

/-- An accepted SET_ACCESS (R28, R67, R86). -/
def State.giveAccess (s : State) (n : SlotNo) (a : Access) : State :=
  let old := s.slot n
  let new := { old with access := a }
  let t := s.withSlot n new
  if old.consulted = new.consulted then t
  else
    let u := t.signalRescan.noteViewChange
    if new.consulted then u else u.answerMiss n

/-- SET_ACCESS (R22, R28). -/
def cmdSetAccess (slot code : Byte) (s : State) : State :=
  match slotOf slot, accessOf code with
  | some n, some a =>
      if (s.slot n).lock then s.refuse .locked
      else if (s.slot n).state ≠ .ready then s.refuse .badState
      else (s.giveAccess n a).done
  | _, _ => s.refuse .badArg

/-- The descriptors with ranks given by a list of slots from rank 0 to rank 3 (R31). -/
def Dict.withRanks (d : Dict) (order : List SlotNo) : Dict :=
  { d with slots := Vector.ofFn fun n : SlotNo =>
    { d.slots[n] with rank := Fin.ofNat 4 (order.idxOf n) } }

/-- SET_RANKS (R31, R86). -/
def cmdSetRanks (r0 r1 r2 r3 : Byte) (s : State) : State :=
  match rankListOf r0 r1 r2 r3 with
  | none => s.refuse .badArg
  | some order => ((s.withDict (s.dict.withRanks order)).signalRescan.noteViewChange).done

/-- LOCK_SLOT (R22, R32). -/
def cmdLockSlot (slot : Byte) (s : State) : State :=
  match slotOf slot with
  | none => s.refuse .badArg
  | some n =>
      if (s.slot n).state ≠ .ready then s.refuse .badState
      else (s.withSlot n { s.slot n with lock := true }).done

/-- The data of SLOT_INFO (R34, R185). Bit 7 of the summary byte, which the layout does not give, is 0:
the model's choice (notes/assumptions/17.md). -/
def Slot.info (d : Slot) : List Byte :=
  [d.state.code ||| (d.access.code <<< 2) ||| (byteOfBool d.lock <<< 4) ||| (byteOf d.rank.val <<< 5)]
    ++ bytes4 d.base ++ [byteOf (sizeExponent d.size)] ++ bytes3 d.buckets ++ bytes3 d.entryCount ++
    bytes3 d.freeCount ++ linkBytes d.freeHead

/-- SLOT_INFO (R34). -/
def cmdSlotInfo (slot : Byte) (s : State) : State :=
  match slotOf slot with
  | none => s.refuse .badArg
  | some n => s.respond .done (s.slot n).info

/-- A FORMAT is abandoned: its slot is UNFORMATTED, its window and rank kept (R26). -/
def State.abandonFormat (s : State) (n : SlotNo) : State :=
  s.withSlot n ((s.slot n).unformatted (s.slot n).base (s.slot n).size)

/-- The row SET_MEMORY. -/
def execSetMemory (mib : Byte) (s : State) : Host.Outcome State Fault Refusal :=
  .next (hostCommand (.setMemory mib) (cmdSetMemory mib) s)

/-- The row SET_WINDOW. -/
def execSetWindow (slot : Byte) (base size : BitVec 32) (s : State) :
    Host.Outcome State Fault Refusal :=
  .next (hostCommand (.setWindow slot base size) (cmdSetWindow slot base size) s)

/-- The row FORMAT. -/
def execFormat (slot : Byte) (buckets : BitVec 32) (s : State) : Host.Outcome State Fault Refusal :=
  .next (hostCommand (.format slot buckets) (cmdFormat slot buckets) s)

/-- The row RELEASE_SLOT. -/
def execReleaseSlot (slot : Byte) (s : State) : Host.Outcome State Fault Refusal :=
  .next (hostCommand (.releaseSlot slot) (cmdReleaseSlot slot) s)

/-- The row SET_ACCESS. -/
def execSetAccess (slot code : Byte) (s : State) : Host.Outcome State Fault Refusal :=
  .next (hostCommand (.setAccess slot code) (cmdSetAccess slot code) s)

/-- The row SET_RANKS. -/
def execSetRanks (r0 r1 r2 r3 : Byte) (s : State) : Host.Outcome State Fault Refusal :=
  .next (hostCommand (.setRanks r0 r1 r2 r3) (cmdSetRanks r0 r1 r2 r3) s)

/-- The row LOCK_SLOT. -/
def execLockSlot (slot : Byte) (s : State) : Host.Outcome State Fault Refusal :=
  .next (hostCommand (.lockSlot slot) (cmdLockSlot slot) s)

/-- The row SLOT_INFO. -/
def execSlotInfo (slot : Byte) (s : State) : Host.Outcome State Fault Refusal :=
  .next (hostCommand (.slotInfo slot) (cmdSlotInfo slot) s)

end Sys2Proof.Machine
end

