-- ==== Sys2Proof/Machine/MemoryPort.lean ====
section
/-!
DEFINITION. The Memory Port's moves (chapter 4): the arbiter's grants, the end of a probe, and
SET_MAINT_SHARE.
-/

namespace Sys2Proof.Machine

/-- The probe that holds a gate. -/
def State.holderProbe (s : State) (n : SlotNo) : Option Probe :=
  match (s.gate n).holder with
  | some (.probe tag) => s.mp.probeOn tag
  | _ => none

/-- A cell of a window, within the declared memory: the only accesses there are (R61). -/
def State.inWindow (s : State) (base size c : Nat) : Bool :=
  decide (c < cellsOf size) && decide (cellAddr base c + Config.cellBytes ≤ s.dict.memBytes)

/-- The access the lookup walker has ready in a slot, in the window the probe was taken with (R61,
R62; notes/assumptions/16.md). That a probe's next access is ready as soon as the last one has ended
is the model's choice (notes/assumptions/19.md). -/
def State.probeAccess (s : State) (n : SlotNo) : Option Nat :=
  ((s.holderProbe n).bind (·.walk)).bind fun w => w.access.filter (s.inWindow w.base w.size)

/-- The slot whose access the walker presents: the one given, or else the first with one ready
(R62). -/
def State.presented (s : State) (n : SlotNo) : Option (SlotNo × Nat) :=
  (n :: allFour).findSome? fun m => (s.probeAccess m).map fun c => (m, c)

/-- The slot of an upkeep operation. -/
def UpkeepOp.slot : UpkeepOp → SlotNo
  | .entry op => op.slot
  | .format n _ => n
  | .release n => n

/-- The next access of an upkeep operation, in a slot (R53, R55, R56, R25). That a FORMAT writes the
directory cells from cell 0 upward is the model's choice (notes/assumptions/21.md). -/
def UpkeepOp.access (d : Slot) : UpkeepOp → Option Nat
  | .entry op => op.access
  | .format _ next => if next < d.cells then some next else none
  | .release _ => none

/-- The access the upkeep engine has ready, in its slot's window (R61, R62). That an operation's next
access is ready as soon as the last one has ended is the model's choice (notes/assumptions/19.md). -/
def State.upkeepAccess (s : State) : Option (UpkeepOp × Nat) :=
  match s.mp.upkeep with
  | none => none
  | some op =>
      if (s.gate op.slot).holder = some .upkeep then
        ((op.access (s.slot op.slot)).filter
          (s.inWindow (s.slot op.slot).base (s.slot op.slot).size)).map fun c => (op, c)
      else none

/-- The count L after a lookup grant: one more, but not above N (R69). -/
def Mp.runAfterLookup (m : Mp) : Nat := min (m.lookupRun + 1) m.share

/-- A lookup grant: the probe that holds the gate of slot `n` reads cell `c` of the window it was taken
with, whatever has become of the slot since (R47, R48, R69; notes/assumptions/16.md). -/
def State.grantLookup (s : State) (n : SlotNo) (c : Nat) : State :=
  s.withMp { s.mp with
    lookupRun := s.mp.runAfterLookup
    probes := s.mp.probes.map fun p =>
      if (s.gate n).holder = some (.probe p.tag) then
        { p with walk := p.walk.map fun w => w.advance (readCell s.sdram w.base c) }
      else p }

/-- The access of an upkeep operation at cell `c` (R25, R53, R55, R56). -/
def UpkeepOp.perform (d : Slot) (m : List Host.Cell) (c : Nat) : UpkeepOp → UpkeepOp × List Host.Cell
  | .entry op => (.entry (op.perform d m c).1, (op.perform d m c).2)
  | .format n next =>
      (.format n (next + 1), writeCell m d.base c (formatBytes d c).1 (formatBytes d c).2)
  | .release n => (.release n, m)

/-- An upkeep grant (R69). -/
def State.grantUpkeep (s : State) (op : UpkeepOp) (c : Nat) : State :=
  let r := op.perform (s.slot op.slot) s.sdram c
  (s.withMp { s.mp with lookupRun := 0, upkeep := some r.1 }).withSdram r.2

/-- ARBITER_GRANT: what is granted where one side waits, or both, or none (R69). -/
def execArbiterGrant (n : SlotNo) (s : State) : Host.Outcome State Fault Refusal :=
  .next (match s.presented n, s.upkeepAccess with
    | none, none => s
    | some (m, c), none => s.grantLookup m c
    | none, some (op, c) => s.grantUpkeep op c
    | some (m, c), some (op, d) =>
        if s.mp.lookupRun < s.mp.share then s.grantLookup m c else s.grantUpkeep op d)

/-- The result of a probe whose walk has ended (R64). -/
def Walk.result (w : Walk) : Option PairResult :=
  match w.phase with
  | .found => some (.hit w.entry.flags w.entry.text)
  | .absent => some .miss
  | _ => none

/-- A probe leaves the tag list: its tag is free (R63). -/
def State.freeTagOf (s : State) (tag : Fin 32) : State :=
  s.withMp { s.mp with probes := s.mp.probes.filter fun p => p.tag != tag }

/-- The walk of a probe ends with a result: it releases its slot's gate, its tag is free, and the
result is delivered, or discarded if it was withdrawn (R64, R68). -/
def State.endProbe (s : State) (n : SlotNo) (p : Probe) (result : PairResult) : State :=
  let t := (s.freeTagOf p.tag).releaseGate n
  if p.withdrawn then t else t.deliver [p.tag] result

/-- PROBE_END (R64). -/
def execProbeEnd (n : SlotNo) (s : State) : Host.Outcome State Fault Refusal :=
  .next (match s.holderProbe n with
    | none => s
    | some p =>
        match p.walk.bind Walk.result with
        | none => s
        | some result => s.endProbe n p result)

/-- SET_MAINT_SHARE (R70). -/
def cmdSetMaintShare (share : Byte) (s : State) : State :=
  if shareSettings.contains share.toNat then
    (s.withMp { s.mp with
      share := share.toNat
      lookupRun := min s.mp.lookupRun share.toNat }).done
  else s.refuse .badArg

/-- The row SET_MAINT_SHARE. -/
def execSetMaintShare (share : Byte) (s : State) : Host.Outcome State Fault Refusal :=
  .next (hostCommand (.setMaintShare share) (cmdSetMaintShare share) s)

end Sys2Proof.Machine
end

