-- ==== Sys2Proof/Machine/CommandPort.lean ====
section
/-!
DEFINITION. The Command Port (chapter 9): the SPI transactions, the beginning of a command, notices
and interrupts, RESTART and the hard reset.
-/

namespace Sys2Proof.Machine

/-! ### Execution (9.3) -/

/-- A command executes, as its own chapter gives (R164). -/
def runCommand (c : Command) (s : State) : State :=
  match c with
  | .setKeyTiming d g st => cmdSetKeyTiming d g st s
  | .setKeyPolarity v => cmdSetKeyPolarity v s
  | .setKeyMask v => cmdSetKeyMask v s
  | .setStacking v => cmdSetStacking v s
  | .injectStroke v => cmdInjectStroke v s
  | .setClock v => cmdSetClock v s
  | .keyInfo v => cmdKeyInfo v s
  | .setMemory v => cmdSetMemory v s
  | .setWindow n b z => cmdSetWindow n b z s
  | .format n b => cmdFormat n b s
  | .releaseSlot n => cmdReleaseSlot n s
  | .setAccess n a => cmdSetAccess n a s
  | .setRanks a b c d => cmdSetRanks a b c d s
  | .lockSlot n => cmdLockSlot n s
  | .slotInfo n => cmdSlotInfo n s
  | .addEntry n o f t => cmdEntryWrite .add n o f t s
  | .replaceEntry n o f t => cmdEntryWrite .replace n o f t s
  | .retireEntry n o => cmdEntryWrite .retire n o 0 [] s
  | .fetchEntry n o => cmdFetchEntry n o s
  | .setMaintShare v => cmdSetMaintShare v s
  | .start => cmdStart s
  | .stop => cmdStop s
  | .windowInfo v => cmdWindowInfo v s
  | .setSpeaker n l => cmdSetSpeaker n l s
  | .setSettleTime v => cmdSetSettleTime v s
  | .flush => cmdFlush s
  | .setChannel ch m f d r st ka => cmdSetChannel ch m f d r st ka s
  | .channelOn ch => cmdChannelOn ch s
  | .channelOff ch => cmdChannelOff ch s
  | .channelInfo ch => cmdChannelInfo ch s
  | .clearNotices m =>
      (s.withCp { s.cp with notices := s.cp.notices &&& ~~~m }).respond .done [s.cp.notices]
  | .setInterrupts r p m t =>
      (s.withCp { s.cp with
        respEnable := r != 0
        reportEnable := p != 0
        noticeEnable := m
        trigger := clamp 1 64 t.toNat }).done

/-- The oldest waiting frame leaves the command queue and executes: malformed, it completes at once
with BAD_FRAME (R164, R165). -/
def State.beginFrame (s : State) (f : Frame) (rest : List Frame) : State :=
  let t := (s.withCp { s.cp with queue := rest }).beginExecution (echoOf f.bytes)
  match parseFrame f.bytes f.overLong with
  | some c => runCommand c t
  | none => t.refuse .badFrame

/-- COMMAND_BEGIN (R164). -/
def execCommandBegin (s : State) : Host.Outcome State Fault Refusal :=
  .next (match s.cp.queue with
    | [] => s
    | f :: rest => if s.canBegin then s.beginFrame f rest else s)

/-- CLEAR_NOTICES (R174). -/
def execClearNotices (mask : Byte) (s : State) : Host.Outcome State Fault Refusal :=
  .next (hostCommand (.clearNotices mask) (runCommand (.clearNotices mask)) s)

/-- SET_INTERRUPTS (R176). -/
def execSetInterrupts (response report mask trigger : Byte) (s : State) :
    Host.Outcome State Fault Refusal :=
  .next (hostCommand (.setInterrupts response report mask trigger)
    (runCommand (.setInterrupts response report mask trigger)) s)

/-! ### RESTART (9.10) -/

/-- What a transaction in progress has fixed on has left its queue, where it is a read of this kind: its
bytes go on being shifted out, and nothing is removed when SPSEL rises (R169, R171, R179). -/
def Spi.discard (kind : Transfer) : Spi → Spi
  | .busy t => .busy (if t.kind = some kind then { t with queued := false } else t)
  | p => p

/-- The restart takes effect (R178). -/
def State.restartEffect (s : State) : State :=
  let t := (s.withMp s.mp.withdrawAll).restartKeys
  let u := t.withTe { t.te with
    state := .stopped
    run := false
    window := []
    settledFmt := Fmt.initial
    settleTimer := none
    settleDue := false
    rescanPending := false
    table := none
    replay := none }
  let v := u.withChans (Vector.ofFn fun n : ChanNo => (u.chan n).restarted)
  (v.withSpi (v.spi.discard .reportRead)).withCp { v.cp with
    reports := []
    responses := v.cp.responses ++ List.replicate v.cp.restarts ⟨.done, restartCode, []⟩
    restarts := 0 }

/-- Steps 1 and 2 of R177: the waiting frames and the responses are discarded. -/
def State.discardWaiting (s : State) : State :=
  (s.withSpi (s.spi.discard .responseRead)).withCp { s.cp with queue := [], responses := [] }

/-- A waiting upkeep claim, or the FORMAT that holds a gate, is removed, and its command ends
without a response (R72, R177). -/
def State.dropUpkeep (s : State) (n : SlotNo) : State :=
  let g := s.gate n
  let t := s.clearUpkeep.withGate n
    { holder := if g.holder = some .upkeep then none else g.holder
      waiting := g.waiting.filter fun c => c != .upkeep }
  (t.serveGate n).endSilently

/-- Steps 4 to 6 of R177: what the RESTART does to the command in execution. -/
def State.cutCommand (s : State) : State :=
  match s.mp.upkeep with
  | none => s.endSilently
  | some (.format n _) => (s.abandonFormat n).dropUpkeep n
  | some op =>
      if (s.gate op.slot).holder = some .upkeep then s else s.dropUpkeep op.slot

/-- The restart takes effect at once where no command is left in execution (R177, R179). -/
def State.restartIfFree (s : State) : State :=
  if s.cp.executing.isNone then s.restartEffect else s

/-- A RESTART frame is taken: it begins a restart, joins the one in progress, or, the ninth, is
discarded; with no command in execution the restart takes effect at once (R177, R179;
notes/assumptions/11.md). -/
def State.takeRestart (s : State) : State :=
  if s.cp.restarts = 0 then
    let t := s.discardWaiting
    ((t.withCp { t.cp with restarts := 1 }).cutCommand).restartIfFree
  else if s.cp.restarts < Config.restartPlaces then
    (s.discardWaiting.withCp { s.discardWaiting.cp with
      restarts := s.cp.restarts + 1 }).restartIfFree
  else s.setNotices commandDropped

/-- RESTART (R163, R177, R179). -/
def execRestart (s : State) : Host.Outcome State Fault Refusal := .next s.takeRestart

/-- RESTART_TAKES_EFFECT: a restart is in progress and no command is left in execution (R178). -/
def execRestartTakesEffect (s : State) : Host.Outcome State Fault Refusal :=
  .next (if s.cp.restarts ≠ 0 ∧ s.cp.executing.isNone then s.restartEffect else s)

/-! ### Transactions (9.1, 9.5 to 9.7) -/

/-- A byte the G410 shifts out where it has nothing of its own (R160). -/
def fillByte : Byte := 0xFF

/-- SPDO is driven while SPSEL is low, and left undriven while it is high (R160). -/
def State.spdoDriven (s : State) : Bool :=
  match s.spi with
  | .idle => false
  | .busy _ => true
  | .ignored => true

/-- The bits of a byte in the order they are shifted: the most significant first (R160). -/
def bitsOf (b : Byte) : List Bool := [7, 6, 5, 4, 3, 2, 1, 0].map fun i => b.getLsbD i

/-- The first `n` bits a transaction shifts out: the port status byte, a frame, and fill bytes after it
(R160, R161). -/
def shiftedBits (status : Byte) (frame : List Byte) (n : Nat) : List Bool :=
  ((status :: (frame ++ List.replicate (n / 8) fillByte)).flatMap bitsOf).take n

/-- The bits of a lead byte, of `count` whole bytes and of `extra` bits after them. -/
def bitsFor (count : Nat) (extra : Fin 8) : Nat := 8 + 8 * count + extra.val

/-- SPSEL falls: a transaction begins, its port status byte captured (R160, R161). -/
def State.selectFall (s : State) : State :=
  match s.spi with
  | .idle => (s.withSpi (.busy ⟨s.portStatus, none, [], false⟩)).withSpdo []
  | .busy _ => s
  | .ignored => s

/-- The transaction that a lead byte names: one that is none of the four makes it void (R160). -/
def transferOf (lead : Byte) : Transfer :=
  if lead = 0x5A then .commandWrite
  else if lead = 0x5B then .responseRead
  else if lead = 0x5C then .reportRead
  else if lead = 0x5D then .statusRead
  else .void

/-- The frame of a response read or report read: the oldest one's, or a length byte of 0 (R169,
R171). -/
def oldestFrame : List (List Byte) → List Byte
  | [] => [0]
  | f :: _ => f

/-- What a transaction fixes on at the end of its lead byte: the bytes it shifts out before fill bytes,
and whether they are those of a record that stands at the head of its queue (R160, R169, R171,
R172). -/
def State.fixes (s : State) : Transfer → List Byte × Bool
  | .commandWrite => ([], false)
  | .responseRead => (oldestFrame (s.cp.responses.map Response.frame), !s.cp.responses.isEmpty)
  | .reportRead => (oldestFrame (s.cp.reports.map Report.frame), !s.cp.reports.isEmpty)
  | .statusRead => (s.statusRecord, false)
  | .void => ([], false)

/-- The lead byte of the transaction in progress is complete: it names the transaction, and what is
shifted out after it is fixed on (R160, R169, R171, R172). In a selection that is ignored it names
nothing, and a fill byte has been shifted out (R160). -/
def State.leadByte (s : State) (lead : Byte) : State :=
  match s.spi with
  | .busy t =>
      if t.kind = none then
        let fixed := s.fixes (transferOf lead)
        (s.withSpi (.busy ⟨t.status, some (transferOf lead), fixed.1, fixed.2⟩)).withSpdo
          (bitsOf t.status)
      else s
  | .idle => s
  | .ignored => s.withSpdo (bitsOf fillByte)

/-- SPSEL rises on the transaction in progress, of the given kind, once `n` bits have been shifted:
`effect` is what the transaction does at its end. A transaction that is ignored has no effect; the
part, with nothing of its own to shift out, has shifted out fill bytes (R160, R180). -/
def State.selectRise (s : State) (kind : Option Transfer) (n : Nat)
    (effect : Transaction → State → State) : State :=
  match s.spi with
  | .busy t =>
      if t.kind = kind then
        effect t ((s.withSpi .idle).withSpdo (shiftedBits t.status t.frame n))
      else s
  | .idle => s
  | .ignored => (s.withSpi .idle).withSpdo (shiftedBits fillByte [] n)

/-- A transaction, or one of its three moments. A whole one begins with the fall of SPSEL, so it is
none while SPSEL is low (R160; notes/assumptions/9.md). -/
def State.transact {shifted : Type} (s : State) (part : SpiPart shifted) (lead : State → State)
    (rise : shifted → State → State) : State :=
  match part with
  | .whole x => if s.spi = .idle then rise x (lead s.selectFall) else s
  | .fall => s.selectFall
  | .lead => lead s
  | .rise x => rise x s

/-- A frame is taken (R163). -/
def State.takeFrame (s : State) (f : Frame) : State :=
  if f.bytes = restartFrame ∧ f.overLong = false then s.takeRestart else s.placeFrame f

/-- COMMAND_WRITE: when SPSEL rises, the bytes after the lead byte form one frame; none, and nothing
changes (R162). -/
def execCommandWrite (part : SpiPart Written) (s : State) : Host.Outcome State Fault Refusal :=
  .next (s.transact part (State.leadByte · 0x5A) fun x t =>
    t.selectRise (some .commandWrite) (bitsFor x.bytes.length x.extra) fun _ u =>
      if x.bytes.isEmpty then u else u.takeFrame (keepFrame x.bytes))

/-- Whether a read that ends after `count` whole bytes removes what it fixed on: every byte of its frame
has been shifted out whole, and it is still in its queue (R169, R171). -/
def Transaction.removes (t : Transaction) (count : Nat) : Bool :=
  t.queued && decide (t.frame.length ≤ count)

/-- RESPONSE_READ: the oldest response, fixed on at the end of the lead byte, leaves the queue when
SPSEL rises, where its whole frame was shifted out (R169). -/
def execResponseRead (part : SpiPart Clocked) (s : State) : Host.Outcome State Fault Refusal :=
  .next (s.transact part (State.leadByte · 0x5B) fun x t =>
    t.selectRise (some .responseRead) (bitsFor x.count x.extra) fun r u =>
      if r.removes x.count then u.withCp { u.cp with responses := u.cp.responses.drop 1 } else u)

/-- REPORT_READ: likewise for the oldest report (R171). -/
def execReportRead (part : SpiPart Clocked) (s : State) : Host.Outcome State Fault Refusal :=
  .next (s.transact part (State.leadByte · 0x5C) fun x t =>
    t.selectRise (some .reportRead) (bitsFor x.count x.extra) fun r u =>
      if r.removes x.count then u.withCp { u.cp with reports := u.cp.reports.drop 1 } else u)

/-- STATUS_READ: the status record, captured at the end of the lead byte, and nothing changes
(R172). -/
def execStatusRead (part : SpiPart Clocked) (s : State) : Host.Outcome State Fault Refusal :=
  .next (s.transact part (State.leadByte · 0x5D) fun x t =>
    t.selectRise (some .statusRead) (bitsFor x.count x.extra) fun _ u => u)

/-- VOID_TRANSACTION: fill bytes, and no state changes. With the lead byte incomplete, only the first
bits of the port status byte are shifted out (R160, R161). A term with a lead byte of the table is no
void transaction and stands for no step (notes/assumptions/9.md). -/
def execVoidTransaction (lead : Option Byte) (part : SpiPart Clocked) (s : State) :
    Host.Outcome State Fault Refusal :=
  .next (match lead with
    | some b =>
        if transferOf b = .void then
          s.transact part (State.leadByte · b) fun x t =>
            t.selectRise (some .void) (bitsFor x.count x.extra) fun _ u => u
        else s
    | none => s.transact part (fun t => t) fun x t => t.selectRise none x.extra.val fun _ u => u)

/-! ### Hard reset (9.11) -/

/-- The SPI port after a hard reset: a transaction in progress is ended, and what is selected is ignored
until the next fall of SPSEL (R160, R180). -/
def Spi.hardReset : Spi → Spi
  | .idle => .idle
  | .busy _ => .ignored
  | .ignored => .ignored

/-- HARD_RESET: every block takes its hard-reset values; the pins keep their levels, and the SDRAM
its contents, which are not used (R20, R36, R73, R96, R108, R133, R159, R180). -/
def execHardReset (s : State) : Host.Outcome State Fault Refusal :=
  .next { State.reset with
    ksu := s.ksu.hardReset
    sdram := s.sdram
    chans := Vector.ofFn fun n : ChanNo => Channel.reset (s.chan n).fclrHigh
    spi := s.spi.hardReset
    pending := s.pending }

end Sys2Proof.Machine
end

