-- ==== Sys2Proof/Machine/Dispatch.lean ====
section
/-! DEFINITION. Every step of the part and its meaning: one arm per row of the table. -/

namespace Sys2Proof.Machine

def exec (i : Instr) (s : State) : Host.Outcome State Fault Refusal :=
  match i with
  | .hardReset => Sys2Proof.Machine.execHardReset s
  | .lineLevelChange key high => Sys2Proof.Machine.execLineLevelChange key high s
  | .debounceExpiry key => Sys2Proof.Machine.execDebounceExpiry key s
  | .holdTimerExpiry key => Sys2Proof.Machine.execHoldTimerExpiry key s
  | .commandWrite part => Sys2Proof.Machine.execCommandWrite part s
  | .responseRead part => Sys2Proof.Machine.execResponseRead part s
  | .reportRead part => Sys2Proof.Machine.execReportRead part s
  | .statusRead part => Sys2Proof.Machine.execStatusRead part s
  | .voidTransaction lead part => Sys2Proof.Machine.execVoidTransaction lead part s
  | .commandBegin => Sys2Proof.Machine.execCommandBegin s
  | .setKeyTiming debounce ghost stuck => Sys2Proof.Machine.execSetKeyTiming debounce ghost stuck s
  | .setKeyPolarity keys => Sys2Proof.Machine.execSetKeyPolarity keys s
  | .setKeyMask keys => Sys2Proof.Machine.execSetKeyMask keys s
  | .setStacking value => Sys2Proof.Machine.execSetStacking value s
  | .injectStroke keys => Sys2Proof.Machine.execInjectStroke keys s
  | .setClock value => Sys2Proof.Machine.execSetClock value s
  | .keyInfo clear => Sys2Proof.Machine.execKeyInfo clear s
  | .setMemory mib => Sys2Proof.Machine.execSetMemory mib s
  | .setWindow slot base size => Sys2Proof.Machine.execSetWindow slot base size s
  | .format slot buckets => Sys2Proof.Machine.execFormat slot buckets s
  | .formatComplete => Sys2Proof.Machine.execFormatComplete s
  | .releaseSlot slot => Sys2Proof.Machine.execReleaseSlot slot s
  | .setAccess slot code => Sys2Proof.Machine.execSetAccess slot code s
  | .setRanks r0 r1 r2 r3 => Sys2Proof.Machine.execSetRanks r0 r1 r2 r3 s
  | .lockSlot slot => Sys2Proof.Machine.execLockSlot slot s
  | .slotInfo slot => Sys2Proof.Machine.execSlotInfo slot s
  | .addEntry slot outline flags text => Sys2Proof.Machine.execAddEntry slot outline flags text s
  | .replaceEntry slot outline flags text => Sys2Proof.Machine.execReplaceEntry slot outline flags text s
  | .retireEntry slot outline => Sys2Proof.Machine.execRetireEntry slot outline s
  | .fetchEntry slot outline => Sys2Proof.Machine.execFetchEntry slot outline s
  | .fetchEntryAny outline => Sys2Proof.Machine.execFetchEntryAny outline s
  | .upkeepOperationEnd => Sys2Proof.Machine.execUpkeepOperationEnd s
  | .setMaintShare share => Sys2Proof.Machine.execSetMaintShare share s
  | .start => Sys2Proof.Machine.execStart s
  | .stop => Sys2Proof.Machine.execStop s
  | .windowInfo => Sys2Proof.Machine.execWindowInfo s
  | .windowInfoRecord record => Sys2Proof.Machine.execWindowInfoRecord record s
  | .setSpeaker number label => Sys2Proof.Machine.execSetSpeaker number label s
  | .setSettleTime ms => Sys2Proof.Machine.execSetSettleTime ms s
  | .flush => Sys2Proof.Machine.execFlush s
  | .setChannel chan mode flow divisor resume stall keepalive => Sys2Proof.Machine.execSetChannel chan mode flow divisor resume stall keepalive s
  | .channelOn chan => Sys2Proof.Machine.execChannelOn chan s
  | .channelOff chan => Sys2Proof.Machine.execChannelOff chan s
  | .channelInfo chan => Sys2Proof.Machine.execChannelInfo chan s
  | .restart => Sys2Proof.Machine.execRestart s
  | .restartTakesEffect => Sys2Proof.Machine.execRestartTakesEffect s
  | .clearNotices mask => Sys2Proof.Machine.execClearNotices mask s
  | .setInterrupts response report mask trigger => Sys2Proof.Machine.execSetInterrupts response report mask trigger s
  | .arbiterGrant slot => Sys2Proof.Machine.execArbiterGrant slot s
  | .probeIssue => Sys2Proof.Machine.execProbeIssue s
  | .probeEnd slot => Sys2Proof.Machine.execProbeEnd slot s
  | .takeStroke => Sys2Proof.Machine.execTakeStroke s
  | .settleDueService => Sys2Proof.Machine.execSettleDueService s
  | .settleTimerExpiry => Sys2Proof.Machine.execSettleTimerExpiry s
  | .rescan => Sys2Proof.Machine.execRescan s
  | .transmitByte chan => Sys2Proof.Machine.execTransmitByte chan s
  | .byteComplete chan => Sys2Proof.Machine.execByteComplete chan s
  | .inboundByte chan sampled stopBit => Sys2Proof.Machine.execInboundByte chan sampled stopBit s
  | .fclrChange chan high => Sys2Proof.Machine.execFclrChange chan high s
  | .breakReceived chan => Sys2Proof.Machine.execBreakReceived chan s
  | .stallTimerExpiry chan => Sys2Proof.Machine.execStallTimerExpiry chan s
  | .keepaliveTimerExpiry chan => Sys2Proof.Machine.execKeepaliveTimerExpiry chan s
  | .strokeClockTick => Sys2Proof.Machine.execStrokeClockTick s
  | .returnToMark chan => Sys2Proof.Machine.execReturnToMark chan s

end Sys2Proof.Machine
end

