-- ==== Sys2Proof/Machine/Step.lean ====
section
/-!
DEFINITION. One step of the part: the step at the front of the queue of waiting steps runs
(notes/assumptions/1.md). The part fetches no program; `State.withFetchWord` stands for the placing
of a step at the front of that queue (notes/assumptions/2.md).
-/

namespace Sys2Proof.Machine

/-- The step at the front of the queue runs on the state with the queue's rest; with nothing waiting
the part idles. -/
def step (s : State) : Host.Outcome State Fault Refusal :=
  match s.pending with
  | [] => .next s
  | c :: rest => exec c (s.withPending rest)

/-- `s` with the step that a word of the table spells at the front of its queue; `s` itself where
the word spells none. -/
def State.withFetchWord (s : State) (nbits w : Nat) : State :=
  match decodeTableWord nbits w with
  | some c => s.withPending (c :: s.pending)
  | none => s

end Sys2Proof.Machine
end

