-- ==== Sys2Proof/Safety.lean ====
section
/-!
DEFINITION. What a safe run of the part is, in the terms statements use: every step answers a next
state. The guide gives every step of the table an effect in every state, so the model has no fault and
refuses no step.
-/

namespace Sys2Proof

/-- A step answered a next state: it raised no fault and was not refused. -/
def Safe {σ φ ρ : Type} (o : Host.Outcome σ φ ρ) : Prop := ∃ t, o = .next t

/-- The first `k` steps from `s` are safe. -/
def SafeFor (k : Nat) (s : Machine.State) : Prop := Safe (core.run k s)

end Sys2Proof
end

