-- ==== Sys2Proof/Certificates/Slice0/Obligations.lean ====
section
/-!
DEFINITION. The statements about the G410, each from rules of the guide. `Sys2Proof.Rules` holds the
words they share: when the Command Port can begin a command, a state with a response added, and the
rows that stand for the commands of the catalogue.
-/

namespace Sys2Proof.Rules

open Sys2Proof Sys2Proof.Machine

/-- The Command Port can begin a command and no frame waits before it (R164). -/
structure Ready (s : State) : Prop where
  noCommand : s.cp.executing = none
  noRestart : s.cp.restarts = 0
  room : s.cp.responses.length < 8
  noFrame : s.cp.queue = []

/-- `s` with one more response at the tail of the response queue (R166, R167). -/
def answered (s : State) (status : Status) (code : Byte) (data : List Byte) : State :=
  s.withCp { s.cp with responses := s.cp.responses ++ [⟨status, code, data⟩] }

/-- `s` with an upkeep operation's command in execution (R166). -/
def executing (s : State) (code : Byte) : State := s.withCp { s.cp with executing := some code }

/-- `s` with notices set (R173). -/
def noticed (s : State) (mask : Byte) : State :=
  s.withCp { s.cp with notices := s.cp.notices ||| mask }

/-- A frame that is no RESTART frame waits, or is dropped where 4 wait (R163). -/
def framed (s : State) (f : Frame) : State :=
  if s.cp.queue.length < 4 then s.withCp { s.cp with queue := s.cp.queue ++ [f] }
  else noticed s 0x08

/-- The row of the table that stands for a command of the catalogue (9.12). -/
def rowOf : Command → Instr
  | .setKeyTiming d g st => .setKeyTiming d g st
  | .setKeyPolarity v => .setKeyPolarity v
  | .setKeyMask v => .setKeyMask v
  | .setStacking v => .setStacking v
  | .injectStroke v => .injectStroke v
  | .setClock v => .setClock v
  | .keyInfo v => .keyInfo v
  | .setMemory v => .setMemory v
  | .setWindow n b z => .setWindow n b z
  | .format n b => .format n b
  | .releaseSlot n => .releaseSlot n
  | .setAccess n a => .setAccess n a
  | .setRanks a b c d => .setRanks a b c d
  | .lockSlot n => .lockSlot n
  | .slotInfo n => .slotInfo n
  | .addEntry n o f t => .addEntry n o f t
  | .replaceEntry n o f t => .replaceEntry n o f t
  | .retireEntry n o => .retireEntry n o
  | .fetchEntry n o => if n = 0xFF then .fetchEntryAny o else .fetchEntry n o
  | .setMaintShare v => .setMaintShare v
  | .start => .start
  | .stop => .stop
  | .windowInfo v => if v = 0 then .windowInfo else .windowInfoRecord v
  | .setSpeaker n l => .setSpeaker n l
  | .setSettleTime v => .setSettleTime v
  | .flush => .flush
  | .setChannel ch m f d r st ka => .setChannel ch m f d r st ka
  | .channelOn ch => .channelOn ch
  | .channelOff ch => .channelOff ch
  | .channelInfo ch => .channelInfo ch
  | .clearNotices m => .clearNotices m
  | .setInterrupts r p m t => .setInterrupts r p m t

/-- The bits of bytes as they are shifted on SPDO, the most significant bit of each first (R160). -/
def wireBits (bytes : List Byte) : List Bool :=
  bytes.flatMap fun b => (List.range 8).map fun i => b.getLsbD (7 - i)

/-- The bits shifted out in a transaction with `n` whole bytes after its lead byte and `extra` bits of an
incomplete one: the port status byte, then a frame, and the fill byte after it (R160, R161). -/
def shifted (status : Byte) (frame : List Byte) (n : Nat) (extra : Fin 8) : List Bool :=
  (wireBits (status :: frame ++ List.replicate (n + 1) 0xFF)).take (8 + 8 * n + extra.val)

/-- SPSEL has fallen on a new transaction, this port status byte captured (R160, R161). -/
def selected (s : State) (status : Byte) : State :=
  (s.withSpi (.busy ⟨status, none, [], false⟩)).withSpdo []

/-- The lead byte is complete: it has named the transaction, and a frame is fixed on (R160, R169). -/
def named (s : State) (status : Byte) (kind : Transfer) (frame : List Byte) (queued : Bool) : State :=
  (s.withSpi (.busy ⟨status, some kind, frame, queued⟩)).withSpdo (wireBits [status])

/-- SPSEL has risen after a transaction that shifted out these (R160). -/
def transferOver (s : State) (status : Byte) (frame : List Byte) (n : Nat) (extra : Fin 8) : State :=
  (s.withSpi .idle).withSpdo (shifted status frame n extra)

/-- The status record (R172, R184). -/
def statusBytes (s : State) : List Byte :=
  [BitVec.ofNat 8 (4 - s.cp.queue.length), if s.cp.executing.isSome then 1 else 0,
    s.cp.executing.getD 0, BitVec.ofNat 8 s.cp.responses.length,
    BitVec.ofNat 8 s.cp.reports.length, s.cp.notices, if s.hint then 1 else 0,
    match s.te.state with
      | .stopped => 0
      | .waiting => 1
      | .resolving => 2
      | .rescanning => 3,
    BitVec.ofNat 8 s.strokeQueue.length, if s.cp.restarts = 0 then 0 else 1]

/-- A response frame (R185). -/
def responseBytes (r : Response) : List Byte :=
  BitVec.ofNat 8 (2 + r.data.length) :: r.status.code :: r.code :: r.data

/-- A report frame (R186). -/
def reportBytes (r : Report) : List Byte :=
  match r with
  | .stroke keys time origin split stuckCut undoEmpty =>
      [10, 1] ++ bytesOf24 keys ++ bytesOf32 time ++
        [match origin with
          | .keyboard => 0
          | .injected => 1,
        (if split then 1 else 0) + (if stuckCut then 2 else 0) + (if undoEmpty then 4 else 0)]
  | .settled source outline text truncated =>
      [BitVec.ofNat 8 (5 + 3 * outline.length + text.length), 2,
        match source with
          | .slot m => BitVec.ofNat 8 m.val
          | .number => 4
          | .raw => 5,
        if truncated then 1 else 0, BitVec.ofNat 8 outline.length] ++ strokeBytes outline ++
        [BitVec.ofNat 8 text.length] ++ text

/-- The record that a read of this kind has fixed on has left its queue (R169, R171, R179). -/
def fixedDiscarded (kind : Transfer) (p : Spi) : Spi :=
  match p with
  | .busy t => .busy { t with queued := t.queued && decide (t.kind ≠ some kind) }
  | .idle => .idle
  | .ignored => .ignored

/-- The steps of a list, one after another. -/
def execAll : List Instr → State → Host.Outcome State Fault Refusal
  | [], s => .next s
  | c :: rest, s =>
      match exec c s with
      | .next t => execAll rest t
      | .fault f => .fault f
      | .refused r => .refused r

end Sys2Proof.Rules

section

open Sys2Proof Sys2Proof.Machine Sys2Proof.Rules

/-! ### The queue of waiting steps and the Command Port (chapter 9) -/

/-- The step at the front of the queue runs on the state with the queue's rest, and every step of every
state answers a next state. That the part idles with nothing waiting is the model's choice
(notes/assumptions/1.md). -/
def Obligations.StepRunsTheFrontCommand : Prop :=
  (∀ (s : State) (c : Instr) (rest : List Instr), s.pending = c :: rest →
    step s = exec c (s.withPending rest)) ∧
  (∀ s : State, s.pending = [] → step s = .next s) ∧
  ∀ (c : Instr) (s : State), ∃ t, exec c s = .next t

/-- R162, R165, R185: the bytes of a frame spell a command exactly when they are that command's
frame, and no frame is over-long. -/
def Obligations.FrameSpellsExactlyOneCommand : Prop :=
  (∀ c : Command, c.wf = true → c.frame.length ≤ 256 ∧ parseFrame c.frame false = some c) ∧
  ∀ (bytes : List Byte) (overLong : Bool) (c : Command), parseFrame bytes overLong = some c →
    overLong = false ∧ c.wf = true ∧ bytes = c.frame

/-- R162 to R166: a command row of the table does what a command write of the command's frame does,
followed, where the CP can begin a command and no frame waits, by COMMAND_BEGIN; both read from the
state whose SPDO holds what that transaction shifts out. That a command row stands for the arrival of
its frame, placed or dropped where the CP is not ready, is read from the guide
(notes/assumptions/5.md). -/
def Obligations.CommandRowIsItsFrameOnTheWire : Prop :=
  ∀ (c : Command) (s : State), c.wf = true → s.spi = .idle →
    let wire : Instr := .commandWrite (.whole ⟨c.frame, 0⟩)
    let sent := s.withSpdo (shifted s.portStatus [] c.frame.length 0)
    (Ready s → ∃ t, exec wire s = .next t ∧ exec .commandBegin t = exec (rowOf c) sent) ∧
    (¬Ready s → exec wire s = .next (framed sent ⟨c.frame, false⟩) ∧
      exec (rowOf c) s = .next (framed s ⟨c.frame, false⟩))

/-- R164, R165: COMMAND_BEGIN takes the oldest frame out of the queue. A frame that spells no
command is answered BAD_FRAME with its code byte, or 0x00, and nothing else changes; a frame of a
command does what the command's row does with no frame waiting, and the frames behind it wait on.
Where a condition of R164 fails nothing changes. -/
def Obligations.CommandBeginTakesTheOldestFrame : Prop :=
  ∀ (s : State) (f : Frame) (rest : List Frame), s.cp.queue = f :: rest →
    ((s.cp.executing = none ∧ s.cp.restarts = 0 ∧ s.cp.responses.length < 8) →
      ((∀ c : Command, c.wf = true → f ≠ ⟨c.frame, false⟩) →
        exec .commandBegin s = .next
          (answered (s.withCp { s.cp with queue := rest }) .badFrame ((f.bytes[1]?).getD 0) [])) ∧
      ∀ c : Command, c.wf = true → f = ⟨c.frame, false⟩ →
        ∃ u, exec (rowOf c) (s.withCp { s.cp with queue := [] }) = .next u ∧ u.cp.queue = [] ∧
          exec .commandBegin s = .next (u.withCp { u.cp with queue := rest })) ∧
    (¬(s.cp.executing = none ∧ s.cp.restarts = 0 ∧ s.cp.responses.length < 8) →
      exec .commandBegin s = .next s)

/-- R160, R161, R162, R163: a command write captures the port status byte when SPSEL falls and takes its
frame when SPSEL rises, whatever other steps come between. Without a whole byte after its lead byte it
changes nothing; a RESTART frame is acted on at once; any other frame, its first 256 bytes with a
mark where there were more, waits or is dropped. The part shifts out the port status byte and then
0xFF, and the bits of an incomplete byte count for nothing. In a selection that is ignored it shifts
out 0xFF alone, and takes nothing. That a transaction is one step, or the
three of its moments, is the model's choice (notes/assumptions/9.md). -/
def Obligations.CommandWriteTakesAFrame : Prop :=
  ∀ (s : State) (bytes : List Byte) (extra : Fin 8),
    (s.spi = .idle → exec (.commandWrite .fall) s = .next (selected s s.portStatus) ∧
      exec (.commandWrite (.whole ⟨bytes, extra⟩)) s =
        exec (.commandWrite (.rise ⟨bytes, extra⟩)) (named s s.portStatus .commandWrite [] false)) ∧
    (∀ status, s.spi = .busy ⟨status, none, [], false⟩ →
      exec (.commandWrite .lead) s = .next (named s status .commandWrite [] false)) ∧
    (∀ status, s.spi = .busy ⟨status, some .commandWrite, [], false⟩ →
      let sent := transferOver s status [] bytes.length extra
      let rises := exec (.commandWrite (.rise ⟨bytes, extra⟩)) s
      (bytes = [] → rises = .next sent) ∧
      (bytes = [0x01, 0x2E] → rises = exec .restart sent) ∧
      (bytes ≠ [] → bytes ≠ [0x01, 0x2E] →
        rises = .next (framed sent ⟨bytes.take 256, decide (256 < bytes.length)⟩))) ∧
    (s.spi = .ignored →
      exec (.commandWrite .lead) s = .next (s.withSpdo (wireBits [0xFF])) ∧
      exec (.commandWrite (.rise ⟨bytes, extra⟩)) s =
        .next (transferOver s 0xFF [] bytes.length extra))

/-- R160, R161, R172, R175, R176, R180, R184: the port status byte and HINT; SET_INTERRUPTS replaces the
enables and the trigger level, clamped to 1 to 64. Every transaction captures the port status byte
when SPSEL falls; one that was selected when a hard reset ended is ignored until SPSEL rises, and
shifts out 0xFF. SPDO is driven exactly while SPSEL is low. The lead byte names the transaction: 0x5A
a command write, 0x5B a response read, 0x5C a report read, 0x5D a status read, any other a void one.
A status read captures its ten bytes at the end of the lead byte, which may differ from the port status
byte by then; a void transaction shifts out 0xFF; neither changes anything else. That a transaction is
one step, or the three of its moments, and that a term of VOID_TRANSACTION with a lead byte of the
table changes nothing, is the model's choice (notes/assumptions/9.md). -/
def Obligations.StatusAndInterruptLine : Prop :=
  (∀ (s : State) (r p m t : Byte), Ready s →
    exec (.setInterrupts r p m t) s = .next (answered (s.withCp { s.cp with
      respEnable := decide (r ≠ 0)
      reportEnable := decide (p ≠ 0)
      noticeEnable := m
      trigger := if t.toNat = 0 then 1 else if 64 < t.toNat then 64 else t.toNat }) .done 0x30 [])) ∧
  (∀ s : State, s.cp.queue.length ≤ 4 →
    s.portStatus.toNat = (4 - s.cp.queue.length) + (if s.cp.responses = [] then 0 else 8) +
      (if s.cp.reports = [] then 0 else 16) + (if s.hint then 32 else 0)) ∧
  (∀ s : State, s.hint = true ↔
    (s.cp.respEnable = true ∧ s.cp.responses ≠ []) ∨
    (s.cp.reportEnable = true ∧ s.cp.trigger ≤ s.cp.reports.length) ∨
    ∃ i : Fin 8, s.cp.notices.getLsbD i.val = true ∧ s.cp.noticeEnable.getLsbD i.val = true) ∧
  (∀ (s : State) (row : SpiPart Clocked → Instr) (lead : Option Byte) (x : Clocked),
    row ∈ [.responseRead, .reportRead, .statusRead, .voidTransaction lead] →
    (∀ b ∈ lead, b ∉ [0x5A, 0x5B, 0x5C, 0x5D]) →
    (s.spi = .idle → exec (row .fall) s = .next (selected s s.portStatus) ∧
      ∃ u, exec (row .lead) (selected s s.portStatus) = .next u ∧
        exec (row (.whole x)) s = exec (row (.rise x)) u) ∧
    (s.spi = .ignored → (lead = none → exec (.voidTransaction lead .lead) s = .next s ∧
        exec (.voidTransaction lead (.rise ⟨0, x.extra⟩)) s =
          .next ((s.withSpi .idle).withSpdo ((wireBits [0xFF]).take x.extra.val))) ∧
      (lead.isSome = true → exec (row .lead) s = .next (s.withSpdo (wireBits [0xFF])) ∧
        exec (row (.rise x)) s = .next (transferOver s 0xFF [] x.count x.extra)))) ∧
  (∀ s : State, s.spdoDriven = true ↔ s.spi ≠ .idle) ∧
  (∀ (s : State) (status lead : Byte) (kind : Transfer) (row : SpiPart Clocked → Instr),
    s.spi = .busy ⟨status, none, [], false⟩ →
    (lead, kind, row) ∈ [(0x5B, Transfer.responseRead, Instr.responseRead),
        (0x5C, .reportRead, .reportRead), (0x5D, .statusRead, .statusRead)] ∨
      (lead ∉ [0x5A, 0x5B, 0x5C, 0x5D] ∧ kind = .void ∧ row = .voidTransaction (some lead)) →
    exec (.commandWrite .lead) s = .next (s.leadByte 0x5A) ∧
      s.leadByte 0x5A = named s status .commandWrite [] false ∧
    exec (row .lead) s = .next (s.leadByte lead) ∧
      ∃ frame queued, s.leadByte lead = named s status kind frame queued) ∧
  (∀ (s : State) (b : Byte) (part : SpiPart Clocked), b ∈ [0x5A, 0x5B, 0x5C, 0x5D] →
    exec (.voidTransaction (some b) part) s = .next s) ∧
  (∀ (s : State) (status : Byte),
    (s.spi = .busy ⟨status, none, [], false⟩ →
      exec (.statusRead .lead) s = .next (named s status .statusRead (statusBytes s) false)) ∧
    ∀ frame n extra, s.spi = .busy ⟨status, some .statusRead, frame, false⟩ →
      exec (.statusRead (.rise ⟨n, extra⟩)) s = .next (transferOver s status frame n extra)) ∧
  ∀ (s : State) (status b : Byte) (n : Nat) (extra : Fin 8), b ∉ [0x5A, 0x5B, 0x5C, 0x5D] →
    (s.spi = .busy ⟨status, none, [], false⟩ →
      exec (.voidTransaction (some b) .lead) s = .next (named s status .void [] false) ∧
      exec (.voidTransaction none .lead) s = .next s ∧
      exec (.voidTransaction none (.rise ⟨0, extra⟩)) s =
        .next ((s.withSpi .idle).withSpdo ((wireBits [status]).take extra.val))) ∧
    (s.spi = .busy ⟨status, some .void, [], false⟩ →
      exec (.voidTransaction (some b) (.rise ⟨n, extra⟩)) s =
        .next (transferOver s status [] n extra))

/-- R169, R171, R185, R186: a response read or report read fixes on the oldest record at the end of the
lead byte and shifts out its frame, or a length byte of 0 where the queue is empty. The record leaves
its queue when SPSEL rises where every byte of its frame was shifted out and it still stands there; it
stays where the frame was cut short, and one discarded meanwhile is shifted out whole and removes
nothing. That a transaction is one step, or the three of its moments, is the model's choice
(notes/assumptions/9.md). -/
def Obligations.OldestRecordIsReadWhole : Prop :=
  ∀ (s : State) (row : SpiPart Clocked → Instr) (kind : Transfer) (frames : List (List Byte))
    (less : State → State) (x : Clocked),
    (row, kind, frames, less) ∈
      [(Instr.responseRead, Transfer.responseRead, s.cp.responses.map responseBytes,
        fun u => u.withCp { u.cp with responses := u.cp.responses.drop 1 }),
       (.reportRead, .reportRead, s.cp.reports.map reportBytes,
        fun u => u.withCp { u.cp with reports := u.cp.reports.drop 1 })] →
    let oldest := frames.headD [0]
    (s.spi = .idle →
      let out := s.withSpdo (shifted s.portStatus oldest x.count x.extra)
      exec (row (.whole x)) s =
        .next (if frames ≠ [] ∧ oldest.length ≤ x.count then less out else out)) ∧
    (∀ status, s.spi = .busy ⟨status, none, [], false⟩ →
      exec (row .lead) s = .next (named s status kind oldest (decide (frames ≠ [])))) ∧
    ∀ status fixed queued, s.spi = .busy ⟨status, some kind, fixed, queued⟩ →
      let sent := transferOver s status fixed x.count x.extra
      exec (row (.rise x)) s =
        .next (if queued = true ∧ fixed.length ≤ x.count then less sent else sent)

end

/-! ### Words for chapter 1 -/

namespace Sys2Proof.Rules

open Sys2Proof Sys2Proof.Machine

/-- Key `k` is down (R2). -/
def isDown (u : Ksu) (k : Key) : Prop := hasKey u.accepted k = hasKey u.polarity k

/-- Key `k` is a stroke key that is still down (R6); that a carried key is none is read from R3
(notes/assumptions/8.md). -/
def strokeKeyDown (u : Ksu) (k : Key) : Prop :=
  hasKey u.strokeSet k = true ∧ isDown u k ∧ hasKey u.hostMask k = false ∧
    hasKey u.stuckMask k = false ∧ hasKey u.carried k = false

/-- Some stroke key is still down (R7). -/
def someStrokeKeyDown (u : Ksu) : Prop := ∃ k, strokeKeyDown u k

/-- The KSU with the level of line `k` accepted (R2). -/
def accepting (u : Ksu) (k : Key) : Ksu :=
  { u with
    accepted := putKey u.accepted k (hasKey u.line k)
    debounce := u.debounce.set k none }

/-- A record is offered to the stroke queue (R16). -/
def offered (s : State) (r : StrokeRecord) : State :=
  if s.strokeQueue.length < 16 then s.withStrokeQueue (s.strokeQueue ++ [r])
  else noticed (s.withKsu { s.ksu with lostCount := min (s.ksu.lostCount + 1) 65535 }) 0x01

/-- The stroke in progress, from chord start `c` to first release `r`, closes (R9). -/
def closed (s : State) (c r : BitVec 32) (split stuckCut : Bool) : State :=
  let idle := { s.ksu with
    assembly := .idle
    strokeSet := 0
    chordStart := none
    firstRelease := none
    cutFlag := false }
  if (r - c).toNat < s.ksu.ghostMin then
    s.withKsu { idle with ghostCount := min (s.ksu.ghostCount + 1) 65535 }
  else offered (s.withKsu idle) ⟨s.ksu.strokeSet.setWidth 24, c, .keyboard, split, stuckCut⟩

/-- A stroke key of the stroke in progress, chord start `c`, is up: the stroke goes on in RELEASE, or
closes with no stroke key left down (R7). In CHORD the first-release time is the clock. -/
def strokeKeyUp (s : State) (c : BitVec 32) (stuckCut : Bool) : State → Prop := fun t =>
  let r := match s.ksu.assembly with
    | .release => s.ksu.firstRelease.getD s.ksu.clock
    | _ => s.ksu.clock
  (someStrokeKeyDown s.ksu →
    t = s.withKsu { s.ksu with assembly := .release, firstRelease := some r }) ∧
  (¬someStrokeKeyDown s.ksu →
    t = closed (s.withKsu { s.ksu with firstRelease := some r }) c r false stuckCut)

/-- Stroke assembly is as its state tells: in CHORD the chord start is there and the first release is
not; in RELEASE both are; no stuck key is closing the stroke. -/
def assembling (u : Ksu) (c : BitVec 32) : Prop :=
  u.chordStart = some c ∧ u.cutFlag = false ∧
  (u.assembly = .chord ∧ u.firstRelease = none ∨ u.assembly = .release ∧ u.firstRelease.isSome = true)

/-- Keys released at one time, among them the stroke keys that `gone` names, take `s` to `t`, the state of
the keys being already that after the change: with none of them a stroke key that was down, assembly
goes on as it was; with one, the stroke goes on in RELEASE or closes (R3, R4, R7, R9). -/
def releasedTogether (before : Ksu) (gone : Key → Prop) (s t : State) : Prop :=
  ((∀ k, ¬(strokeKeyDown before k ∧ gone k)) → t = s) ∧
  ∀ k c, strokeKeyDown before k → gone k → assembling before c → strokeKeyUp s c false t

/-- The assembly of strokes as 1.3 keeps it: its times and stroke set by its state, with some stroke key
down while a stroke is in progress; carried keys down and in no mask; stuck keys down; a hold timer
running for exactly the keys that are down and in no mask, each of them carried or in the stroke; a
debounce timer running on exactly the lines that differ from the accepted level. -/
structure assemblyInOrder (u : Ksu) : Prop where
  cut : u.cutFlag = false
  idle : u.assembly = .idle → u.strokeSet = 0 ∧ u.chordStart = none ∧ u.firstRelease = none
  chord : u.assembly = .chord → u.chordStart.isSome = true ∧ u.firstRelease = none ∧
    ∀ k, hasKey u.strokeSet k = true → strokeKeyDown u k
  release : u.assembly = .release → u.chordStart.isSome = true ∧ u.firstRelease.isSome = true
  inProgress : u.assembly ≠ .idle → someStrokeKeyDown u
  carried : ∀ k, hasKey u.carried k = true →
    isDown u k ∧ hasKey u.hostMask k = false ∧ hasKey u.stuckMask k = false
  stuck : ∀ k, hasKey u.stuckMask k = true → isDown u k
  held : ∀ k : Key, u.hold[k].isSome = true ↔
    isDown u k ∧ hasKey u.hostMask k = false ∧ hasKey u.stuckMask k = false
  accounted : ∀ k : Key, u.hold[k].isSome = true →
    hasKey u.carried k = true ∨ hasKey u.strokeSet k = true
  debounce : ∀ k : Key, u.debounce[k] = none ↔ hasKey u.line k = hasKey u.accepted k

end Sys2Proof.Rules

section

open Sys2Proof Sys2Proof.Machine Sys2Proof.Rules

/-! ### Keyboard lines and stroke capture (chapter 1) -/

/-- R2, R10, R11, R15: a line at its key's accepted level has its debounce timer idle; a line that leaves
it starts the timer toward the debounce time in force, and a timer already running keeps the time it
started with. Each millisecond the stroke clock counts one, wrapping, and every running hold timer
measures one more; SET_CLOCK loads the clock, moves the times of the stroke in progress by as much
as the clock moves, and disturbs no timer. That a hold timer counts whole milliseconds, one at each
tick of the stroke clock, is the model's choice, where R11 has it measure from its own start
(notes/assumptions/7.md). -/
def Obligations.DebounceTimersAndClockKeepTime : Prop :=
  (∀ (k : Key) (high : Bool) (s : State), ∃ line : KeySet,
     (∀ j : Key, hasKey line j = if j = k then high else hasKey s.ksu.line j) ∧
     (high = hasKey s.ksu.accepted k → exec (.lineLevelChange k high) s =
       .next (s.withKsu { s.ksu with line := line, debounce := s.ksu.debounce.set k none })) ∧
     (high ≠ hasKey s.ksu.accepted k → s.ksu.debounce[k] = none →
       exec (.lineLevelChange k high) s = .next (s.withKsu { s.ksu with
         line := line
         debounce := s.ksu.debounce.set k (some s.ksu.debounceTime) })) ∧
     (high ≠ hasKey s.ksu.accepted k → s.ksu.debounce[k].isSome = true →
       exec (.lineLevelChange k high) s = .next (s.withKsu { s.ksu with line := line }))) ∧
  ((∀ s : State, ∃ hold : Vector (Option Nat) 23,
     (∀ k : Key, hold[k] = s.ksu.hold[k].map (· + 1)) ∧
     exec .strokeClockTick s = .next (s.withKsu { s.ksu with
       clock := BitVec.ofNat 32 ((s.ksu.clock.toNat + 1) % 2 ^ 32), hold := hold })) ∧
   ∀ (s : State) (v : BitVec 32), Ready s → ∃ start release : Option (BitVec 32),
     (s.ksu.chordStart = none → start = none) ∧
     (s.ksu.firstRelease = none → release = none) ∧
     (∀ c, s.ksu.chordStart = some c → ∃ c', start = some c' ∧ c' - c = v - s.ksu.clock) ∧
     (∀ r, s.ksu.firstRelease = some r → ∃ r', release = some r' ∧ r' - r = v - s.ksu.clock) ∧
     exec (.setClock v) s = .next (answered (s.withKsu { s.ksu with
       clock := v, chordStart := start, firstRelease := release }) .done 0x15 []))

/-- R2, R6, R8, R10: an accepted press of an unmasked key begins a stroke, joins the stroke in CHORD
or, with stacking off, in RELEASE, and with stacking on splits the stroke in RELEASE; the key's hold
timer starts. That the key pressed never becomes carried by its own split is read from R8 (see
notes/assumptions/8.md). -/
def Obligations.PressIsTakenByStrokeAssembly : Prop :=
  ∀ (k : Key) (s : State), s.ksu.debounce[k].isSome = true → ¬isDown s.ksu k →
    isDown (accepting s.ksu k) k → hasKey s.ksu.hostMask k = false →
    hasKey s.ksu.stuckMask k = false →
    (s.ksu.assembly = .idle → exec (.debounceExpiry k) s = .next (s.withKsu
      { accepting s.ksu k with
        assembly := .chord
        strokeSet := keyBit k
        chordStart := some s.ksu.clock
        firstRelease := none
        hold := s.ksu.hold.set k (some 0) })) ∧
    (s.ksu.assembly = .chord ∨ (s.ksu.assembly = .release ∧ s.ksu.stacking = false) →
      exec (.debounceExpiry k) s = .next (s.withKsu
        { accepting s.ksu k with
          strokeSet := addKey s.ksu.strokeSet k
          hold := s.ksu.hold.set k (some 0) })) ∧
    ∀ c r : BitVec 32, assembling s.ksu c → s.ksu.assembly = .release → s.ksu.stacking = true →
      s.ksu.firstRelease = some r →
      ∃ carried : KeySet,
        (∀ j : Key, hasKey carried j = true ↔ hasKey s.ksu.carried j = true ∨
          (j ≠ k ∧ strokeKeyDown s.ksu j)) ∧
        let t := closed (s.withKsu (accepting s.ksu k)) c r true false
        exec (.debounceExpiry k) s = .next (t.withKsu { t.ksu with
          carried := carried
          assembly := .chord
          strokeSet := keyBit k
          chordStart := some s.ksu.clock
          firstRelease := none
          hold := s.ksu.hold.set k (some 0) })

/-- R2, R7, R9, R14, R16: an accepted release of an unmasked key only leaves the carried set where the
key is carried; of a stroke key it stops the hold timer, and the stroke goes on in RELEASE or closes;
of any other key it is ignored. A change of a key in a mask makes no event, and a stuck key that
becomes up leaves the stuck mask. That a carried key is no stroke key still down is read from R3
(notes/assumptions/8.md). -/
def Obligations.ReleaseIsTakenByStrokeAssembly : Prop :=
  ∀ (k : Key) (s : State), s.ksu.debounce[k].isSome = true →
    (isDown s.ksu k ↔ ¬isDown (accepting s.ksu k) k) →
    (isDown s.ksu k → hasKey s.ksu.hostMask k = false → hasKey s.ksu.stuckMask k = false →
      (hasKey s.ksu.carried k = true → exec (.debounceExpiry k) s = .next (s.withKsu
        { accepting s.ksu k with
          carried := dropKey s.ksu.carried k
          hold := s.ksu.hold.set k none })) ∧
      (hasKey s.ksu.carried k = false → hasKey s.ksu.strokeSet k = true →
        ∀ c, assembling s.ksu c → ∃ t, exec (.debounceExpiry k) s = .next t ∧
          strokeKeyUp (s.withKsu { accepting s.ksu k with hold := s.ksu.hold.set k none }) c false t) ∧
      (hasKey s.ksu.carried k = false → hasKey s.ksu.strokeSet k = false →
        exec (.debounceExpiry k) s = .next (s.withKsu (accepting s.ksu k)))) ∧
    (hasKey s.ksu.hostMask k = true → hasKey s.ksu.stuckMask k = false →
      exec (.debounceExpiry k) s = .next (s.withKsu (accepting s.ksu k))) ∧
    (hasKey s.ksu.stuckMask k = true → isDown s.ksu k →
      exec (.debounceExpiry k) s = .next (s.withKsu
        { accepting s.ksu k with stuckMask := dropKey s.ksu.stuckMask k }))

/-- R5, R7, R9, R10, R12, R16: a hold timer that reaches the stuck limit puts its key into the stuck mask,
sets KEY_STUCK and stops; a carried key leaves the carried set; a stroke key that is still down acts
as released, and the record of a stroke it closes is flagged STUCK_CUT; any other key is only put
into the mask. SET_KEY_TIMING sets the debounce time, the ghost minimum and the stuck limit, each
clamped into its range; a key that has been down for at least the new stuck limit is handled as if its
hold timer had expired, keys of one command in order of number (notes/assumptions/14.md), a stroke that
this closes being tested against the new ghost minimum, which is the model's choice
(notes/assumptions/20.md); running debounce timers are not disturbed. That a carried key is no stroke key still down is read from R3
(notes/assumptions/8.md). -/
def Obligations.HoldExpiryCutsTheKey : Prop :=
  (∀ (k : Key) (s : State), s.ksu.hold[k].isSome = true →
    let stuck := noticed (s.withKsu { s.ksu with
      stuckMask := addKey s.ksu.stuckMask k
      hold := s.ksu.hold.set k none }) 0x02
    (hasKey s.ksu.carried k = true → s.ksu.cutFlag = false →
      exec (.holdTimerExpiry k) s = .next
        (stuck.withKsu { stuck.ksu with carried := dropKey s.ksu.carried k })) ∧
    (hasKey s.ksu.carried k = false → strokeKeyDown s.ksu k →
      ∀ c, assembling s.ksu c → ∃ t, exec (.holdTimerExpiry k) s = .next t ∧
        strokeKeyUp stuck c true t) ∧
    (hasKey s.ksu.carried k = false → ¬strokeKeyDown s.ksu k → s.ksu.cutFlag = false →
      exec (.holdTimerExpiry k) s = .next stuck)) ∧
  (∀ (k : Key) (s : State), s.ksu.hold[k] = none → exec (.holdTimerExpiry k) s = .next s) ∧
  ∀ (s : State) (d g : Byte) (st : BitVec 16), Ready s →
    ∃ limit : Nat, limit = max 500 (min 10000 st.toNat) ∧
    ∀ caught : List Key,
      (caught = allKeys.filter fun k => (s.ksu.hold[k]).any fun run => decide (limit ≤ run)) →
      ∃ t, execAll (caught.map .holdTimerExpiry) (s.withKsu { s.ksu with
          debounceTime := max 2 (min 50 d.toNat)
          ghostMin := min 30 g.toNat
          stuckLimit := limit }) = .next t ∧
        t.ksu.debounce = s.ksu.debounce ∧
        exec (.setKeyTiming d g st) s = .next (answered t .done 0x10 [])

/-- R3, R4, R7, R9: SET_KEY_POLARITY and SET_KEY_MASK refuse a value above 8,388,607 with BAD_ARG.
Otherwise the polarity or the host mask is the key set given, and each key whose meaning or membership
changes is handled as its case says: a key that turns up or enters the mask while down is no longer
carried and its hold timer stops; one that turns down, or leaves the mask while down, is carried and
its hold timer starts; a host-masked key that turns down only becomes down. The stroke keys among
those that turn up or enter are released for stroke assembly together, at one time: the stroke goes
on in RELEASE, or closes with no flag. Nothing else of the state changes. That a carried key is
no stroke key still down, and that the keys that turn down or leave the mask come first, is read from
the guide (notes/assumptions/8.md). -/
def Obligations.PolarityAndMaskHandleEachKey : Prop :=
  (∀ (s : State) (v : Stroke), Ready s → 8388607 < v.toNat →
    exec (.setKeyPolarity v) s = .next (answered s .badArg 0x11 []) ∧
    exec (.setKeyMask v) s = .next (answered s .badArg 0x12 [])) ∧
  (∀ (s : State) (v : Stroke), Ready s → v.toNat ≤ 8388607 →
    ∃ (u : Ksu) (t : State), exec (.setKeyPolarity v) s = .next (answered t .done 0x11 []) ∧
      u = { s.ksu with
        polarity := u.polarity, carried := u.carried, hold := u.hold, stuckMask := u.stuckMask } ∧
      u.polarity.setWidth 24 = v ∧
      (∀ k : Key,
        (isDown s.ksu k → ¬isDown u k → hasKey u.carried k = false ∧ u.hold[k] = none ∧
          hasKey u.stuckMask k = false) ∧
        (¬isDown s.ksu k → isDown u k → hasKey s.ksu.hostMask k = false →
          hasKey u.carried k = true ∧ u.hold[k] = some 0 ∧
          hasKey u.stuckMask k = hasKey s.ksu.stuckMask k) ∧
        ((isDown s.ksu k ↔ isDown u k) ∨ (¬isDown s.ksu k ∧ hasKey s.ksu.hostMask k = true) →
          u.hold[k] = s.ksu.hold[k] ∧ hasKey u.carried k = hasKey s.ksu.carried k ∧
          hasKey u.stuckMask k = hasKey s.ksu.stuckMask k)) ∧
      releasedTogether s.ksu (fun k => ¬isDown u k) (s.withKsu u) t) ∧
  ∀ (s : State) (v : Stroke), Ready s → v.toNat ≤ 8388607 →
    ∃ (u : Ksu) (t : State), exec (.setKeyMask v) s = .next (answered t .done 0x12 []) ∧
      u = { s.ksu with hostMask := u.hostMask, carried := u.carried, hold := u.hold } ∧
      u.hostMask.setWidth 24 = v ∧
      (∀ k : Key,
        (isDown s.ksu k → hasKey s.ksu.stuckMask k = false → hasKey s.ksu.hostMask k = false →
          hasKey u.hostMask k = true → hasKey u.carried k = false ∧ u.hold[k] = none) ∧
        (isDown s.ksu k → hasKey s.ksu.stuckMask k = false → hasKey s.ksu.hostMask k = true →
          hasKey u.hostMask k = false →
          hasKey u.carried k = true ∧ u.hold[k] = some 0) ∧
        (¬isDown s.ksu k ∨ hasKey s.ksu.stuckMask k = true ∨
            hasKey u.hostMask k = hasKey s.ksu.hostMask k →
          hasKey u.carried k = hasKey s.ksu.carried k ∧ u.hold[k] = s.ksu.hold[k])) ∧
      releasedTogether s.ksu (fun k => hasKey u.hostMask k = true) (s.withKsu u) t

/-- R8, R17, R18, R185: SET_STACKING takes 0 or 1; INJECT_STROKE places a stroke at the tail of the
stroke queue, refuses a value that is no stroke with BAD_ARG, and a full queue with QUEUE_FULL;
KEY_INFO returns the KSU as it stands and, with CLEAR = 1, then clears both counts. That BAD_ARG comes
before QUEUE_FULL is the model's choice (notes/assumptions/18.md). -/
def Obligations.StackingInjectionAndKeyInfo : Prop :=
  (∀ (s : State) (v : Byte), Ready s → exec (.setStacking v) s = .next
    (if v = 0 then answered (s.withKsu { s.ksu with stacking := false }) .done 0x13 []
    else if v = 1 then answered (s.withKsu { s.ksu with stacking := true }) .done 0x13 []
    else answered s .badArg 0x13 [])) ∧
  (∀ (s : State) (v : Stroke), Ready s → exec (.injectStroke v) s = .next
    (if v.toNat = 0 ∨ 8388607 < v.toNat then answered s .badArg 0x14 []
    else if s.strokeQueue.length < 16 then
      answered (s.withStrokeQueue (s.strokeQueue ++ [⟨v, s.ksu.clock, .injected, false, false⟩]))
        .done 0x14 []
    else answered s .queueFull 0x14 [])) ∧
  ∀ (s : State) (v : Byte), Ready s → ∃ down : KeySet, (∀ k, hasKey down k = true ↔ isDown s.ksu k) ∧
    ∀ data : List Byte,
      data = ([down, s.ksu.carried, s.ksu.hostMask, s.ksu.stuckMask, s.ksu.strokeSet].flatMap
          fun keys => bytesOf24 (keys.setWidth 24)) ++
        ([match s.ksu.assembly with
          | .idle => 0
          | .chord => 1
          | .release => 2] : List Byte) ++
        bytesOf16 (BitVec.ofNat 16 s.ksu.ghostCount) ++ bytesOf16 (BitVec.ofNat 16 s.ksu.lostCount) ++
        [BitVec.ofNat 8 s.strokeQueue.length] →
      exec (.keyInfo v) s = .next
        (if v = 0 then answered s .done 0x16 data
        else if v = 1 then
          answered (s.withKsu { s.ksu with ghostCount := 0, lostCount := 0 }) .done 0x16 data
        else answered s .badArg 0x16 [])

end

/-! ### Words for chapters 2 to 4 -/

namespace Sys2Proof.Rules

open Sys2Proof Sys2Proof.Machine

/-- Two blocks of bytes, each a base and a length, share a byte (R23). -/
def shareByte (a m b k : Nat) : Prop := ∃ x, a ≤ x ∧ x < a + m ∧ b ≤ x ∧ x < b + k

/-- A slot as SET_WINDOW, an abandoned FORMAT and RELEASE_SLOT leave it, but for its lock and rank
(R23, R26, R27). -/
def laidBare (d : Slot) (state : SlotState) (base size : Nat) : Slot :=
  { d with
    state := state
    access := .shut
    base := base
    size := size
    buckets := 0
    entryCount := 0
    freeCount := 0
    freeHead := none }

/-- The gate of slot `n` has a holder or no claim waits there (R65). -/
def gateServed (s : State) (n : SlotNo) : Prop := (s.gate n).holder = none → (s.gate n).waiting = []

/-- An upkeep claim stands at the gate of its operation's slot alone (R65). -/
def claimsInPlace (s : State) : Prop :=
  ∀ n, (s.gate n).holder = some .upkeep ∨ .upkeep ∈ (s.gate n).waiting →
    ∃ op, s.mp.upkeep = some op ∧ op.slot = n

/-- The upkeep engine begins `op` in slot `n`: its claim is taken at once where the gate has no
holder, and waits at the tail where it has one (R65, R66). -/
def claimed (s : State) (n : SlotNo) (op : UpkeepOp) : State :=
  s.withMp { s.mp with
    upkeep := some op
    gates := s.mp.gates.set n
      (match (s.gate n).holder with
        | none => ⟨some .upkeep, []⟩
        | some h => ⟨some h, (s.gate n).waiting ++ [.upkeep]⟩) }

/-- The upkeep engine is rid of its operation (R62). -/
def upkeepOver (s : State) : State := s.withMp { s.mp with upkeep := none }

/-- The command in execution ends with a response (R166, R167). -/
def commandOver (s : State) (status : Status) (data : List Byte) : State :=
  s.withCp { s.cp with
    executing := none
    responses := s.cp.responses ++ [⟨status, s.cp.executing.getD 0, data⟩] }

/-- The gate of slot `n`, its holder gone, takes its oldest claim: a probe's walk begins; an upkeep
operation holds the gate; a RELEASE_SLOT, behind which nothing waits, makes the slot VACANT and
releases the gate as soon as it is taken, its DONE queued (R27, R64, R65, R66). -/
def released (s : State) (n : SlotNo) : State :=
  match (s.gate n).waiting with
  | [] => s.withGate n ⟨none, []⟩
  | .probe tag :: rest =>
      s.withMp { s.mp with
        gates := s.mp.gates.set n ⟨some (.probe tag), rest⟩
        probes := s.mp.probes.map fun p =>
          if p.tag = tag then { p with walk := some (Walk.start (s.slot n) p.outline true) } else p }
  | .upkeep :: rest =>
      match s.mp.upkeep with
      | some (.release _) =>
          commandOver (upkeepOver
            ((s.withSlot n (laidBare (s.slot n) .vacant 0 0)).withGate n ⟨none, []⟩)) .done []
      | _ => s.withGate n ⟨some .upkeep, rest⟩

/-- The command in execution ends without a response (R177). -/
def silenced (s : State) : State := s.withCp { s.cp with executing := none }

/-- The command in execution ends: with a response, or under a restart without one (R166, R177). -/
def commandEnds (s : State) (status : Status) (data : List Byte) : State :=
  if s.cp.restarts = 0 then commandOver s status data else silenced s

/-- Rescan-pending is set where the window is not empty, and a resolution in progress notes that the
lookup view has changed (R28, R31, R86, R124). -/
def viewSignalled (s : State) : State :=
  s.withTe { s.te with
    rescanPending := s.te.rescanPending || !s.te.window.isEmpty
    table := s.te.table.map fun t => { t with viewChanged := true } }

/-- Every WAITING probe into slot `n` is answered MISS: it leaves the gate, its tag is free, and the
pairs whose results were pending on it read MISS (R67). -/
def missAnswered (s : State) (n : SlotNo) : State :=
  let waits (p : Probe) : Bool := decide (p.slot = n) && p.walk.isNone
  (s.withMp { s.mp with
    probes := s.mp.probes.filter fun p => !waits p
    gates := s.mp.gates.set n { s.gate n with
      waiting := (s.gate n).waiting.filter fun c => decide (c = .upkeep) } }).withTe
    { s.te with table := s.te.table.map fun t => { t with pairs := t.pairs.map fun p =>
      match p.result with
      | .pending tag =>
          if s.mp.probes.any fun q => waits q && decide (q.tag = tag) then { p with result := .miss }
          else p
      | _ => p } }

/-- The outcome is not certain: behind pairs that all missed comes one whose result is not there
(R84). -/
def undecided (pairs : List Pair) : Prop :=
  ∃ before p after, pairs = before ++ p :: after ∧ (∀ q ∈ before, q.result = .miss) ∧
    (p.result = .unissued ∨ ∃ tag, p.result = .pending tag)

/-- Nothing is decided in the TE: it has no probe table, or the outcome of its table is not certain. -/
def quiet (s : State) : Prop := ∀ t, s.te.table = some t → undecided t.pairs

/-- The tags of the outstanding probes differ; a gate with no holder has no claim waiting; the holder
of a gate is its TAKEN probe or the upkeep operation in its slot, the claims waiting there are its
WAITING probes and that operation, each once (R63, R65). -/
structure gatesInOrder (s : State) : Prop where
  tags : (s.mp.probes.map (·.tag)).Nodup
  served : ∀ n, gateServed s n
  once : ∀ n, (s.gate n).waiting.Nodup
  taken : ∀ n tag, (s.gate n).holder = some (.probe tag) ↔
    ∃ p ∈ s.mp.probes, p.tag = tag ∧ p.slot = n ∧ p.walk.isSome = true
  waiting : ∀ n tag, .probe tag ∈ (s.gate n).waiting ↔
    ∃ p ∈ s.mp.probes, p.tag = tag ∧ p.slot = n ∧ p.walk = none
  upkeep : ∀ n, ((s.gate n).holder = some .upkeep ∨ .upkeep ∈ (s.gate n).waiting) ↔
    ∃ op, s.mp.upkeep = some op ∧ op.slot = n
  notBoth : ∀ n, (s.gate n).holder = some .upkeep → .upkeep ∉ (s.gate n).waiting

/-- SET_ACCESS `v code` executes and stops slot `n` being consulted; `u` is the state with the access
given, the TE signalled and the waiting probes answered (R22, R28, R67, R86). -/
structure stopsConsulting (s : State) (v code : Byte) (n : SlotNo) (u : State) : Prop where
  ready : Ready s
  gates : gatesInOrder s
  slot : v.toNat = n.val
  access : code.toNat = 0 ∨ code.toNat = 2
  unlocked : (s.slot n).lock = false
  state : (s.slot n).state = .ready
  consulted : (s.slot n).access = .lookup ∨ (s.slot n).access = .full
  answers : u = missAnswered (viewSignalled (s.withSlot n { s.slot n with
    access := if code.toNat = 0 then .shut else .maintain })) n

/-- The blocks that a decision of the TE never touches are as they were. -/
def outsideTranslation (s t : State) : Prop :=
  t.ksu = s.ksu ∧ t.strokeQueue = s.strokeQueue ∧ t.sdram = s.sdram ∧ t.speakers = s.speakers ∧
    t.spi = s.spi ∧ t.spdo = s.spdo ∧ t.pending = s.pending ∧ t.dict.memMiB = s.dict.memMiB ∧
    t.cp.queue = s.cp.queue ∧ t.cp.restarts = s.cp.restarts ∧ t.cp.respEnable = s.cp.respEnable ∧
    t.cp.reportEnable = s.cp.reportEnable ∧ t.cp.noticeEnable = s.cp.noticeEnable ∧
    t.cp.trigger = s.cp.trigger

end Sys2Proof.Rules

section

open Sys2Proof Sys2Proof.Machine Sys2Proof.Rules

/-! ### Dictionary slots (chapter 2) -/

open Classical in
/-- R21, R22, R23: SET_MEMORY takes 8, 16, 32 or 64 MiB, and only while every slot is VACANT;
SET_WINDOW makes its checks in the order of R22 and leaves the slot UNFORMATTED with its new window.
The slots that are not VACANT are taken to have windows of at least one byte, as R23 leaves them. That
SET_MEMORY refuses a bad size with BAD_ARG whatever the slots' states is the model's choice
(notes/assumptions/18.md). -/
def Obligations.MemorySizeAndWindowsAreChecked : Prop :=
  (∀ (s : State) (v : Byte), Ready s → exec (.setMemory v) s = .next
    (if v.toNat ∉ [8, 16, 32, 64] then answered s .badArg 0x17 []
    else if ∃ n, (s.slot n).state ≠ .vacant then answered s .badState 0x17 []
    else answered (s.withDict { s.dict with memMiB := v.toNat }) .done 0x17 [])) ∧
  (∀ (s : State) (v : Byte) (base size : BitVec 32), Ready s → 3 < v.toNat →
    exec (.setWindow v base size) s = .next (answered s .badArg 0x18 [])) ∧
  ∀ (s : State) (v : Byte) (n : SlotNo) (base size : BitVec 32), Ready s → v.toNat = n.val →
    (∀ m, (s.slot m).state ≠ .vacant → 0 < (s.slot m).size) →
    exec (.setWindow v base size) s = .next
      (if (s.slot n).lock then answered s .locked 0x18 []
      else if s.dict.memMiB = 0 ∨ (s.slot n).state = .formatting ∨ (s.slot n).state = .ready then
        answered s .badState 0x18 []
      else if ¬∃ e, 16 ≤ e ∧ e ≤ 24 ∧ size.toNat = 2 ^ e then answered s .badArg 0x18 []
      else if ¬size.toNat ∣ base.toNat then answered s .badArg 0x18 []
      else if s.dict.memMiB * 2 ^ 20 < base.toNat + size.toNat then answered s .badArg 0x18 []
      else if ∃ m, m ≠ n ∧ (s.slot m).state ≠ .vacant ∧
          shareByte base.toNat size.toNat (s.slot m).base (s.slot m).size then
        answered s .overlap 0x18 []
      else answered (s.withSlot n (laidBare (s.slot n) .unformatted base.toNat size.toNat))
        .done 0x18 [])

open Classical in
/-- R22, R27, R31, R32, R34, R66, R86: RELEASE_SLOT makes its checks in order and, with the gate
free, leaves the slot VACANT with DONE queued at once; with the gate held its claim waits. SET_RANKS
takes a permutation of the slots, rank 0 first, and signals the TE. LOCK_SLOT locks a READY slot, and
SLOT_INFO returns the descriptor; neither changes anything else. That bit 7 of SLOT_INFO's summary
byte, which R185 does not give, is 0 is the model's choice (notes/assumptions/17.md). -/
def Obligations.SlotIsReleasedRankedLockedAndRead : Prop :=
  ((∀ (s : State) (v : Byte), Ready s → 3 < v.toNat →
     exec (.releaseSlot v) s = .next (answered s .badArg 0x1A [])) ∧
   ∀ (s : State) (v : Byte) (n : SlotNo), Ready s → v.toNat = n.val → gateServed s n →
     exec (.releaseSlot v) s = .next
       (if (s.slot n).lock then answered s .locked 0x1A []
       else if (s.slot n).state = .formatting ∨ (s.slot n).access ≠ .shut then
         answered s .badState 0x1A []
       else if (s.gate n).holder = none then
         answered (upkeepOver (s.withSlot n (laidBare (s.slot n) .vacant 0 0))) .done 0x1A []
       else executing (claimed s n (.release n)) 0x1A)) ∧
  ((∀ (s : State) (r : Fin 4 → Byte), Ready s →
     ¬(∀ i, (r i).toNat ≤ 3) ∨ ¬(∀ i j, (r i).toNat = (r j).toNat → i = j) →
     exec (.setRanks (r 0) (r 1) (r 2) (r 3)) s = .next (answered s .badArg 0x1C [])) ∧
   ∀ (s : State) (r : Fin 4 → Byte) (order : Fin 4 → SlotNo), Ready s →
     (∀ i, (r i).toNat = (order i).val) → (∀ i j, order i = order j → i = j) →
     ∃ slots : Vector Slot 4, (∀ i, slots[order i] = { s.slot (order i) with rank := i }) ∧
       exec (.setRanks (r 0) (r 1) (r 2) (r 3)) s =
         .next (answered (viewSignalled (s.withDict { s.dict with slots := slots })) .done 0x1C [])) ∧
  (∀ (s : State) (v : Byte), Ready s →
     (3 < v.toNat → exec (.lockSlot v) s = .next (answered s .badArg 0x1D []) ∧
       exec (.slotInfo v) s = .next (answered s .badArg 0x1E [])) ∧
     ∀ n : SlotNo, v.toNat = n.val →
       exec (.lockSlot v) s = .next
         (if (s.slot n).state ≠ .ready then answered s .badState 0x1D []
         else answered (s.withSlot n { s.slot n with lock := true }) .done 0x1D []) ∧
       ∀ data : List Byte,
         data = ([BitVec.ofNat 8
           ((match (s.slot n).state with
             | .vacant => 0
             | .unformatted => 1
             | .formatting => 2
             | .ready => 3) +
           (match (s.slot n).access with
             | .shut => 0
             | .lookup => 4
             | .maintain => 8
             | .full => 12) +
           (if (s.slot n).lock then 16 else 0) + 32 * (s.slot n).rank.val)] : List Byte) ++
           bytesOf32 (BitVec.ofNat 32 (s.slot n).base) ++
           [BitVec.ofNat 8 (if (s.slot n).size = 0 then 0 else Nat.log2 (s.slot n).size)] ++
           ([(s.slot n).buckets, (s.slot n).entryCount, (s.slot n).freeCount,
             (s.slot n).freeHead.getD 0xFFFFFF].flatMap fun v => bytesOf24 (BitVec.ofNat 24 v)) →
         exec (.slotInfo v) s = .next (answered s .done 0x1E data))

/-- R22, R28, R67, R86: SET_ACCESS makes its checks in order, and then completes. A change that leaves
alone whether the slot is consulted changes the access and no more; a change that makes the slot
consulted also signals the TE; a change that stops it signals the TE and answers every probe waiting
into the slot MISS: the probe leaves the gate, its tag is free, the pairs pending on it read MISS, and
rescan-pending is set where the window holds a record. The first clause on such a change is about
answers that leave the decision open; ResolutionEndsAtItsDecision and RescanReplaysTheWindow say what
follows where they decide it. -/
def Obligations.AccessChangesAndAnswersWaitingProbes : Prop :=
  (∀ (s : State) (v code : Byte), Ready s → (3 < v.toNat ∨ 3 < code.toNat) →
    exec (.setAccess v code) s = .next (answered s .badArg 0x1B [])) ∧
  (∀ (s : State) (v code : Byte) (n : SlotNo) (a : Access), Ready s → v.toNat = n.val →
    [(0, Access.shut), (1, .lookup), (2, .maintain), (3, .full)].lookup code.toNat = some a →
    ((s.slot n).lock = true → exec (.setAccess v code) s = .next (answered s .locked 0x1B [])) ∧
    ((s.slot n).lock = false → (s.slot n).state ≠ .ready →
      exec (.setAccess v code) s = .next (answered s .badState 0x1B [])) ∧
    ((s.slot n).lock = false → (s.slot n).state = .ready →
      let before := (s.slot n).access = .lookup ∨ (s.slot n).access = .full
      let after := a = .lookup ∨ a = .full
      let given := s.withSlot n { s.slot n with access := a }
      ((before ↔ after) → exec (.setAccess v code) s = .next (answered given .done 0x1B [])) ∧
      (¬before → after →
        exec (.setAccess v code) s = .next (answered (viewSignalled given) .done 0x1B [])))) ∧
  ∀ (s : State) (v code : Byte) (n : SlotNo) (u : State), stopsConsulting s v code n u →
    (quiet u → exec (.setAccess v code) s = .next (answered u .done 0x1B [])) ∧
    ∃ t, exec (.setAccess v code) s = .next t ∧
      outsideTranslation s t ∧ t.dict = u.dict ∧ t.mp.upkeep = s.mp.upkeep ∧
      t.cp.responses = s.cp.responses ++ [⟨.done, 0x1B, []⟩] ∧ t.cp.executing = none ∧
      (s.te.window ≠ [] → t.te.rescanPending = true) ∧
      (∀ p ∈ t.mp.probes, p.slot = n → p.walk.isSome = true) ∧
      ∀ p ∈ s.mp.probes, p.slot = n → p.walk = none →
        (∀ q ∈ t.mp.probes, q.tag ≠ p.tag) ∧ (∀ m, .probe p.tag ∉ (t.gate m).waiting) ∧
        ∀ table, t.te.table = some table → ∀ pair ∈ table.pairs, pair.result ≠ .pending p.tag

/-- R32, R33: while a slot is locked, and no upkeep operation but a FETCH_ENTRY is under way in it, no
step but a hard reset changes its descriptor's state, access, lock, window, buckets, counts or free
list; SET_RANKS may change its rank. -/
def Obligations.LockedSlotStaysAsItIs : Prop :=
  ∀ (s t : State) (n : SlotNo), (s.slot n).lock = true → (s.slot n).state = .ready →
    (∀ op, s.mp.upkeep = some op → op.slot = n →
      ∃ e, op = .entry e ∧ e.kind = .fetch) → claimsInPlace s →
    step s = .next t → (∀ rest, s.pending ≠ .hardReset :: rest) →
    t.slot n = { s.slot n with rank := (t.slot n).rank } ∧ (t.slot n).lock = true ∧
      ∀ op, t.mp.upkeep = some op → op.slot = n → ∃ e, op = .entry e ∧ e.kind = .fetch

end

/-! ### Words for chapters 3 and 4 -/

namespace Sys2Proof.Rules

open Sys2Proof Sys2Proof.Machine

/-- A byte that is a text item (R38, R182). -/
def textItem (b : Byte) : Prop :=
  (0x20 ≤ b.toNat ∧ b.toNat ≤ 0x7E) ∨ b.toNat = 1 ∨ b.toNat = 2 ∨ b.toNat = 3 ∨
    (0x80 ≤ b.toNat ∧ b.toNat ≤ 0x8F)

/-- An outline of 1 to 8 strokes (R37, R50). -/
def legalOutline (outline : List Stroke) : Prop :=
  1 ≤ outline.length ∧ outline.length ≤ 8 ∧
    ∀ v ∈ outline, 1 ≤ v.toNat ∧ v.toNat ≤ 8388607

/-- The arguments that check 3 of R49 passes (R50). -/
def legalWrite (outline : List Stroke) (flags : Byte) (text : List Byte) : Prop :=
  legalOutline outline ∧ text.length ≤ 160 ∧ flags.toNat < 16

/-- `order` is the consulted slots, from the highest rank (2.7, 2.8). -/
def consultedInRankOrder (s : State) (order : List SlotNo) : Prop :=
  (∀ n, n ∈ order ↔ (s.slot n).access = .lookup ∨ (s.slot n).access = .full) ∧
    order.Pairwise fun a b => (s.slot a).rank.val < (s.slot b).rank.val

/-- No two slots have one rank (2.8). -/
def ranksDiffer (s : State) : Prop := ∀ a b, (s.slot a).rank = (s.slot b).rank → a = b

/-- The outline is a contiguous run of the stroke sequence (R123). -/
def isRun (outline sequence : List Stroke) : Prop :=
  outline ≠ [] ∧ ∃ before after, sequence = before ++ outline ++ after

open Classical in
/-- A change notice reaches the TE (R122, R123). -/
noncomputable def noticeTaken (s : State) (outline : List Stroke) : State :=
  if (s.te.state = .resolving ∨ s.te.state = .rescanning) ∨ isRun outline (strokesOf s.te.window) then
    s.withTe { s.te with rescanPending := true }
  else s

/-- Cell `c` lies in the window of `size` bytes at `base` and in the declared memory (R61). -/
def cellExists (s : State) (base size c : Nat) : Prop :=
  c < size / 32 ∧ base + 32 * c + 32 ≤ s.dict.memMiB * 2 ^ 20

/-- The lookup walker has an access of cell `c` ready in slot `m` (R61, R62): the next one of the probe
that holds the gate, ready at once (notes/assumptions/19.md). -/
def lookupWaits (s : State) (m : SlotNo) (c : Nat) : Prop :=
  ∃ tag p w, (s.gate m).holder = some (.probe tag) ∧
    (s.mp.probes.find? fun q => q.tag == tag) = some p ∧ p.walk = some w ∧ w.access = some c ∧
    cellExists s w.base w.size c

/-- The upkeep engine has an access of cell `c` ready (R61, R62): the next one of its operation, where that
holds the gate, ready at once (notes/assumptions/19.md). -/
def upkeepWaits (s : State) (op : UpkeepOp) (c : Nat) : Prop :=
  s.mp.upkeep = some op ∧ (s.gate op.slot).holder = some .upkeep ∧
    op.access (s.slot op.slot) = some c ∧
    cellExists s (s.slot op.slot).base (s.slot op.slot).size c

/-- The arbiter's grant is the upkeep engine's, at cell `c` (R69). -/
def upkeepGranted (s : State) (op : UpkeepOp) (c : Nat) : Prop :=
  upkeepWaits s op c ∧ ((∀ m d, ¬lookupWaits s m d) ∨ s.mp.share ≤ s.mp.lookupRun)

/-- The 32 bytes of cell `c` of the window at `base`. -/
def cellBytesOf (m : List Host.Cell) (base c : Nat) : List Byte :=
  (List.range 32).map fun i => readByte m (base + 32 * c + i)

/-- A link as three bytes, NONE as 0xFFFFFF (R41, R183). -/
def linkAsBytes (l : Link) : List Byte := bytesOf24 (BitVec.ofNat 24 (l.getD 0xFFFFFF))

/-- The `i`-th cell of an entry: its bytes from the first on (R42, R53, R183). -/
def entryCell (next : Link) (cells : List Nat) (outline : List Stroke) (flags : Byte)
    (text : List Byte) (i : Nat) : List Byte :=
  if i = 0 then
    linkAsBytes next ++ linkAsBytes cells[1]? ++
      [BitVec.ofNat 8 outline.length, BitVec.ofNat 8 text.length, flags] ++
      (strokeBytes outline ++ text).take 23
  else linkAsBytes cells[i + 1]? ++ ((strokeBytes outline ++ text).drop (29 * i - 6)).take 29

/-- The first address and the bytes that the next access of an entry operation stores, none where it
reads (R45, R53, R55, R183). -/
def stored (d : Slot) (op : EntryOp) : Option (Nat × List Byte) :=
  match op.stage with
  | .unlink =>
      match op.walk.prev with
      | some p => some (d.base + 32 * p, linkAsBytes op.walk.entry.next)
      | none => some (d.base + 4 * op.walk.bucket, 0x00 :: linkAsBytes op.walk.entry.next)
  | .returnWrite cell _ => some (d.base + 32 * cell + 3, linkAsBytes op.freeHead)
  | .writeHead =>
      some (d.base + 32 * (op.taken[0]?).getD 0,
        entryCell op.bucketLink op.taken op.outline op.flags op.text 0)
  | .writeCont i =>
      some (d.base + 32 * (op.taken[i]?).getD 0,
        entryCell op.bucketLink op.taken op.outline op.flags op.text i)
  | .writeBucket => some (d.base + 4 * op.walk.bucket, 0x00 :: linkAsBytes op.taken[0]?)
  | _ => none

/-- Memory `m'` is `m` with bytes stored from an address on, and no other byte changed. -/
def storedIn (m m' : List Host.Cell) (at_ : Nat) (bytes : List Byte) : Prop :=
  (∀ i (h : i < bytes.length), readByte m' (at_ + i) = bytes[i]) ∧
    ∀ a, a < at_ ∨ at_ + bytes.length ≤ a → readByte m' a = readByte m a

/-- An entry of a chain: its cells, head cell first, and its contents (R42). -/
structure Held where
  cells : List Nat
  outline : List Stroke
  flags : Byte
  text : List Byte

/-- The cells of an entry, of its slot's window, hold it, its bucket-next link being `next` (R42, R43,
R61). -/
def holdsEntry (m : List Host.Cell) (d : Slot) (e : Held) (next : Link) : Prop :=
  legalOutline e.outline ∧ e.text.length ≤ 160 ∧
    e.cells.length = cellsFor (3 * e.outline.length + e.text.length) ∧
    (∀ c ∈ e.cells, c < d.size / 32) ∧ (∀ c, next = some c → c < d.size / 32) ∧
    ∀ i (h : i < e.cells.length),
      (entryCell next e.cells e.outline e.flags e.text i).isPrefixOf
        (cellBytesOf m d.base e.cells[i]) = true

/-- From a link on, a chain of entries, newest first (R44). -/
def holdsChain (m : List Host.Cell) (d : Slot) : Link → List Held → Prop
  | l, [] => l = none
  | l, e :: rest => l = e.cells[0]? ∧ ∃ next, holdsEntry m d e next ∧ holdsChain m d next rest

/-- A walk after at most `k` accesses, each of the cell it asks for (R47, R48). -/
def walkOn (m : List Host.Cell) : Nat → Walk → Walk
  | 0, w => w
  | k + 1, w =>
      match w.access with
      | some c => walkOn m k (w.advance (cellBytesOf m w.base c))
      | none => w

/-- Result `r` comes in for the pairs whose results are pending on `tag` (R86). -/
def resultIn (s : State) (tag : Fin 32) (r : PairResult) : State :=
  s.withTe { s.te with table := s.te.table.map fun t => { t with
    pairs := t.pairs.map fun p => if p.result = .pending tag then { p with result := r } else p } }

/-- Probe `p` holds the gate of slot `n` with walk `w`; where a RELEASE_SLOT waits next there, nothing
waits behind it and no restart is in progress (R64, R65, R66). -/
structure probeHolds (s : State) (n : SlotNo) (p : Probe) (w : Walk) : Prop where
  outstanding : p ∈ s.mp.probes
  alone : ∀ q ∈ s.mp.probes, q.tag = p.tag → q = p
  holds : (s.gate n).holder = some (.probe p.tag)
  walks : p.walk = some w
  release : ∀ m rest, s.mp.upkeep = some (.release m) → (s.gate n).waiting = .upkeep :: rest →
    rest = [] ∧ s.cp.restarts = 0

/-- The result of a walk that has ended (R64). -/
def walkResult (w : Walk) (r : PairResult) : Prop :=
  (w.phase = .absent ∧ r = .miss) ∨ (w.phase = .found ∧ r = .hit w.entry.flags w.entry.text)

/-- Probe `p` has ended: its tag is free and the gate of slot `n` is given up (R63, R64, R65). -/
def probeGone (s : State) (n : SlotNo) (p : Probe) : State :=
  released (s.withMp { s.mp with probes := s.mp.probes.filter (·.tag != p.tag) }) n

end Sys2Proof.Rules

section

open Sys2Proof Sys2Proof.Machine Sys2Proof.Rules

/-! ### Entries, buckets and cells (chapter 3) -/

/-- R39, R40, R42, R43, R44, R47, R48, R64: the hash starts at 7 and takes each stroke; the bucket adds
its high part to its low part; an entry takes the fewest cells that hold its payload. A walk of a
bucket chain of at most 32 entries ends within 70 accesses: at the first entry with the outline, its
place counted and its flags and whole text read, or absent, with the chain's length counted. -/
def Obligations.WalkFindsTheOutlineInItsChain : Prop :=
  (outlineHash [] = 7 ∧
   (∀ (outline : List Stroke) (v : Stroke),
     outlineHash (outline ++ [v]) = (outlineHash outline * 131 + v.toNat) % 16777216) ∧
   (∀ (v : Stroke), v.toNat ≤ 8388607 → outlineHash [v] = 917 + v.toNat) ∧
   (∀ (b : Nat) (outline : List Stroke), 0 < b → bucketOf b outline < b ∧
     bucketOf b outline = (outlineHash outline % b + outlineHash outline / b) % b) ∧
   ∀ size : Nat, 1 ≤ cellsFor size ∧ size ≤ 23 + 29 * (cellsFor size - 1) ∧
     (∀ c, 1 ≤ c → size ≤ 23 + 29 * (c - 1) → cellsFor size ≤ c) ∧ (size ≤ 184 → cellsFor size ≤ 7)) ∧
  (∀ (m : List Host.Cell) (d : Slot) (outline : List Stroke) (chain : List Held) (head : Link),
     legalOutline outline → chain.length ≤ 32 → d.size ≤ 2 ^ 24 →
     (∀ c, head = some c → c < d.size / 32) →
     (∀ i (h : i < 3), readByte m (d.base + 4 * bucketOf d.buckets outline + 1 + i) =
       (linkAsBytes head)[i]'(by simpa [linkAsBytes, bytesOf24] using h)) →
     holdsChain m d head chain →
     let w := walkOn m 70 (Walk.start d outline true)
     ((∀ e ∈ chain, e.outline ≠ outline) → w.phase = .absent ∧ w.seen = chain.length) ∧
     ∀ before e after, chain = before ++ e :: after → (∀ x ∈ before, x.outline ≠ outline) →
       e.outline = outline → w.phase = .found ∧ w.seen = before.length + 1 ∧
         w.entry.flags = e.flags ∧ w.entry.text = e.text ∧ some w.entry.cell = e.cells[0]? ∧
         w.prev = before.getLast?.bind fun x => x.cells[0]?)

open Classical in
/-- R29, R30, R49, R50, R51, R66: ADD_ENTRY, REPLACE_ENTRY and RETIRE_ENTRY make checks 1 to 4 of R49
in order, the protection verdict's refusals setting PROTECT; past them the operation claims the
slot's gate, its walk to begin, and the command stays in execution. -/
def Obligations.EntryWritesAreCheckedThenClaimTheGate : Prop :=
  ∀ (s : State) (v flags : Byte) (outline : List Stroke) (text : List Byte) (row : Instr)
    (kind : EntryKind) (code fl : Byte) (tx : List Byte), Ready s →
    (row, kind, code, fl, tx) ∈ [(Instr.addEntry v outline flags text, EntryKind.add, 0x1F, flags, text),
      (.replaceEntry v outline flags text, .replace, 0x20, flags, text),
      (.retireEntry v outline, .retire, 0x21, 0, [])] →
    (3 < v.toNat → exec row s = .next (answered s .badArg code [])) ∧
    ∀ n : SlotNo, v.toNat = n.val → gateServed s n → exec row s = .next
      (if (s.slot n).lock then answered (noticed s 0x04) .locked code []
      else if (s.slot n).access = .shut ∨ (s.slot n).access = .lookup then
        answered (noticed s 0x04) .protectedSlot code []
      else if ¬legalWrite outline fl tx then answered s .badArg code []
      else if ¬∀ b ∈ tx, textItem b then answered s .badText code []
      else executing
        (claimed s n (.entry (EntryOp.start kind n (s.slot n) outline fl tx false []))) code)

open Classical in
/-- R29, R49, R50, R57, R58: FETCH_ENTRY naming a slot is refused BAD_ARG, PROTECTED or BAD_ARG in
order, or claims the slot's gate; with ANY it claims the gate of the consulted slot of highest rank,
the others to be searched after it, or answers NOT_FOUND where no slot is consulted. -/
def Obligations.FetchIsCheckedThenClaimsTheGate : Prop :=
  (∀ (s : State) (v : Byte) (outline : List Stroke), Ready s → v ≠ 0xFF →
    (3 < v.toNat → exec (.fetchEntry v outline) s = .next (answered s .badArg 0x22 [])) ∧
    ∀ n : SlotNo, v.toNat = n.val → gateServed s n → exec (.fetchEntry v outline) s = .next
      (if (s.slot n).access = .shut then answered s .protectedSlot 0x22 []
      else if ¬legalOutline outline then answered s .badArg 0x22 []
      else executing
        (claimed s n (.entry (EntryOp.start .fetch n (s.slot n) outline 0 [] false []))) 0x22)) ∧
  ∀ (s : State) (outline : List Stroke) (order : List SlotNo), Ready s → ranksDiffer s →
    consultedInRankOrder s order → (∀ n, gateServed s n) → exec (.fetchEntryAny outline) s = .next
      (if ¬legalOutline outline then answered s .badArg 0x22 []
      else
        match order with
        | [] => answered s .notFound 0x22 []
        | n :: rest => executing
            (claimed s n (.entry (EntryOp.start .fetch n (s.slot n) outline 0 [] true rest))) 0x22)

/-- R43, R47, R48, R49, R52, R54, R56, R57: each access of an entry operation's walk reads one cell and
changes no memory: it advances the walk, and the access that ends the walk decides the operation:
DUPLICATE before BUCKET_FULL before NO_SPACE for ADD_ENTRY and for REPLACE_ENTRY when absent; NO_SPACE
against the free cells and the old entry's for REPLACE_ENTRY when found; NOT_FOUND for RETIRE_ENTRY and
FETCH_ENTRY when absent. An operation refused makes no further access. That a replacement which needs
exactly the free cells and the old entry's is performed, as R54 has it and the third row of "Check
order at a crowded bucket" in 3.12 has not, is the model's reading (notes/assumptions/15.md); that the
walk's next access is ready at once is its choice (notes/assumptions/19.md). -/
def Obligations.WalkDecidesTheEntryOperation : Prop :=
  ∀ (s : State) (n : SlotNo) (op : EntryOp) (c : Nat) (w : Walk), op.stage = .walking →
    upkeepGranted s (.entry op) c →
    op.walk.advance (cellBytesOf s.sdram (s.slot op.slot).base c) = w →
    let granted (op' : EntryOp) := s.withMp
      { s.mp with lookupRun := 0, upkeep := some (.entry op') }
    (w.phase ≠ .found → w.phase ≠ .absent → exec (.arbiterGrant n) s =
      .next (granted { op with walk := w, bucketLink := w.bucketLink })) ∧
    ((w.phase = .found ∨ w.phase = .absent) →
    ∃ op' : EntryOp,
      exec (.arbiterGrant n) s = .next (granted op') ∧
      op' = { op with walk := w, bucketLink := w.bucketLink, stage := op'.stage, status := op'.status } ∧
      let need := cellsFor (3 * op.outline.length + op.text.length)
      let old := cellsFor (3 * w.entry.strokes + w.entry.textLen)
      let ends (st : Status) := op'.stage = .ended ∧ op'.status = st
      let goesOn (stage : EntryStage) := op'.stage = stage ∧ op'.status = .done
      let adds := (32 ≤ w.seen → ends .bucketFull) ∧
        (w.seen < 32 → op.freeCount < need → ends .noSpace) ∧
        (w.seen < 32 → need ≤ op.freeCount → goesOn .take)
      match op.kind with
      | .add => (w.phase = .found → ends .duplicate) ∧ (w.phase = .absent → adds)
      | .replace =>
          (w.phase = .found → op.freeCount + old < need → ends .noSpace) ∧
          (w.phase = .found → need ≤ op.freeCount + old → goesOn .unlink) ∧
          (w.phase = .absent → adds)
      | .retire => (w.phase = .found → goesOn .unlink) ∧ (w.phase = .absent → ends .notFound)
      | .fetch => (w.phase = .found → ends .done) ∧ (w.phase = .absent → ends .notFound))

/-- R45, R53, R55, R56, R61, R183: an access of an entry operation past its walk stores exactly the
bytes its stage gives, or stores nothing; the free list gains the cell returned or loses the cell
taken; the old entry's cells are returned before the new entry's are taken, and the bucket head is
written last. That there is one access for each cell, in this order, is read from R53 and R55
(notes/assumptions/12.md); that the next one is ready at once is the model's choice
(notes/assumptions/19.md). -/
def Obligations.EntryOperationStoresOnlyItsBytes : Prop :=
  ∀ (s : State) (n : SlotNo) (op : EntryOp) (c : Nat), Memory.wf s.sdram = true → op.stage ≠ .walking →
    op.stage ≠ .writeCont 0 → upkeepGranted s (.entry op) c →
    ∃ (op' : EntryOp) (m : List Host.Cell),
      exec (.arbiterGrant n) s = .next ((s.withMp
        { s.mp with lookupRun := 0, upkeep := some (.entry op') }).withSdram m) ∧
      (∀ a bytes, stored (s.slot op.slot) op = some (a, bytes) → storedIn s.sdram m a bytes) ∧
      (stored (s.slot op.slot) op = none → m = s.sdram) ∧
      let cell := cellBytesOf s.sdram (s.slot op.slot).base c
      let need := cellsFor (3 * op.outline.length + op.text.length)
      match op.stage with
      | .unlink => op' = { op with
          bucketLink := if op.walk.prev = none then op.walk.entry.next else op.bucketLink
          stage := .returnWrite op.walk.entry.cell op.walk.entry.cont }
      | .returnRead k => op' = { op with stage := .returnWrite k (linkOf (cell.take 3)) }
      | .returnWrite k next => op' = { op with
          freeHead := some k
          freeCount := op.freeCount + 1
          stage := match next with
            | some k' => .returnRead k'
            | none => if op.kind = .retire then .ended else .take }
      | .take => op' = { op with
          freeHead := linkOf ((cell.drop 3).take 3)
          freeCount := op.freeCount - 1
          taken := op.taken ++ [c]
          stage := if op.taken.length + 1 < need then .take else .writeHead }
      | .writeHead => op' = { op with
          stage := if 1 < op.taken.length then .writeCont 1 else .writeBucket }
      | .writeCont i => op' = { op with
          stage := if i + 1 < op.taken.length then .writeCont (i + 1) else .writeBucket }
      | .writeBucket => op' = { op with stage := .ended, status := .done }
      | .walking => True
      | .ended => True

open Classical in
/-- R53, R55, R56, R57, R58, R59, R60, R65, R166, R177: an entry operation at its end gives the descriptor
its final values, answers with the values its rule names or with its refusal alone, sends a change
notice where it wrote a FULL slot, and gives up the gate. A FETCH_ENTRY with ANY that found nothing
claims the gate of the next consulted slot instead. While a restart is in progress all of that happens
but the response, which is discarded, and the search of further slots: the command ends. -/
def Obligations.EntryOperationEndsWithItsResponse : Prop :=
  (∀ (s : State) (op : EntryOp), s.mp.upkeep = some (.entry op) → op.stage = .ended →
     (s.gate op.slot).holder = some .upkeep → .upkeep ∉ (s.gate op.slot).waiting →
     op.outline ≠ [] →
     (op.any = false ∨ op.status ≠ .notFound ∨ op.laterSlots = [] ∨ s.cp.restarts ≠ 0) →
     let d := s.slot op.slot
     let found := op.walk.phase = .found
     let old := if found then cellsFor (3 * op.walk.entry.strokes + op.walk.entry.textLen) else 0
     let head := bytesOf24 (BitVec.ofNat 24 op.walk.bucket) ++
       bytesOf24 (BitVec.ofNat 24 ((op.taken[0]?).getD 0xFFFFFF)) ++ [BitVec.ofNat 8 op.taken.length]
     let data : List Byte := match op.kind with
       | .add => head
       | .replace => head ++ [BitVec.ofNat 8 old]
       | .retire => [BitVec.ofNat 8 old]
       | .fetch => [BitVec.ofNat 8 op.slot.val, op.walk.entry.flags,
           BitVec.ofNat 8 op.walk.entry.textLen] ++ op.walk.entry.text
     let count := match op.kind with
       | .add => d.entryCount + 1
       | .replace => if found then d.entryCount else d.entryCount + 1
       | .retire => d.entryCount - 1
       | .fetch => d.entryCount
     let written := commandEnds (s.withSlot op.slot { d with
       entryCount := count, freeHead := op.freeHead, freeCount := op.freeCount }) .done data
     exec .upkeepOperationEnd s = .next (released (upkeepOver
       (if op.status ≠ .done then commandEnds s op.status []
       else if op.kind = .fetch then commandEnds s .done data
       else if d.access = .full then noticeTaken written op.outline
       else written)) op.slot)) ∧
  ∀ (s : State) (op : EntryOp) (n : SlotNo) (rest : List SlotNo), s.mp.upkeep = some (.entry op) →
     op.stage = .ended → (s.gate op.slot).holder = some .upkeep → .upkeep ∉ (s.gate op.slot).waiting →
     op.any = true → op.status = .notFound → op.laterSlots = n :: rest → s.cp.restarts = 0 →
     gateServed s n → exec .upkeepOperationEnd s = .next
       (claimed (released (upkeepOver s) op.slot) n
         (.entry (EntryOp.start .fetch n (s.slot n) op.outline 0 [] true rest)))

/-! ### Memory port and slot gate (chapter 4) -/

/-- R61, R62, R69, R70: the arbiter's table, with L up to N. Every access granted is of a cell of its
window, within the declared memory. A lookup grant reads one cell for the probe that holds the slot's
gate and changes no memory; with nothing ready nothing is granted; SET_MAINT_SHARE takes 1, 3, 7
or 15. That a probe's window is the one it was taken with (notes/assumptions/16.md), and that the next
access of a probe or an operation is ready at once (notes/assumptions/19.md), is the model's choice. -/
def Obligations.ArbiterGrantsByItsTable : Prop :=
  (∀ (s : State) (n : SlotNo), (∀ m c, ¬lookupWaits s m c) → (∀ op c, ¬upkeepWaits s op c) →
    exec (.arbiterGrant n) s = .next s) ∧
  (∀ (s : State) (n : SlotNo), (∃ m c, lookupWaits s m c) →
    ((∀ op c, ¬upkeepWaits s op c) ∨ s.mp.lookupRun < s.mp.share) →
    ∃ m c, lookupWaits s m c ∧ ((∃ d, lookupWaits s n d) → m = n) ∧
      exec (.arbiterGrant n) s = .next (s.withMp { s.mp with
        lookupRun := min (s.mp.lookupRun + 1) s.mp.share
        probes := s.mp.probes.map fun p =>
          if (s.gate m).holder = some (.probe p.tag) then
            { p with walk := p.walk.map fun w => w.advance (cellBytesOf s.sdram w.base c) }
          else p })) ∧
  (∀ (s : State) (n : SlotNo) (op : UpkeepOp) (c : Nat), upkeepGranted s op c →
    ∃ t, exec (.arbiterGrant n) s = .next t ∧
      t = (s.withMp { s.mp with lookupRun := 0, upkeep := t.mp.upkeep }).withSdram t.sdram ∧
      (Memory.wf s.sdram = true → ∀ a, a < (s.slot op.slot).base + 32 * c ∨
        (s.slot op.slot).base + 32 * c + 32 ≤ a → readByte t.sdram a = readByte s.sdram a)) ∧
  ∀ (s : State) (v : Byte), Ready s → exec (.setMaintShare v) s = .next
    (if v.toNat ∈ [1, 3, 7, 15] then
      answered (s.withMp { s.mp with
        share := v.toNat, lookupRun := min s.mp.lookupRun v.toNat }) .done 0x23 []
    else answered s .badArg 0x23 [])

open Classical in
/-- R22, R24, R25, R61, R65, R66, R183: FORMAT makes its checks in order, sets the slot FORMATTING and
claims its gate, unanswered. Each of its accesses lays out one cell and changes no other byte: a
directory cell becomes eight empty bucket heads, any other cell is linked to the next higher one, the
last to none. The last write made, FORMAT_COMPLETE leaves the slot READY with every cell after the
directory free, queues DONE and releases the gate. That the next access is ready at once
(notes/assumptions/19.md), and that the directory cells are written from cell 0 upward
(notes/assumptions/21.md), is the model's choice. -/
def Obligations.FormatLaysOutTheWindow : Prop :=
  ((∀ (s : State) (v : Byte) (buckets : BitVec 32), Ready s → 3 < v.toNat →
     exec (.format v buckets) s = .next (answered s .badArg 0x19 [])) ∧
   (∀ (s : State) (v : Byte) (n : SlotNo) (buckets : BitVec 32), Ready s → v.toNat = n.val →
     gateServed s n →
     exec (.format v buckets) s = .next
       (if (s.slot n).lock then answered s .locked 0x19 []
       else if (s.slot n).state = .vacant ∨ (s.slot n).state = .formatting ∨
           ((s.slot n).state = .ready ∧ (s.slot n).access ≠ .shut) then answered s .badState 0x19 []
       else if ¬∃ e, 10 ≤ e ∧ e ≤ 18 ∧ buckets.toNat = 2 ^ e then answered s .badArg 0x19 []
       else if (s.slot n).size < 4 * (4 * buckets.toNat) then answered s .badArg 0x19 []
       else executing (claimed (s.withSlot n { s.slot n with
           state := .formatting
           buckets := buckets.toNat
           entryCount := 0
           freeCount := 0
           freeHead := none }) n (.format n 0)) 0x19)) ∧
   ∀ (s : State) (n : SlotNo), s.mp.upkeep = some (.format n ((s.slot n).size / 32)) →
     (s.gate n).holder = some .upkeep → .upkeep ∉ (s.gate n).waiting → s.cp.restarts = 0 →
     exec .formatComplete s = .next (released (upkeepOver (commandOver (s.withSlot n { s.slot n with
         state := .ready
         entryCount := 0
         freeCount := (s.slot n).size / 32 - (s.slot n).buckets / 8
         freeHead := some ((s.slot n).buckets / 8) }) .done [])) n)) ∧
  (∀ (s : State) (n slot : SlotNo) (c : Nat), Memory.wf s.sdram = true →
     upkeepGranted s (.format n c) c →
     ∃ m, exec (.arbiterGrant slot) s = .next ((s.withMp
         { s.mp with lookupRun := 0, upkeep := some (.format n (c + 1)) }).withSdram m) ∧
       (c < (s.slot n).buckets / 8 → storedIn s.sdram m ((s.slot n).base + 32 * c)
         (List.replicate 8 [0x00, 0xFF, 0xFF, 0xFF]).flatten) ∧
       ((s.slot n).buckets / 8 ≤ c → storedIn s.sdram m ((s.slot n).base + 32 * c + 3)
         (linkAsBytes (if c + 1 = (s.slot n).size / 32 then none else some (c + 1)))))

/-- R63, R64, R65, R83: PROBE_ISSUE takes the first pair not issued and the lowest free tag. With the
pair's slot consulted, a probe with the candidate's outline is outstanding on the tag and claims the
slot's gate, at once where the gate is free; with the slot no longer consulted the result is MISS
(where that MISS decides, ResolutionEndsAtItsDecision and RescanReplaysTheWindow say what follows).
With no pair left or no tag free nothing changes; that this holds too of a pair no longer consulted is
the model's choice (notes/assumptions/22.md). -/
def Obligations.ProbeIsIssuedOnTheLowestFreeTag : Prop :=
  ∀ (s : State) (t : ProbeTable), s.te.table = some t →
    ((∀ p ∈ t.pairs, p.result ≠ .unissued) ∨ (∀ tag, ∃ p ∈ s.mp.probes, p.tag = tag) →
      exec .probeIssue s = .next s) ∧
    ∀ before p after tag, t.pairs = before ++ p :: after → (∀ q ∈ before, q.result ≠ .unissued) →
      p.result = .unissued → (∀ q ∈ s.mp.probes, q.tag ≠ tag) →
      (∀ tag' < tag, ∃ q ∈ s.mp.probes, q.tag = tag') →
      let issued (r : PairResult) := s.withTe { s.te with
        table := some { t with pairs := before ++ { p with result := r } :: after } }
      ((s.slot p.slot).access = .lookup ∨ (s.slot p.slot).access = .full →
        ((s.gate p.slot).holder = none → (s.gate p.slot).waiting = [] →
          exec .probeIssue s = .next ((issued (.pending tag)).withMp { s.mp with
            probes := s.mp.probes ++ [⟨tag, p.slot, p.outline, false,
              some (Walk.start (s.slot p.slot) p.outline true)⟩]
            gates := s.mp.gates.set p.slot ⟨some (.probe tag), []⟩ })) ∧
        (∀ h, (s.gate p.slot).holder = some h →
          exec .probeIssue s = .next ((issued (.pending tag)).withMp { s.mp with
            probes := s.mp.probes ++ [⟨tag, p.slot, p.outline, false, none⟩]
            gates := s.mp.gates.set p.slot
              ⟨some h, (s.gate p.slot).waiting ++ [.probe tag]⟩ }))) ∧
      ((s.slot p.slot).access = .shut ∨ (s.slot p.slot).access = .maintain →
        undecided (before ++ { p with result := .miss } :: after) →
        exec .probeIssue s = .next (issued .miss))

/-- R64, R65, R68: the probe that holds a gate ends when its walk does: its tag is free, the gate takes
its next claim (of a RELEASE_SLOT the only one there, no restart being in progress), and its result
reaches the TE, or is discarded where the probe was withdrawn. The clause on a result is about one
that leaves the decision open. -/
def Obligations.ProbeEndFreesTheTagAndTheGate : Prop :=
  ∀ (s : State) (n : SlotNo) (p : Probe) (w : Walk), probeHolds s n p w →
    (p.withdrawn = true → (w.phase = .found ∨ w.phase = .absent) →
      exec (.probeEnd n) s = .next (probeGone s n p)) ∧
    (p.withdrawn = false → ∀ r, walkResult w r → quiet (resultIn s p.tag r) →
      exec (.probeEnd n) s = .next (resultIn (probeGone s n p) p.tag r)) ∧
    (w.phase ≠ .found → w.phase ≠ .absent → exec (.probeEnd n) s = .next s)

end

/-! ### Words for chapters 5 to 7 -/

namespace Sys2Proof.Rules

open Sys2Proof Sys2Proof.Machine

/-- The TE is idle: WAITING or STOPPED (R74). -/
def teIdle (s : State) : Prop := s.te.state = .waiting ∨ s.te.state = .stopped

/-- Item 1 of the service order may begin (R77). -/
def rescanMayBegin (s : State) : Prop :=
  teIdle s ∧ s.te.rescanPending = true ∧ s.cp.reports.length + 16 ≤ 64

/-- Item 3 of the service order is the first whose condition holds (R77). -/
def strokeMayBeTaken (s : State) : Prop :=
  s.te.state = .waiting ∧ s.te.rescanPending = false ∧ s.te.settleDue = false ∧
    s.cp.reports.length + 17 ≤ 64

/-- No slot is consulted (2.7). -/
def noneConsulted (s : State) : Prop :=
  ∀ n, (s.slot n).access = .shut ∨ (s.slot n).access = .maintain

/-- The TE's work is over: it is WAITING or STOPPED by the run setting, with no probe table and no
replay (R74). -/
def idled (s : State) : State :=
  s.withTe { s.te with
    state := if s.te.run then .waiting else .stopped
    table := none
    replay := none }

/-- `s` with a stroke record taken from the head of its stroke queue: its STROKE report queued and the
settle timer restarted (R79, R119). -/
def taken (s : State) (r : StrokeRecord) (rest : List StrokeRecord) (undoEmpty : Bool) : State :=
  ((s.withStrokeQueue rest).withCp { s.cp with
    reports := s.cp.reports ++ [.stroke r.keys r.time r.origin r.split r.stuckCut undoEmpty] }).withTe
    { s.te with settleTimer := if s.te.settleTime = 0 then none else some s.te.settleTime }

/-- The probe table of a stroke over a window, the consulted slots in `order` (R82, R83). -/
def tableOf (s : State) (window : List Record) (stroke : Stroke) (order : List SlotNo)
    (t : ProbeTable) : Prop :=
  t.stroke = stroke ∧ t.maxCand = maxCandidate window ∧ t.consulted = order ∧
    (∀ n, n ∈ t.rankOrder) ∧
    t.rankOrder.Pairwise (fun a b => (s.slot a).rank.val < (s.slot b).rank.val) ∧
    t.viewChanged = false ∧
    t.pairs = (List.range (maxCandidate window + 1)).reverse.flatMap fun j => order.map fun n =>
      ⟨j, n, strokesOf (window.drop (window.length - j)) ++ [stroke], .unissued⟩

/-- The probes on `tags` are withdrawn: a WAITING one leaves its gate and its tag is free, a TAKEN one
walks on (R68). -/
def probesWithdrawn (s : State) (tags : List (Fin 32)) : State :=
  s.withMp { s.mp with
    probes := s.mp.probes.filterMap fun p =>
      if p.tag ∈ tags then (if p.walk = none then none else some { p with withdrawn := true })
      else some p
    gates := s.mp.gates.map fun g => { g with waiting := g.waiting.filter fun c => match c with
      | .probe tag => decide (tag ∉ tags)
      | .upkeep => true } }

/-- Rescan-pending is set where the lookup view has changed since the table was recorded (R86, R124). -/
def viewTested (s : State) (t : ProbeTable) : State :=
  s.withTe { s.te with rescanPending := s.te.rescanPending || t.viewChanged }

/-- The tags of the pairs whose results are pending (R85). -/
def tagsPending (t : ProbeTable) : List (Fin 32) :=
  t.pairs.filterMap fun p => match p.result with
    | .pending tag => some tag
    | _ => none

/-- PROBE_ISSUE comes to a pair whose slot is no longer consulted, a tag being free
(notes/assumptions/22.md); `t` is the probe table with its result, MISS, entered (R83). -/
def missIssued (s : State) (t : ProbeTable) : Prop :=
  ∃ old before p after tag, s.te.table = some old ∧ old.pairs = before ++ p :: after ∧
    (∀ q ∈ before, q.result ≠ .unissued) ∧ p.result = .unissued ∧
    (∀ q ∈ s.mp.probes, q.tag ≠ tag) ∧
    ((s.slot p.slot).access = .shut ∨ (s.slot p.slot).access = .maintain) ∧
    t = { old with pairs := before ++ { p with result := .miss } :: after }

/-- The probe table `t` decides the resolution in progress: the pending probes are withdrawn, the window
changes by the decision, a change of the lookup view sets rescan-pending, and the TE is idle (R84, R85,
R86, R90). -/
def resolutionOver (s : State) (t : ProbeTable) : State :=
  idled (viewTested ((probesWithdrawn s (tagsPending t)).changeWindow
    (appendResolved s.speakers s.te.settledFmt s.te.window t.stroke (decisionOf t.pairs))) t)

/-- The window with the strokes of a list resolved into it, one by one, with no slot consulted (R83,
R84, R88, R89). -/
def untranslated (s : State) (strokes : List Stroke) (window : List Record) : List Record :=
  strokes.foldl (fun w v => appendResolved s.speakers s.te.settledFmt w v .noHit) window

/-- The probe table `t` decides a replayed stroke, the pending probes are withdrawn, and its record joins
the replay window; the next stroke is then in resolution, or, with none left or no slot consulted, the
replay ends and its window takes the place of the window as one change. `after` holds of the state
that this leaves (R85, R86, R126, R127). -/
def replayGoesOn (s : State) (t : ProbeTable) (rep : Replay) (after : State → Prop) : Prop :=
  let u := viewTested (probesWithdrawn s (tagsPending t)) t
  let window := appendResolved s.speakers s.te.settledFmt rep.window t.stroke (decisionOf t.pairs)
  (∀ v rest order, rep.remaining = v :: rest → ranksDiffer u → consultedInRankOrder u order →
    order ≠ [] → ∃ next, tableOf u window v order next ∧ after (u.withTe { u.te with
      state := .rescanning, table := some next, replay := some ⟨rest, window⟩ })) ∧
  (rep.remaining = [] ∨ noneConsulted u →
    after (idled (u.changeWindow (untranslated s rep.remaining window))))

/-- The oldest record `r` settles, leaving `rest`: its report, the settled format state and the channel
update of its one chunk, which leaves the rest of the open text as it is (R115, R121, R129, R130). -/
def oldestSettled (s : State) (r : Record) (rest : List Record) : State :=
  ((s.withCp { s.cp with reports := s.cp.reports ++
      [.settled r.data.source r.data.outline r.data.text r.data.truncated] }).withTe
    { s.te with window := rest, settledFmt := r.data.after }).sendUpdates
    [⟨[r.data.text], (openTextOf rest).length, []⟩]

/-- A format state's two bytes (R184). -/
def fmtBytes (f : Fmt) : List Byte :=
  [BitVec.ofNat 8 ((if f.lineStart then 1 else 0) + (if f.attachNext then 2 else 0) +
    (if f.glueLast then 4 else 0) + (match f.caseMode with
      | .none => 0
      | .upper => 8
      | .lower => 16)),
    match f.speaker with
      | some n => BitVec.ofNat 8 n.val
      | none => 16]

/-- The code of a record's source (R184). -/
def sourceCode (x : Source) : Nat :=
  match x with
  | .slot n => n.val
  | .number => 4
  | .raw => 5

/-- A printable character (R38). -/
def printable (b : Byte) : Prop := 0x20 ≤ b.toNat ∧ b.toNat ≤ 0x7E

/-- A letter, a to z or A to Z (R101). -/
def letter (b : Byte) : Prop := (0x61 ≤ b.toNat ∧ b.toNat ≤ 0x7A) ∨ (0x41 ≤ b.toNat ∧ b.toNat ≤ 0x5A)

/-- A letter as a case mode sets it: in capitals, in small letters, or as given (R97, R101). -/
def inCase (mode : CaseMode) (b : Byte) : Byte :=
  match mode with
  | .none => b
  | .upper => if 0x61 ≤ b.toNat ∧ b.toNat ≤ 0x7A then b - 0x20 else b
  | .lower => if 0x41 ≤ b.toNat ∧ b.toNat ≤ 0x5A then b + 0x20 else b

/-- UPPER_NEXT or LOWER_NEXT, and the case mode it sets (R102). -/
def caseItem (b : Byte) (mode : CaseMode) : Prop :=
  (b = 0x01 ∧ mode = .upper) ∨ (b = 0x02 ∧ mode = .lower)

/-- The settled chunks of a change come off the front of a display, a correction keeps the first `kept`
characters of what is left and appends the new ones (R129). -/
def shownBy (display : List Byte) (u : Update) : List Byte :=
  (display.drop u.chunks.flatten.length).take u.kept ++ u.fresh

end Sys2Proof.Rules

section

open Sys2Proof Sys2Proof.Machine Sys2Proof.Rules

/-! ### Stroke resolution (chapter 5) -/

/-- R82: J is the largest count of newest records that hold 7 strokes or fewer together; it is at most
7, and every candidate's outline is the strokes of its records and then the stroke, at most 8. -/
def Obligations.CandidatesAreTheNewestRecords : Prop :=
  ∀ (window : List Record) (stroke : Stroke), (∀ r ∈ window, 1 ≤ r.data.outline.length) →
    (∀ j, j ≤ window.length → ((strokesOf (window.drop (window.length - j))).length ≤ 7 ↔
      j ≤ maxCandidate window)) ∧
    maxCandidate window ≤ window.length ∧ maxCandidate window ≤ 7 ∧
    candidates (maxCandidate window) = (List.range (maxCandidate window + 1)).reverse ∧
    candidateOutline window stroke 0 = [stroke] ∧
    ∀ j, j ≤ maxCandidate window →
      candidateOutline window stroke j = strokesOf (window.drop (window.length - j)) ++ [stroke] ∧
      (candidateOutline window stroke j).length ≤ 8

/-- R77, R79, R82, R83: TAKE_STROKE, where the service order comes to it, removes the head stroke,
queues its STROKE report and restarts the settle timer. With a slot consulted the TE is RESOLVING
with the stroke's probe table; with none the stroke becomes a NUMBER or RAW record at once. In every
other case nothing changes. -/
def Obligations.StrokeIsTakenIntoResolution : Prop :=
  ∀ s : State,
    ((s.strokeQueue = [] ∨ ¬strokeMayBeTaken s) → exec .takeStroke s = .next s) ∧
    ∀ r rest, s.strokeQueue = r :: rest → strokeMayBeTaken s → r.keys.toNat ≠ 1024 →
      (∀ order, ranksDiffer s → consultedInRankOrder s order → order ≠ [] →
        ∃ t, tableOf s s.te.window r.keys order t ∧
          exec .takeStroke s = .next ((taken s r rest false).withTe
            { (taken s r rest false).te with state := .resolving, table := some t, replay := none })) ∧
      (noneConsulted s → exec .takeStroke s = .next
        (idled ((taken s r rest false).changeWindow (untranslated s [r.keys] s.te.window))))

/-- R80, R81, R84, R87, R88, R89, R90: the winner is the first pair in decision order whose probe hit,
every pair before it having missed; no hit needs every pair to have missed. The new record takes the
place of the newest records its candidate absorbs and keeps them as its displaced list; it is
rendered from the state after the record now before it, or from the settled format state; a stroke
without a hit becomes a NUMBER record of its digits under GLUE, or a RAW record of its steno
rendering; the window's stroke sequence gains the stroke. -/
def Obligations.DecisionFormsTheNewRecord : Prop :=
  (∀ pairs : List Pair,
     (decisionOf pairs = .noHit ↔ ∀ p ∈ pairs, p.result = .miss) ∧
     (∀ j n outline flags text, decisionOf pairs = .winner j n outline flags text ↔
       ∃ before p after, pairs = before ++ p :: after ∧ (∀ q ∈ before, q.result = .miss) ∧
         p.result = .hit flags text ∧ p.cand = j ∧ p.slot = n ∧ p.outline = outline) ∧
     (decisionOf pairs = .undecided ↔ undecided pairs)) ∧
  (∀ (speakers : Vector (List Byte) 16) (settled : Fmt) (window : List Record) (stroke : Stroke),
     let fmt (left : List Record) := (left.getLast?.map fun r => r.data.after).getD settled
     (∀ j n flags text, j ≤ window.length →
       let left := window.take (window.length - j)
       let absorbed := window.drop (window.length - j)
       ∃ new, appendResolved speakers settled window stroke
           (.winner j n (strokesOf absorbed ++ [stroke]) flags text) = left ++ [new] ∧
         new.displaced.records = absorbed ∧
         new.data = (formRecord speakers (fmt left) (strokesOf absorbed ++ [stroke]) (.slot n) flags
           text .nil).data ∧
         strokesOf (left ++ [new]) = strokesOf window ++ [stroke]) ∧
     ∃ new, appendResolved speakers settled window stroke .noHit = window ++ [new] ∧
       new.displaced = .nil ∧
       (isNumberStroke stroke = true → new.data =
         (formRecord speakers (fmt window) [stroke] .number 0x04 (digitText stroke) .nil).data) ∧
       (isNumberStroke stroke = false → new.data =
         (formRecord speakers (fmt window) [stroke] .raw 0 (stenoText stroke) .nil).data))

/-- R64, R67, R68, R83, R84, R85, R86, R90, R124: the result that makes the outcome certain ends the
resolution, whether a probe's end brings it, a pair whose slot is no longer consulted when its turn
comes, or a SET_ACCESS that answers waiting probes: the pending probes are withdrawn, the window
changes by the decision, a change of the lookup view sets rescan-pending, and the TE is WAITING or
STOPPED by the run setting. That a probe's gate takes its next claim before the decision withdraws the
pending probes is read from the guide (notes/assumptions/10.md). -/
def Obligations.ResolutionEndsAtItsDecision : Prop :=
  ∀ (s : State) (t : ProbeTable), s.te.replay = none → ¬undecided t.pairs →
    (∀ (n : SlotNo) (p : Probe) (w : Walk) (r : PairResult),
      probeHolds s n p w → p.withdrawn = false → walkResult w r →
      (resultIn s p.tag r).te.table = some t →
      exec (.probeEnd n) s = .next (resolutionOver (probeGone s n p) t)) ∧
    (missIssued s t → exec .probeIssue s = .next (resolutionOver s t)) ∧
    ∀ (v code : Byte) (n : SlotNo) (u : State), stopsConsulting s v code n u →
      u.te.table = some t →
      exec (.setAccess v code) s = .next (answered (resolutionOver u t) .done 0x1B [])

/-- R77, R83, R84, R125, R126, R127: RESCAN, where the service order comes to it, clears rescan-pending
and sets the first stroke of a window that is not empty in resolution over an empty replay window;
the result that decides a replayed stroke, whether a probe's end brings it, a pair no longer consulted
or a SET_ACCESS, adds its record there and sets the next stroke in resolution; after the last one the
replay window replaces the window as one change. With no slot consulted the strokes left are decided
at once. That a probe's gate takes its next claim before the decision withdraws the pending probes is
read from the guide (notes/assumptions/10.md). -/
def Obligations.RescanReplaysTheWindow : Prop :=
  (∀ s : State,
     (¬rescanMayBegin s → exec .rescan s = .next s) ∧
     (rescanMayBegin s →
       let u := s.withTe { s.te with rescanPending := false }
       (s.te.window = [] → exec .rescan s = .next u) ∧
       (∀ v rest order, s.te.window ≠ [] → strokesOf s.te.window = v :: rest → ranksDiffer s →
         consultedInRankOrder s order → order ≠ [] →
         ∃ t, tableOf s [] v order t ∧ exec .rescan s = .next (u.withTe { u.te with
           state := .rescanning, table := some t, replay := some ⟨rest, []⟩ })) ∧
       (s.te.window ≠ [] → noneConsulted s → exec .rescan s = .next
         (idled (u.changeWindow (untranslated s (strokesOf s.te.window) [])))))) ∧
  ∀ (s : State) (t : ProbeTable) (rep : Replay), s.te.replay = some rep → ¬undecided t.pairs →
    (∀ (n : SlotNo) (p : Probe) (w : Walk) (r : PairResult),
      probeHolds s n p w → p.withdrawn = false → walkResult w r →
      (resultIn s p.tag r).te.table = some t →
      replayGoesOn (probeGone s n p) t rep fun x => exec (.probeEnd n) s = .next x) ∧
    (missIssued s t → replayGoesOn s t rep fun x => exec .probeIssue s = .next x) ∧
    ∀ (v code : Byte) (n : SlotNo) (u : State), stopsConsulting s v code n u →
      u.te.table = some t →
      replayGoesOn u t rep fun x => exec (.setAccess v code) s = .next (answered x .done 0x1B [])

/-- R77, R79, R91, R92: an undo of a window that is not empty takes the newest record away and puts back
its displaced records with all their fields, as one change of the window, the TE staying idle; an
undo of an empty window changes nothing in it and sends no update, its STROKE report carrying
UNDO_EMPTY; both restart the settle timer. -/
def Obligations.UndoTakesBackOneStroke : Prop :=
  (∀ (s : State) (r : StrokeRecord) (rest : List StrokeRecord) (window : List Record) (new : Record),
     s.strokeQueue = r :: rest → strokeMayBeTaken s → r.keys.toNat = 1024 →
     s.te.window = window ++ [new] →
     exec .takeStroke s = .next
       (idled ((taken s r rest false).changeWindow (window ++ new.displaced.records)))) ∧
  (∀ (s : State) (r : StrokeRecord) (rest : List StrokeRecord),
     s.strokeQueue = r :: rest → strokeMayBeTaken s → r.keys.toNat = 1024 → s.te.window = [] →
     exec .takeStroke s = .next (taken s r rest true))

/-- R93, R94: WINDOW_INFO returns the TE or one record as it stands and changes nothing; a RECORD
above 16 is refused with BAD_ARG, one the window does not hold with NOT_FOUND. That the run setting
reads 1 for on and 0 for off, and that the bits R185 does not give of the pending byte and of a record
byte are 0, is the model's choice (notes/assumptions/17.md). -/
def Obligations.WindowIsReadWithoutChange : Prop :=
  (∀ s : State, Ready s → ∀ data : List Byte,
    data = ([match s.te.state with
      | .stopped => 0
      | .waiting => 1
      | .resolving => 2
      | .rescanning => 3, if s.te.run then 1 else 0] : List Byte) ++
      bytesOf24 (if s.te.state = .resolving then (s.te.table.map (·.stroke)).getD 0 else 0) ++
      [BitVec.ofNat 8 s.te.window.length, BitVec.ofNat 8 (strokesOf s.te.window).length] ++
      bytesOf16 (BitVec.ofNat 16 (openTextOf s.te.window).length) ++
      [(if s.te.settleDue then 1 else 0) + (if s.te.rescanPending then 2 else 0)] ++
      fmtBytes s.te.settledFmt ++ s.te.window.map (fun r =>
        BitVec.ofNat 8 (sourceCode r.data.source + 16 * r.data.outline.length)) →
    exec .windowInfo s = .next (answered s .done 0x26 data)) ∧
  ∀ (s : State) (v : Byte), Ready s → v ≠ 0 →
    (16 < v.toNat → exec (.windowInfoRecord v) s = .next (answered s .badArg 0x26 [])) ∧
    (v.toNat ≤ 16 → s.te.window.length < v.toNat →
      exec (.windowInfoRecord v) s = .next (answered s .notFound 0x26 [])) ∧
    ∀ before r after, v.toNat ≤ 16 → s.te.window = before ++ r :: after →
      v.toNat = before.length + 1 → 1 ≤ r.data.outline.length → r.data.outline.length ≤ 8 →
      r.data.flags.toNat < 16 → r.displaced.records.length ≤ 7 →
      exec (.windowInfoRecord v) s = .next (answered s .done 0x26
        ([BitVec.ofNat 8 (sourceCode r.data.source + (if r.data.truncated then 8 else 0) +
            16 * r.data.flags.toNat),
          (fmtBytes r.data.before).headD 0 + BitVec.ofNat 8 (32 * r.displaced.records.length),
          ((fmtBytes r.data.before)[1]?).getD 0 + BitVec.ofNat 8 (32 * (r.data.outline.length - 1))] ++
          strokeBytes r.data.outline ++ r.data.text))

/-! ### Formatting and the open text (chapter 6) -/

/-- R100, R101, R105: of a record of literals alone, the leading space is there unless one of the four
conditions holds; the first letter takes the case mode, the other characters stand as stored; the
state after is not at a line start, and the case mode is used up where there was a letter. -/
def Obligations.LiteralsTakeSpaceAndCase : Prop :=
  ∀ (speakers : Vector (List Byte) 16) (f : Fmt) (outline : List Stroke) (source : Source)
    (flags : Byte) (items : List Byte) (d : Displaced),
    items ≠ [] → items.length < 200 → (∀ b ∈ items, printable b) →
    let joins := f.lineStart = true ∨ f.attachNext = true ∨ flags.getLsbD 0 = true ∨
      (flags.getLsbD 2 = true ∧ f.glueLast = true)
    let r := formRecord speakers f outline source flags items d
    ∃ lead : List Byte, (joins → lead = []) ∧ (¬joins → lead = [0x20]) ∧
      r.data.truncated = false ∧ r.displaced = d ∧ r.data.before = f ∧ r.data.flags = flags ∧
      r.data.items = items ∧ r.data.outline = outline ∧ r.data.source = source ∧
      ((∀ b ∈ items, ¬letter b) → r.data.text = lead ++ items ∧
        r.data.after = ⟨false, flags.getLsbD 1, flags.getLsbD 2, f.caseMode, f.speaker⟩) ∧
      ∀ a c b, items = a ++ c :: b → (∀ x ∈ a, ¬letter x) → letter c →
        r.data.text = lead ++ a ++ inCase f.caseMode c :: b ∧
        r.data.after = ⟨false, flags.getLsbD 1, flags.getLsbD 2, .none, f.speaker⟩

/-- R102: UPPER_NEXT and LOWER_NEXT set the case mode and append no character; the last one taken
before a letter decides; one that ends a record is left for the first letter of the next. -/
def Obligations.LastCaseItemDecides : Prop :=
  ∀ (speakers : Vector (List Byte) 16) (f : Fmt) (outline : List Stroke) (source : Source)
    (flags : Byte) (a b : List Byte) (d : Displaced) (x y : Byte) (p q : CaseMode),
    caseItem x p → caseItem y q →
    let rendered (items : List Byte) := (formRecord speakers f outline source flags items d).data
    (rendered (a ++ [x])).text = (rendered a).text ∧
    (rendered (a ++ [x])).after = { (rendered a).after with caseMode := p } ∧
    (rendered (a ++ x :: y :: b)).text = (rendered (a ++ y :: b)).text ∧
    (rendered (a ++ x :: y :: b)).after = (rendered (a ++ y :: b)).after ∧
    (a = [] → (rendered (x :: b)).text =
        (formRecord speakers { f with caseMode := p } outline source flags b d).data.text ∧
      (rendered (x :: b)).after =
        (formRecord speakers { f with caseMode := p } outline source flags b d).data.after) ∧
    ∀ c rest, letter c → a = [] → b = c :: rest → (rendered (x :: b)).text =
      (formRecord speakers { f with caseMode := .none } outline source flags
        (inCase p c :: rest) d).data.text

/-- R103, R104, R105, R107: a PARAGRAPH or SPEAKER item appends its line-break (and the label as it
stands, and one space where the label is not empty) and cancels a pending space; the items after it
go on from a line start in UPPER, with the speaker set. A record that ends there, but for case items,
leaves the next one to join without a space; the emitted text is the first 200 characters, with a
note of whether there were more. -/
def Obligations.BreaksBeginALineOrATurn : Prop :=
  ∀ (speakers : Vector (List Byte) 16) (f : Fmt) (flags : Byte) (a b : List Byte) (n : Fin 16)
    (outline : List Stroke) (source : Source) (d : Displaced),
    let whole (g : Fmt) (fl : Byte) (items : List Byte) := (renderAll speakers g fl items).chars
    let turn : List Byte := [0x0A] ++ speakers[n] ++ (if speakers[n] = [] then [] else [0x20])
    let speakerItem : Byte := BitVec.ofNat 8 (0x80 + n.val)
    let newLine : Fmt := ⟨true, false, false, .upper, none⟩
    whole f flags (a ++ 0x03 :: b) = whole f flags a ++ [0x0A] ++ whole newLine 0 b ∧
    whole f flags (a ++ speakerItem :: b) = whole f flags a ++ turn ++ whole newLine 0 b ∧
    (let r := formRecord speakers f outline source flags a d;
      r.data.text = (whole f flags a).take 200 ∧
      (r.data.truncated = true ↔ 200 < (whole f flags a).length)) ∧
    ((∀ x ∈ b, ∃ m, caseItem x m) →
      let after (items : List Byte) := (formRecord speakers f outline source flags items d).data.after
      ((after (a ++ 0x03 :: b)).lineStart = true ∧
        (after (a ++ 0x03 :: b)).attachNext = flags.getLsbD 1 ∧
        (after (a ++ 0x03 :: b)).speaker = (after a).speaker) ∧
      ((after (a ++ speakerItem :: b)).speaker = some n ∧
        (after (a ++ speakerItem :: b)).glueLast = flags.getLsbD 2) ∧
      (speakers[n] = [] → (after (a ++ speakerItem :: b)).lineStart = true ∧
        (after (a ++ speakerItem :: b)).attachNext = flags.getLsbD 1) ∧
      (speakers[n] ≠ [] → (after (a ++ speakerItem :: b)).lineStart = false ∧
        (after (a ++ speakerItem :: b)).attachNext = true) ∧
      (after b).lineStart = f.lineStart ∧
      (after b).attachNext = (flags.getLsbD 1 || f.attachNext) ∧ (after b).speaker = f.speaker)

/-- R111, R112: the steno rendering is the letters of the stroke's keys in steno order, with a hyphen
before the right bank where no vowel key and no star stands before it; the digit rendering is the
digits of its digit keys in that order; a number stroke holds the number key, a digit key, and no
other key. -/
def Obligations.StrokesAreRenderedInStenoOrder : Prop :=
  ∀ (v : Stroke) (letters digits : List Byte),
    letters = [0x23, 0x53, 0x54, 0x4B, 0x50, 0x57, 0x48, 0x52, 0x41, 0x4F, 0x2A, 0x45, 0x55, 0x46,
      0x52, 0x50, 0x42, 0x4C, 0x47, 0x54, 0x53, 0x44, 0x5A] →
    digits = [0, 0x31, 0x32, 0, 0x33, 0, 0x34, 0, 0x35, 0x30, 0, 0, 0, 0x36, 0, 0x37, 0, 0x38, 0,
      0x39, 0, 0, 0] →
    let keys (lo hi : Nat) := (List.range 23).filter fun k =>
      decide (lo ≤ k) && decide (k ≤ hi) && v.getLsbD k
    let lettersOf (ks : List Nat) := ks.map fun k => (letters[k]?).getD 0
    stenoText v = lettersOf (keys 0 12) ++
      (if keys 8 12 = [] ∧ keys 13 22 ≠ [] then [0x2D] else []) ++ lettersOf (keys 13 22) ∧
    (v.toNat ≠ 0 → v.toNat ≤ 8388607 → 1 ≤ (stenoText v).length ∧ (stenoText v).length ≤ 23) ∧
    digitText v =
      (((keys 0 22).map fun k => (digits[k]?).getD 0).filter fun b => b != 0) ∧
    (isNumberStroke v = true ↔ v.toNat ≤ 8388607 ∧ 0 ∈ keys 0 22 ∧ digitText v ≠ [] ∧
      ∀ k ∈ keys 1 22, (digits[k]?).getD 0 ≠ 0)

/-! ### Settling, rescan and corrections (chapter 7) -/

/-- R113, R115, R116, R117, R118, R129: the immediate settling steps settle, oldest first, the fewest
records that bring the window to 16 strokes, then every older record where the newest has
SETTLE_BEFORE, then the fewest that bring the open text to 480 characters; the newest record of a
window of at most 17 strokes stays. A change of the window leaves what they leave, queues a SETTLED
report for each record gone, takes the last one's state after as the settled format state, and sends
every channel the update computed from the open text before and after. -/
def Obligations.WindowChangeSettlesAndReports : Prop :=
  (∀ w : List Record, w ≠ [] →
     (∀ r ∈ w, 1 ≤ r.data.outline.length ∧ r.data.outline.length ≤ 8 ∧ r.data.text.length ≤ 200) →
     (strokesOf w).length ≤ 17 →
     ∃ one two three left new,
       immediateSettle w = (one ++ two ++ three, left ++ [new]) ∧
       one ++ two ++ three ++ left ++ [new] = w ∧
       (strokesOf (two ++ three ++ left ++ [new])).length ≤ 16 ∧
       (∀ a r, one = a ++ [r] → 16 < (strokesOf (r :: two ++ three ++ left ++ [new])).length) ∧
       (new.data.flags.getLsbD 3 = true → three ++ left = []) ∧
       (new.data.flags.getLsbD 3 = false → two = []) ∧
       (openTextOf (left ++ [new])).length ≤ 480 ∧
       (∀ a r, three = a ++ [r] → 480 < (openTextOf (r :: left ++ [new])).length)) ∧
  (∀ (s : State) (w gone left : List Record), immediateSettle w = (gone, left) →
     ∃ updates, updates = updatesOf (openTextOf s.te.window) (gone.map fun r => r.data.text)
         (openTextOf left) ∧
       s.changeWindow w = ((s.withCp { s.cp with reports := s.cp.reports ++ gone.map (fun r =>
           .settled r.data.source r.data.outline r.data.text r.data.truncated) }).withTe { s.te with
         window := left
         settledFmt := (gone.getLast?.map fun r => r.data.after).getD s.te.settledFmt }).sendUpdates
         updates)

open Classical in
/-- R75, R76, R77, R109, R110, R119, R120, R121: START sets the run setting and, from STOPPED, makes the
TE WAITING and looks at the service order at once; STOP clears it and makes a WAITING TE STOPPED.
SET_SPEAKER refuses a number above 15, then a byte outside 0x20 to 0x7E wherever it stands; it stores
24 bytes and signals the TE where the window is not empty. The settle timer, where it runs, expires
into settle-due; FLUSH sets settle-due and leaves the timer; SET_SETTLE_TIME takes 0, or clamps to
200 up to 20,000 ms, and disturbs no run in progress. That START's own step looks at the service
order once, the further looks of R77 being steps of their own, is the model's choice
(notes/assumptions/6.md). -/
def Obligations.TranslationIsSteeredByItsCommands : Prop :=
  (∀ s : State, Ready s →
     (s.te.state ≠ .stopped → exec .start s =
       .next (answered (s.withTe { s.te with run := true }) .done 0x24 [])) ∧
     (s.te.state = .stopped →
       let u := s.withTe { s.te with run := true, state := .waiting }
       ∃ t, ((rescanMayBegin u → exec .rescan u = .next t) ∧
           (¬rescanMayBegin u → u.te.settleDue = true → exec .settleDueService u = .next t) ∧
           (¬rescanMayBegin u → u.te.settleDue = false → exec .takeStroke u = .next t)) ∧
         exec .start s = .next (answered t .done 0x24 [])) ∧
     exec .stop s = .next (answered (s.withTe { s.te with
       run := false
       state := if s.te.state = .waiting then .stopped else s.te.state }) .done 0x25 [])) ∧
  (∀ (s : State) (v : Byte) (label : List Byte), Ready s →
     (15 < v.toNat → exec (.setSpeaker v label) s = .next (answered s .badArg 0x27 [])) ∧
     ∀ n : Fin 16, v.toNat = n.val → exec (.setSpeaker v label) s = .next
       (if ¬∀ b ∈ label, printable b then answered s .badText 0x27 []
       else answered ((s.withSpeakers (s.speakers.set n (label.take 24))).withTe { s.te with
         rescanPending := s.te.rescanPending || !s.te.window.isEmpty }) .done 0x27 [])) ∧
  ((∀ s : State,
     (s.te.settleTimer.isSome = true → exec .settleTimerExpiry s = .next
       (s.withTe { s.te with settleTimer := none, settleDue := true })) ∧
     (s.te.settleTimer = none → exec .settleTimerExpiry s = .next s)) ∧
   (∀ s : State, Ready s → exec .flush s =
     .next (answered (s.withTe { s.te with settleDue := true }) .done 0x29 [])) ∧
   ∀ (s : State) (v : BitVec 16), Ready s → exec (.setSettleTime v) s = .next (answered
     (s.withTe { s.te with settleTime :=
       if v.toNat = 0 then 0 else if v.toNat < 200 then 200 else if 20000 < v.toNat then 20000
       else v.toNat }) .done 0x28 []))

/-- R77, R121: settle-due, where the service order comes to it, settles the oldest record, with its own
report and channel update, and goes on while a report place is free; over an empty window it is
cleared; with no place free it stays set. -/
def Obligations.SettleDueSettlesRecordByRecord : Prop :=
  ∀ s : State,
    (¬(teIdle s ∧ s.te.settleDue = true ∧ ¬rescanMayBegin s) →
      exec .settleDueService s = .next s) ∧
    (teIdle s → s.te.settleDue = true → ¬rescanMayBegin s →
      (s.te.window = [] → exec .settleDueService s = .next
        (s.withTe { s.te with settleDue := false })) ∧
      (64 ≤ s.cp.reports.length → s.te.window ≠ [] → exec .settleDueService s = .next s) ∧
      ∀ r rest, s.te.window = r :: rest → s.cp.reports.length < 64 →
        exec .settleDueService s = exec .settleDueService (oldestSettled s r rest))

/-- R122, R123: the run test passes exactly for a contiguous run of the stroke sequence; every candidate
outline a replay of the window can probe is one; a change notice sets rescan-pending in a busy TE
without the test, in an idle one by it. -/
def Obligations.RunTestFindsAContiguousRun : Prop :=
  (∀ (outline sequence : List Stroke), outline ≠ [] →
    (runTest outline sequence = true ↔
      ∃ before after, sequence = before ++ outline ++ after)) ∧
  (∀ (window replayed : List Record) (v : Stroke) (rest : List Stroke) (j : Nat),
    strokesOf window = strokesOf replayed ++ v :: rest →
    runTest (candidateOutline replayed v j) (strokesOf window) = true) ∧
  ∀ (s : State) (outline : List Stroke), outline ≠ [] → s.changeNotice outline = noticeTaken s outline

/-- R129, R130, R131: a display of the open text that takes the settled chunks off its front, keeps
what a correction keeps and appends what it brings ends showing the open text after the change, with
one update or with two; the chunks are always what the display begins with, the kept count is the
longest common prefix, and the correction reaches into no settled character. -/
def Obligations.UpdatesTurnTheOldTextIntoTheNew : Prop :=
  ∀ (old new : List Byte) (chunks : List (List Byte)),
    let settled := chunks.flatten
    let common (x y : List Byte) (k : Nat) := k ≤ x.length ∧ k ≤ y.length ∧ x.take k = y.take k ∧
      (k < x.length → k < y.length → x[k]? ≠ y[k]?)
    (updatesOf old chunks new).foldl shownBy old = new ∧
    (∀ left, old = settled ++ left → ∃ k, common left new k ∧
      updatesOf old chunks new = [⟨chunks, k, new.drop k⟩]) ∧
    ((∀ left, old ≠ settled ++ left) → ∃ k, common old (settled ++ new) k ∧ k < settled.length ∧
      updatesOf old chunks new = [⟨[], k, (settled ++ new).drop k⟩, ⟨chunks, new.length, []⟩])

end

/-! ### Words for chapters 8 and 9 -/

namespace Sys2Proof.Rules

open Sys2Proof Sys2Proof.Machine

/-- A channel in SENDING or HELD (R139). -/
def opened (c : Channel) : Prop := c.state = .sending ∨ c.state = .held

/-- A channel in LIVE_TEXT or FRAMED (R134). -/
def revises (c : Channel) : Prop := c.settings.mode = .live ∨ c.settings.mode = .framed

/-- Control bytes of a FIFO (R137). -/
def controls (bytes : List Byte) : List FifoByte := bytes.map fun b => ⟨b, false⟩

/-- Character bytes of a FIFO (R137). -/
def characters (bytes : List Byte) : List FifoByte := bytes.map fun b => ⟨b, true⟩

/-- The resync bytes of a mode (R136). -/
def resyncOf (mode : ChanMode) : List Byte :=
  match mode with
  | .live => [0x0A]
  | .framed => [0x1E, 0x52]
  | .final => [0x0D, 0x0A]

/-- A resync at the FIFO tail: in a revising mode the open text follows it, and D and T are its length
(R141, R151). -/
def resynced (text : List Byte) (c : Channel) : Channel :=
  match c.settings.mode with
  | .final =>
      { c with fifo := c.fifo ++ controls (resyncOf .final), shown := 0, trimmable := 0 }
  | m =>
      { c with
        fifo := c.fifo ++ controls (resyncOf m) ++ characters text
        shown := text.length
        trimmable := text.length }

/-- A LAPSED channel recovers with a resync where its stopped flag is clear and its FIFO level is no more
than its resume level (R151). -/
def recoveryTested (text : List Byte) (c : Channel) : Channel :=
  if c.state = .lapsed ∧ c.stopped = false ∧ c.fifo.length ≤ c.settings.resume then
    { resynced text c with state := .sending }
  else c

/-- The keepalive timer as a loading leaves it: in FRAMED, with a period above 0 (R154). -/
def keepLoaded (c : Channel) : Option Nat :=
  if c.settings.mode = .framed ∧ 0 < c.settings.keepalive then some c.settings.keepalive else c.keep

/-- The stall timer as it starts (R149). -/
def stallStarted (c : Channel) : Option Nat :=
  if c.settings.stallLimit = 0 then none else some c.settings.stallLimit

/-- The channel is LAPSED, its FIFO as it was (R145, R147). -/
def lapsed (c : Channel) : Channel :=
  { c with state := .lapsed, shown := 0, trimmable := 0, stall := none }

/-- The stopped flag becomes set (R140). -/
def stoppedNow (c : Channel) : Channel :=
  if c.stopped then c
  else if c.state = .sending then
    { c with stopped := true, state := .held, stall := stallStarted c }
  else { c with stopped := true }

/-- The stopped flag becomes clear (R140, R151). -/
def releasedNow (text : List Byte) (c : Channel) : Channel :=
  if c.stopped = false then c
  else if c.state = .held then { c with stopped := false, state := .sending, stall := none }
  else recoveryTested text { c with stopped := false }

/-- A channel that opens, or starts afresh at a RESTART, with an empty FIFO and a stopped flag (R155,
R158). -/
def started (text : List Byte) (stopped : Bool) (c : Channel) : Channel :=
  let r := resynced text { c with fifo := [] }
  { r with
    stopped := stopped
    state := if stopped then .held else .sending
    stall := if stopped then stallStarted c else none
    keep := keepLoaded c }

/-- The erase of `m` characters (R136). -/
def eraseOf (mode : ChanMode) (m : Nat) : List Byte :=
  match mode with
  | .live => List.replicate m 0x08
  | .framed => (List.replicate (m / 255) [0x1E, 0x45, 0xFF]).flatten ++
      (if m % 255 = 0 then [] else [0x1E, 0x45, BitVec.ofNat 8 (m % 255)])
  | .final => []

/-- D and T after the settled chunks of an update (R143). -/
def chunksOff (chunks : List (List Byte)) (c : Channel) : Channel :=
  { c with
    shown := c.shown - chunks.flatten.length
    trimmable := if chunks = [] then c.trimmable
      else min c.trimmable (c.shown - chunks.flatten.length) }

/-- What a LIVE_TEXT screen that shows `shows` shows after a byte: 0x08 takes its last character away,
any other byte is one more character, a line-break among them (R136). -/
def typed (shows : List Byte) (b : Byte) : List Byte :=
  if b = 0x08 then shows.dropLast else shows ++ [b]

/-- What a LIVE_TEXT screen shows after bytes of a FIFO have been sent to it. -/
def screen (shows : List Byte) (bytes : List FifoByte) : List Byte :=
  (bytes.map (·.byte)).foldl typed shows

/-- The upkeep operation's claim at the gate of slot `n` is gone, taken or waiting (R72, R177). -/
def claimRemoved (s : State) (n : SlotNo) : State :=
  match (s.gate n).holder with
  | some .upkeep => released (upkeepOver s) n
  | h => (upkeepOver s).withGate n ⟨h, (s.gate n).waiting.filter fun c => decide (c ≠ .upkeep)⟩

/-- A restart in progress, the waiting frames and responses discarded, one that a read has fixed on among
them (R177, steps 1 to 3; R179). -/
def restarting (s : State) (joined : Nat) : State :=
  (s.withSpi (fixedDiscarded .responseRead s.spi)).withCp
    { s.cp with queue := [], responses := [], restarts := joined }

end Sys2Proof.Rules

section

open Sys2Proof Sys2Proof.Machine Sys2Proof.Rules

/-! ### Realtime feed channels (chapter 8) -/

open Classical in
/-- R134, R140, R141, R151, R155, R156, R157: SET_CHANNEL checks channel, mode and flow, then the
state, and clamps its settings; CHANNEL_ON opens a DOWN channel with a resync of the open text, HELD
where its stopped flag is set; CHANNEL_OFF closes it in every state, and that FRXn is then measured
afresh is kept by clearing the break it had seen; CHANNEL_INFO returns it as it stands. That a set
stopped flag reads 1 and a clear one 0 is the model's choice (notes/assumptions/17.md). -/
def Obligations.ChannelIsSetOpenedClosedAndRead : Prop :=
  (∀ (s : State) (v m f st ka : Byte) (d r : BitVec 16), Ready s →
    (3 < v.toNat ∨ 2 < m.toNat ∨ 2 < f.toNat →
      exec (.setChannel v m f d r st ka) s = .next (answered s .badArg 0x2A [])) ∧
    ∀ (n : ChanNo) (mode : ChanMode) (flow : FlowSetting), v.toNat = n.val →
      [(0, ChanMode.live), (1, .framed), (2, .final)].lookup m.toNat = some mode →
      [(0, FlowSetting.none), (1, .xonxoff), (2, .line)].lookup f.toNat = some flow →
      exec (.setChannel v m f d r st ka) s = .next
        (if (s.chan n).state ≠ .down then answered s .badState 0x2A []
        else answered (s.withChan n { s.chan n with settings :=
          { mode := mode, flow := flow
            divisor := if d.toNat = 0 then 1 else d.toNat
            resume := if 512 < r.toNat then 512 else r.toNat
            stallLimit := if 120 < st.toNat then 120 else st.toNat
            keepalive := if 60 < ka.toNat then 60 else ka.toNat } }) .done 0x2A [])) ∧
  ∀ (s : State) (v : Byte), Ready s →
    (3 < v.toNat → exec (.channelOn v) s = .next (answered s .badArg 0x2B []) ∧
      exec (.channelOff v) s = .next (answered s .badArg 0x2C []) ∧
      exec (.channelInfo v) s = .next (answered s .badArg 0x2D [])) ∧
    ∀ n : ChanNo, v.toNat = n.val → ∀ c, c = s.chan n →
      exec (.channelOn v) s = .next
        (if c.state ≠ .down then answered s .badState 0x2B []
        else answered (s.withChan n { started (openTextOf s.te.window)
            (if c.settings.flow = .line then c.fclrHigh else false) c with breakSeen := false })
          .done 0x2B []) ∧
      exec (.channelOff v) s = .next
        (if c.state = .down then answered s .done 0x2C []
        else answered (s.withChan n { c with
          fifo := [], shown := 0, trimmable := 0, stopped := false, stall := none, keep := none
          state := .down, breakSeen := false }) .done 0x2C []) ∧
      exec (.channelInfo v) s = .next (answered s .done 0x2D
        (([match c.state with
          | .down => 0
          | .sending => 1
          | .held => 2
          | .lapsed => 3] : List Byte) ++ bytesOf16 (BitVec.ofNat 16 c.fifo.length) ++
          bytesOf16 (BitVec.ofNat 16 c.shown) ++ bytesOf16 (BitVec.ofNat 16 c.trimmable) ++
          [if c.stopped then 1 else 0]))

/-- R135, R136, R138, R141, R151, R154: the head byte starts on the wire, a start bit before its data bits
and a stop bit after them, the least significant first, where the channel is SENDING or LAPSED, not
stopped, and no byte is in progress: it leaves the FIFO, T is held to the characters left, the
keepalive timer reloads, and a LAPSED channel tests its recovery. A byte that completes
frees the wire. A running keepalive timer that expires queues the keepalive sequence into the empty
FIFO of a SENDING channel, and reloads in every case. -/
def Obligations.TransmitterSendsTheHeadByte : Prop :=
  ∀ (s : State) (n : ChanNo) (c : Channel), c = s.chan n →
    (∀ b rest, c.fifo = b :: rest → (c.state = .sending ∨ c.state = .lapsed) → c.stopped = false →
      c.wire = none → exec (.transmitByte n) s = .next (s.withChan n
        (recoveryTested (openTextOf s.te.window) { c with
          fifo := rest
          wire := some (1#1 ++ b.byte ++ 0#1)
          trimmable := min c.trimmable (rest.filter (·.char)).length
          keep := keepLoaded c }))) ∧
    (c.fifo = [] ∨ c.state = .down ∨ c.state = .held ∨ c.stopped = true ∨ c.wire.isSome = true →
      exec (.transmitByte n) s = .next s) ∧
    exec (.byteComplete n) s = .next (s.withChan n { c with wire := none }) ∧
    (c.keep = none → exec (.keepaliveTimerExpiry n) s = .next s) ∧
    (c.keep.isSome = true → exec (.keepaliveTimerExpiry n) s = .next (s.withChan n { c with
      fifo := if c.state = .sending ∧ c.fifo = [] then controls [0x1E, 0x4B] else c.fifo
      keep := keepLoaded c }))

/-- R135, R140, R147, R148, R149, R150, R151, R152, R153: what the receive line, FCLRn and the stall timer do
to a channel: a byte is received between a start bit and a stop bit; flow control by its setting, a
refresh of an open revising channel, a break once until the line has returned to mark, a stall of a
HELD channel. A lapse by break or stall flushes the FIFO and, on entry, sets the channel's notice. In
DOWN nothing is acted on. -/
def Obligations.EquipmentStopsReleasesAndLapsesAChannel : Prop :=
  ∀ (s : State) (n : ChanNo) (c : Channel) (text : List Byte), c = s.chan n →
    text = openTextOf s.te.window →
    let received (b : Byte) : Instr := .inboundByte n (b ++ 0#1) true
    (∀ sampled stopBit, stopBit = false ∨ sampled.getLsbD 0 = true ∨ c.state = .down →
      exec (.inboundByte n sampled stopBit) s = .next s) ∧
    (c.state ≠ .down →
      (opened c → revises c →
        exec (received 0x12) s = .next (s.withChan n (resynced text { c with fifo := [] }))) ∧
      (¬opened c ∨ ¬revises c → exec (received 0x12) s = .next s) ∧
      (c.settings.flow = .xonxoff →
        exec (received 0x13) s = .next (s.withChan n (stoppedNow c)) ∧
        exec (received 0x11) s = .next (s.withChan n (releasedNow text c))) ∧
      (∀ b, b ≠ 0x12 → (c.settings.flow ≠ .xonxoff ∨ (b ≠ 0x11 ∧ b ≠ 0x13)) →
        exec (received b) s = .next s)) ∧
    (∀ high, exec (.fclrChange n high) s = .next (s.withChan n
      (if c.state = .down ∨ c.settings.flow ≠ .line then { c with fclrHigh := high }
      else if high then stoppedNow { c with fclrHigh := high }
      else releasedNow text { c with fclrHigh := high }))) ∧
    (c.state = .down ∨ c.breakSeen = true → exec (.breakReceived n) s = .next s) ∧
    (c.state ≠ .down → c.breakSeen = false →
      let cut := s.withChan n (recoveryTested text (lapsed { c with
        breakSeen := true
        fifo := []
        stopped := if c.settings.flow = .xonxoff then false else c.stopped }))
      (opened c → exec (.breakReceived n) s = .next (noticed cut (BitVec.twoPow 8 (4 + n.val)))) ∧
      (c.state = .lapsed → exec (.breakReceived n) s = .next cut)) ∧
    exec (.returnToMark n) s = .next (s.withChan n { c with breakSeen := false }) ∧
    (c.state = .held → c.stall.isSome = true → exec (.stallTimerExpiry n) s = .next
      (noticed (s.withChan n (recoveryTested text (lapsed { c with fifo := [] })))
        (BitVec.twoPow 8 (4 + n.val)))) ∧
    (c.state ≠ .held ∨ c.stall = none → exec (.stallTimerExpiry n) s = .next s)

/-- R142, R143, R144, R145, R146, R147: an open channel takes an update whole or lapses: in a revising
mode the chunks come off D, then the correction trims, erases and appends; in FINAL_TEXT the chunks
are queued and the correction is not used. A DOWN or LAPSED channel takes none. After the updates of
a change every LAPSED channel tests its recovery, and a channel that lapsed on the change sets its
notice; nothing else changes. -/
def Obligations.UpdateIsTakenWholeOrTheChannelLapses : Prop :=
  (∀ (c : Channel) (u : Update),
    (¬opened c → c.applyUpdate u = c) ∧
    (opened c → revises c → ∀ d e t erase, d = chunksOff u.chunks c → e = d.shown - u.kept →
      t = min e d.trimmable → erase = controls (eraseOf c.settings.mode (e - t)) →
      (erase.length + u.fresh.length ≤ 1024 - c.fifo.length + t →
        c.applyUpdate u = { c with
          fifo := c.fifo.take (c.fifo.length - t) ++ erase ++ characters u.fresh
          shown := u.kept + u.fresh.length
          trimmable := (if 0 < e - t then 0 else d.trimmable - t) + u.fresh.length }) ∧
      (1024 - c.fifo.length + t < erase.length + u.fresh.length →
        c.applyUpdate u = lapsed c)) ∧
    (opened c → c.settings.mode = .final → ∀ bytes : List FifoByte,
      bytes = u.chunks.flatten.flatMap (fun b =>
        if b = 0x0A then [⟨0x0D, false⟩, ⟨0x0A, true⟩] else [⟨b, true⟩]) →
      (bytes.length ≤ 1024 - c.fifo.length → c.applyUpdate u = { c with fifo := c.fifo ++ bytes }) ∧
      (1024 - c.fifo.length < bytes.length → c.applyUpdate u = lapsed c))) ∧
  ∀ (s : State) (us : List Update), ∃ t, s.sendUpdates us = t ∧
    t = (s.withChans t.chans).withCp { s.cp with notices := t.cp.notices } ∧
    (∀ n, t.chan n = recoveryTested (openTextOf s.te.window) (us.foldl Channel.applyUpdate (s.chan n))) ∧
    ∀ i : Fin 8, t.cp.notices.getLsbD i.val = true ↔ s.cp.notices.getLsbD i.val = true ∨
      ∃ n : ChanNo, i.val = 4 + n.val ∧ opened (s.chan n) ∧
        (us.foldl Channel.applyUpdate (s.chan n)).state = .lapsed

/-- R129, R130, R137, R141, R143, R144: on a LIVE_TEXT channel whose screen, once its FIFO is sent, ends
in settled chunks and then the D characters of open text it displays, the last T of them still the
last bytes of the FIFO, an update that fits leaves it so that its screen ends in the chunks, the
characters the update keeps and the new ones, with D and T true of them: no character before the kept
ones is touched, whatever bytes a trim spared. -/
def Obligations.CorrectionShowsTheNewText : Prop :=
  ∀ (c : Channel) (u : Update) (shows before text : List Byte),
    c.settings.mode = .live → opened c → (∀ b ∈ u.fresh, b ≠ 0x08) →
    (let settled := u.chunks.flatten;
      screen shows c.fifo = before ++ settled ++ text ∧ c.shown = settled.length + text.length) →
    c.trimmable ≤ c.shown → c.trimmable ≤ c.fifo.length → u.kept ≤ text.length →
    (∀ x ∈ c.fifo.drop (c.fifo.length - c.trimmable), x.char = true ∧ x.byte ≠ 0x08) →
    (c.applyUpdate u).state ≠ .lapsed →
    ∃ c', c.applyUpdate u = c' ∧
      screen shows c'.fifo = before ++ u.chunks.flatten ++ text.take u.kept ++ u.fresh ∧
      c'.shown = u.kept + u.fresh.length ∧ c'.trimmable ≤ c'.shown ∧ c'.trimmable ≤ c'.fifo.length ∧
      c'.fifo.length ≤ max c.fifo.length 1024 ∧
      ∀ x ∈ c'.fifo.drop (c'.fifo.length - c'.trimmable), x.char = true ∧ x.byte ≠ 0x08

/-! ### Restart, notices and resets (chapter 9) -/

/-- R72, R177, R178: a RESTART drops the waiting frames and the responses. With no upkeep operation, or
with one whose claim is removed or whose FORMAT is abandoned, its command ends without a response and
the restart takes effect at once; an entry operation that holds its gate goes on. A RESTART joins the
restart in progress, up to 8 in all, and with no command in execution takes effect at once; a further
one is dropped. That the 8 frames R179 speaks of count the one that began the restart is read from the
guide (notes/assumptions/11.md). -/
def Obligations.RestartIsTakenAtOnce : Prop :=
  ∀ s : State,
    (s.cp.restarts = 0 → s.mp.upkeep = none →
      exec .restart s = exec .restartTakesEffect (silenced (restarting s 1))) ∧
    (∀ n k, s.cp.restarts = 0 → s.mp.upkeep = some (.format n k) → gateServed s n →
      .upkeep ∉ (s.gate n).waiting ∨ (s.gate n).holder ≠ some .upkeep →
      exec .restart s = exec .restartTakesEffect (silenced (restarting (claimRemoved
        (s.withSlot n (laidBare (s.slot n) .unformatted (s.slot n).base (s.slot n).size)) n) 1))) ∧
    (∀ op, s.cp.restarts = 0 → s.mp.upkeep = some op → (∀ n k, op ≠ .format n k) →
      gateServed s op.slot → (s.gate op.slot).holder ≠ some .upkeep →
      exec .restart s = exec .restartTakesEffect (silenced (restarting (claimRemoved s op.slot) 1))) ∧
    (∀ e, s.cp.restarts = 0 → s.mp.upkeep = some (.entry e) →
      (s.gate e.slot).holder = some .upkeep → s.cp.executing.isSome = true →
      exec .restart s = .next (restarting s 1)) ∧
    (1 ≤ s.cp.restarts → s.cp.restarts < 8 →
      (s.cp.executing.isSome = true →
        exec .restart s = .next (restarting s (s.cp.restarts + 1))) ∧
      (s.cp.executing = none →
        exec .restart s = exec .restartTakesEffect (restarting s (s.cp.restarts + 1)))) ∧
    (8 ≤ s.cp.restarts → exec .restart s = .next (noticed s 0x08))

/-- R19, R68, R72, R95, R133, R140, R158, R171, R178: once no command is left in execution, a restart
withdraws every probe, empties the stroke queue, the window and the reports, makes the keys that are
down carried, clears the TE's flags, work and run setting, starts every channel that is not DOWN
afresh with an empty open text, and queues one DONE for each RESTART joined. A report that a read has
fixed on is no longer in its queue. All else is kept. -/
def Obligations.RestartTakesEffectInEveryBlock : Prop :=
  ∀ s : State,
    (s.cp.restarts = 0 ∨ s.cp.executing.isSome = true →
      exec .restartTakesEffect s = .next s) ∧
    (s.cp.restarts ≠ 0 → s.cp.executing = none → ∃ t, exec .restartTakesEffect s = .next t ∧
      t = { s with
        ksu := { s.ksu with
          assembly := .idle
          strokeSet := 0
          chordStart := none
          firstRelease := none
          cutFlag := false
          carried := t.ksu.carried }
        strokeQueue := []
        mp := (probesWithdrawn s ((List.range 32).map (Fin.ofNat 32))).mp
        te := { s.te with
          state := .stopped
          run := false
          window := []
          settledFmt := ⟨true, false, false, .upper, none⟩
          settleTimer := none
          settleDue := false
          rescanPending := false
          table := none
          replay := none }
        chans := t.chans
        spi := fixedDiscarded .reportRead s.spi
        cp := { s.cp with
          reports := []
          responses := s.cp.responses ++ List.replicate s.cp.restarts ⟨.done, 0x2E, []⟩
          restarts := 0 } } ∧
      (∀ k, hasKey t.ksu.carried k = true ↔
        isDown s.ksu k ∧ hasKey s.ksu.hostMask k = false ∧ hasKey s.ksu.stuckMask k = false) ∧
      ∀ n, ((s.chan n).state = .down → t.chan n = s.chan n) ∧
        ((s.chan n).state ≠ .down → t.chan n = started []
          (match (s.chan n).settings.flow with
            | .none => false
            | .xonxoff => (s.chan n).stopped
            | .line => (s.chan n).fclrHigh) (s.chan n)))

/-- R174: CLEAR_NOTICES accepts every mask, answers DONE with the notices as they stood, and clears
those the mask names. A notice set before it is shown set and cleared; one set after it is set after
it, COMMAND_DROPPED among them. -/
def Obligations.NoticesAreReadAndCleared : Prop :=
  (∀ (s : State) (mask event : Byte), Ready s →
    exec (.clearNotices mask) s = .next
      (answered (s.withCp { s.cp with notices := s.cp.notices &&& ~~~mask }) .done 0x2F
        [s.cp.notices]) ∧
    ∀ i : Fin 8, mask.getLsbD i.val = true → event.getLsbD i.val = true →
      (∃ t, exec (.clearNotices mask) (noticed s event) = .next t ∧
        t.cp.notices.getLsbD i.val = false ∧
        ∃ data : Byte, t.cp.responses = s.cp.responses ++ [⟨.done, 0x2F, [data]⟩] ∧
          data.getLsbD i.val = true) ∧
      ∃ t, exec (.clearNotices mask) s = .next t ∧ t.cp.notices.getLsbD i.val = false ∧
        (noticed t event).cp.notices.getLsbD i.val = true) ∧
  ∀ (s : State) (bytes : List Byte) (extra : Fin 8), s.spi = .idle → 4 ≤ s.cp.queue.length →
    bytes ≠ [] → bytes ≠ [0x01, 0x2E] →
    ∃ t, exec (.commandWrite (.whole ⟨bytes, extra⟩)) s = .next t ∧
      t.cp.notices = s.cp.notices ||| 0x08

/-- R20, R36, R73, R96, R108, R133, R134, R159, R160, R180: a hard reset gives every register its
hard-reset value, from every state; a transaction in progress is ended, and what is selected is
ignored until the next fall of SPSEL. That the pins keep their levels, with a debounce timer started on a line
that is low, and the SDRAM its contents, is the model's reading (notes/assumptions/3.md, 13.md). -/
def Obligations.HardResetGivesEveryResetValue : Prop :=
  ∀ s : State, ∃ t, exec .hardReset s = .next t ∧
    t.ksu = { t.ksu with
      line := s.ksu.line
      accepted := BitVec.allOnes 23
      polarity := 0, hostMask := 0, stuckMask := 0
      debounceTime := 10, ghostMin := 8, stuckLimit := 3000
      stacking := true
      assembly := .idle, strokeSet := 0, chordStart := none, firstRelease := none
      cutFlag := false, carried := 0
      ghostCount := 0, lostCount := 0
      clock := 0 } ∧
    (∀ k : Key, t.ksu.hold[k] = none ∧
      t.ksu.debounce[k] = if hasKey s.ksu.line k then none else some 10) ∧
    t.strokeQueue = [] ∧ t.dict.memMiB = 0 ∧
    (∀ n, t.slot n = ⟨.vacant, .shut, false, 0, 0, 0, 0, 0, none, n⟩) ∧
    t.mp.share = 3 ∧ t.mp.lookupRun = 0 ∧ t.mp.probes = [] ∧ t.mp.upkeep = none ∧
    (∀ n, t.gate n = ⟨none, []⟩) ∧
    t.te = ⟨.stopped, false, [], ⟨true, false, false, .upper, none⟩, 1500, none, false, false, none,
      none⟩ ∧
    (∀ n : Fin 16, t.speakers[n] = []) ∧
    (∀ n, t.chan n = ⟨⟨.live, .none, 192, 256, 30, 5⟩, .down, [], 0, 0, false, none, none, none,
      (s.chan n).fclrHigh, false⟩) ∧
    t.cp = ⟨[], none, [], [], 0, false, false, 0, 1, 0⟩ ∧
    (s.spi = .idle → t.spi = .idle) ∧ (s.spi ≠ .idle → t.spi = .ignored) ∧
    t.sdram = s.sdram ∧ t.pending = s.pending

end

/-! ### Invariants -/

namespace Sys2Proof.Rules

open Sys2Proof Sys2Proof.Machine

/-- The SDRAM's contents are in canonical form, and L is held between 0 and N, which is 1, 3, 7 or 15
(R61, R69). -/
structure storeInOrder (s : State) : Prop where
  canonical : Memory.wf s.sdram = true
  share : s.mp.share ∈ [1, 3, 7, 15]
  run : s.mp.lookupRun ≤ s.mp.share

/-- The queues hold no more than their places, a command in execution is an upkeep operation's, and
there is room for its response; no response waits while a restart is in progress; a record that a read
has fixed on, and that is still queued, is the oldest of its queue (R16, R162 to R167, R169, R171, R176,
R177, R179). -/
structure queuesInBounds (s : State) : Prop where
  frames : s.cp.queue.length ≤ 4
  responses : s.cp.responses.length ≤ 8
  strokes : s.strokeQueue.length ≤ 16
  restarts : s.cp.restarts ≤ 8
  trigger : 1 ≤ s.cp.trigger ∧ s.cp.trigger ≤ 64
  ghosts : s.ksu.ghostCount ≤ 65535
  lost : s.ksu.lostCount ≤ 65535
  operation : s.cp.executing.isSome = s.mp.upkeep.isSome
  room : s.cp.executing.isSome = true → s.cp.responses.length ≤ 7
  discarded : s.cp.restarts ≠ 0 → s.cp.responses = []
  fixed : ∀ t, s.spi = .busy t → t.queued = true →
    (t.kind = some .responseRead ∧ (s.cp.responses.map responseBytes).head? = some t.frame) ∨
    (t.kind = some .reportRead ∧ (s.cp.reports.map reportBytes).head? = some t.frame)

/-- A window of one of the sizes of R23, aligned to its size, within the declared memory. -/
def windowLegal (s : State) (d : Slot) : Prop :=
  (∃ e, 16 ≤ e ∧ e ≤ 24 ∧ d.size = 2 ^ e) ∧ d.size ∣ d.base ∧
    d.base + d.size ≤ s.dict.memMiB * 2 ^ 20

/-- A walk keeps to its window, which lies in the declared memory (R61). -/
def walkInside (s : State) (w : Walk) : Prop :=
  w.base + w.size ≤ s.dict.memMiB * 2 ^ 20 ∧ ∀ c, w.access = some c → c < w.size / 32

/-- The descriptors are as 2.2 to 2.8 keep them; probes wait into consulted slots alone; every walk, of a
TAKEN probe or of an entry operation, keeps to its window; and the slots that a FETCH_ENTRY with ANY has
still to search are consulted (R58, R61, R64, R67). -/
structure slotsInOrder (s : State) : Prop where
  memory : s.dict.memMiB ∈ [0, 8, 16, 32, 64]
  shut : ∀ n, (s.slot n).state ≠ .ready → (s.slot n).access = .shut ∧ (s.slot n).lock = false
  vacant : ∀ n, (s.slot n).state = .vacant →
    (s.slot n).base = 0 ∧ (s.slot n).size = 0 ∧ (s.slot n).buckets = 0
  window : ∀ n, (s.slot n).state ≠ .vacant → windowLegal s (s.slot n)
  apart : ∀ a b, a ≠ b → ¬shareByte (s.slot a).base (s.slot a).size (s.slot b).base (s.slot b).size
  buckets : ∀ n, (s.slot n).state = .formatting ∨ (s.slot n).state = .ready →
    (∃ e, 10 ≤ e ∧ e ≤ 18 ∧ (s.slot n).buckets = 2 ^ e) ∧
      4 * (4 * (s.slot n).buckets) ≤ (s.slot n).size
  ranks : ranksDiffer s
  formatting : ∀ n k, s.mp.upkeep = some (.format n k) → (s.slot n).state = .formatting
  releasing : ∀ n, s.mp.upkeep = some (.release n) →
    (s.slot n).state ≠ .formatting ∧ (s.slot n).access = .shut ∧ (s.slot n).lock = false
  waiting : ∀ p ∈ s.mp.probes, p.walk = none →
    (s.slot p.slot).access = .lookup ∨ (s.slot p.slot).access = .full
  walking : ∀ p ∈ s.mp.probes, ∀ w, p.walk = some w →
    (s.slot p.slot).state ≠ .vacant ∧ walkInside s w
  operating : ∀ e, s.mp.upkeep = some (.entry e) → (s.slot e.slot).state = .ready ∧
    e.walk.base = (s.slot e.slot).base ∧ e.walk.size = (s.slot e.slot).size ∧ walkInside s e.walk ∧
    ∀ n ∈ e.laterSlots, (s.slot n).access = .lookup ∨ (s.slot n).access = .full

/-- A record of 1 to 8 strokes and at most 200 characters (R80, R107). -/
def recordSound (r : RecordData) : Prop :=
  1 ≤ r.outline.length ∧ r.outline.length ≤ 8 ∧ r.text.length ≤ 200

/-- A displaced list carries exactly `strokes`, its records joined into one chain of format states from
`f` on, and so does every displaced list nested in it (R81, R98). -/
def displacedSound : Displaced → List Stroke → Fmt → Prop
  | .nil, strokes, _ => strokes = []
  | .cons r displaced rest, strokes, f =>
      r.before = f ∧ recordSound r ∧ displacedSound displaced r.outline.dropLast f ∧
        ∃ left, strokes = r.outline ++ left ∧ displacedSound rest left r.after

/-- The records of a window, joined into one chain of format states from `f` on; each one's displaced
records carry its strokes but the last (R80, R81, R98). -/
def windowSound : Fmt → List Record → Prop
  | _, [] => True
  | f, r :: rest =>
      r.data.before = f ∧ recordSound r.data ∧
        displacedSound r.displaced r.data.outline.dropLast f ∧ windowSound r.data.after rest

/-- The TE is RESOLVING or RESCANNING (R74). -/
def teBusy (s : State) : Prop := s.te.state = .resolving ∨ s.te.state = .rescanning

/-- The window keeps to its limits and its chain, the report queue to its places with those reserved
for the TE's work, and the probe table and the replay to that work (R78, R80, R81, R82, R83, R98,
R113, R117, R126). -/
structure windowInOrder (s : State) : Prop where
  chain : windowSound s.te.settledFmt s.te.window
  strokes : (strokesOf s.te.window).length ≤ 16
  text : (openTextOf s.te.window).length ≤ 480
  reports : s.cp.reports.length ≤ 64
  reserved : teBusy s → s.cp.reports.length + 16 ≤ 64
  table : teBusy s ↔ s.te.table.isSome = true
  replay : s.te.state = .rescanning ↔ s.te.replay.isSome = true
  pairs : ∀ t w, s.te.table = some t → w = (s.te.replay.map (·.window)).getD s.te.window →
    ∀ p ∈ t.pairs, p.cand ≤ maxCandidate w ∧
      p.outline = strokesOf (w.drop (w.length - p.cand)) ++ [t.stroke]
  replayed : ∀ t r, s.te.table = some t → s.te.replay = some r →
    windowSound s.te.settledFmt r.window ∧
      strokesOf r.window ++ t.stroke :: r.remaining = strokesOf s.te.window

/-- A channel keeps to its FIFO and its settings' ranges, is HELD exactly when open and stopped, and
counts in D the open text where it is open and revising and 0 elsewhere, T of them, all character
bytes, at the tail of the FIFO (R134, R137, R139, R140, R141). -/
structure channelInOrder (text : List Byte) (c : Channel) : Prop where
  settings : 1 ≤ c.settings.divisor ∧ c.settings.divisor ≤ 65535 ∧ c.settings.resume ≤ 512 ∧
    c.settings.stallLimit ≤ 120 ∧ c.settings.keepalive ≤ 60
  level : c.fifo.length ≤ 1024
  down : c.state = .down →
    c.fifo = [] ∧ c.stopped = false ∧ c.stall = none ∧ c.keep = none ∧ c.breakSeen = false
  held : opened c → (c.state = .held ↔ c.stopped = true)
  stall : c.stall.isSome = true → c.state = .held
  shown : opened c → revises c → c.shown = text.length
  hidden : ¬opened c ∨ ¬revises c → c.shown = 0
  trimmable : c.trimmable ≤ c.shown ∧ c.trimmable ≤ c.fifo.length
  characters : ∀ x ∈ c.fifo.drop (c.fifo.length - c.trimmable), x.char = true

/-- Every invariant holds. -/
structure inOrder (s : State) : Prop where
  keys : assemblyInOrder s.ksu
  store : storeInOrder s
  queues : queuesInBounds s
  gates : gatesInOrder s
  slots : slotsInOrder s
  window : windowInOrder s
  channels : ∀ n, channelInOrder (openTextOf s.te.window) (s.chan n)

end Sys2Proof.Rules

section

open Sys2Proof Sys2Proof.Machine Sys2Proof.Rules

/-! ### Invariants that every step keeps, from every state that meets them -/

/-- R2, R6, R7, R8, R9, R10, R12, R14, R19, R20: every step keeps stroke assembly as its state tells, with
its times and stroke set absent in IDLE and some stroke key down otherwise; the carried set and the
hold timers with the keys that are down and in no mask; the stuck mask with keys that are down; the
debounce timers with the lines that differ. That a carried key is no stroke key still down is read
from R3 (notes/assumptions/8.md). -/
def Obligations.StrokeAssemblyStaysInOrder : Prop :=
  ∀ s t : State, assemblyInOrder s.ksu → step s = .next t → assemblyInOrder t.ksu

/-- R61, R69, R70: every step keeps the SDRAM's canonical form, and L at no more than N. -/
def Obligations.StoreStaysInOrder : Prop :=
  ∀ s t : State, storeInOrder s → step s = .next t → storeInOrder t

/-- R16, R162, R163, R164, R167, R169, R171, R176, R177, R179: every step keeps the queues within their
places, room for the response of the command in execution, and what a read has fixed on, while it is
queued, at the head of its queue. -/
def Obligations.QueuesStayInBounds : Prop :=
  ∀ s t : State, queuesInBounds s → step s = .next t → queuesInBounds t

/-- R63, R65, R66, R68: every step keeps the gates' holders and waiting lists true to the outstanding
probes and the upkeep operation, and no claim waits at a gate without a holder. -/
def Obligations.GatesStayTrueToTheirClaims : Prop :=
  ∀ s t : State, queuesInBounds s → gatesInOrder s → step s = .next t → gatesInOrder t

/-- R21, R22, R23, R24, R27, R28, R31, R32, R33, R58, R61: every step keeps the descriptors legal: a slot
that is not READY is SHUT and not locked, the windows lie in the declared memory and share no byte, the
ranks differ, probes wait into consulted slots alone, a FETCH_ENTRY with ANY has consulted slots alone
still to search, and every walk keeps to its window. That a walk
keeps the window it was taken with, and ends where a link leads out of it, is the model's choice
(notes/assumptions/16.md). -/
def Obligations.SlotsStayLegalAndApart : Prop :=
  ∀ s t : State, queuesInBounds s → gatesInOrder s → slotsInOrder s → step s = .next t →
    slotsInOrder t

/-- R78, R80, R81, R98, R107, R113, R117, R126: every step keeps the window within 16 strokes and 480
characters and its format states in one chain, every displaced list, however deep, with exactly the
strokes it displaced, and the report queue within its 64 places. -/
def Obligations.WindowStaysInOneChain : Prop :=
  ∀ s t : State, windowInOrder s → step s = .next t → windowInOrder t

/-- R137, R139, R140, R141, R151: every step keeps each channel's FIFO within 1,024 bytes, D the length of
the open text in an open revising channel, and T the characters at the tail of its FIFO. -/
def Obligations.ChannelsKeepCountOfTheOpenText : Prop :=
  ∀ s t : State, windowInOrder s → (∀ n, channelInOrder (openTextOf s.te.window) (s.chan n)) →
    step s = .next t → ∀ n, channelInOrder (openTextOf t.te.window) (t.chan n)

/-- R180: the state after reset meets every invariant, and so does the state a hard reset leaves, from
every state whose SDRAM is in canonical form. -/
def Obligations.ResetMeetsEveryInvariant : Prop :=
  inOrder State.reset ∧
  ∀ s : State, Memory.wf s.sdram = true → ∃ t, exec .hardReset s = .next t ∧ inOrder t

end
end

