-- ==== Sys2Proof/Laws/State.lean ====
section
/-!
SUPPORT. Reading a block after another has been replaced: one lemma per block and replacement, and
the reading of one slot, gate or channel after one has been replaced.
-/

namespace Sys2Proof.Machine

/-! #### `withKsu` -/

@[simp] theorem State.withKsu_ksu (s : State) (v : Ksu) : (s.withKsu v).ksu = v := rfl
@[simp] theorem State.withKsu_strokeQueue (s : State) (v : Ksu) : (s.withKsu v).strokeQueue = s.strokeQueue := rfl
@[simp] theorem State.withKsu_dict (s : State) (v : Ksu) : (s.withKsu v).dict = s.dict := rfl
@[simp] theorem State.withKsu_sdram (s : State) (v : Ksu) : (s.withKsu v).sdram = s.sdram := rfl
@[simp] theorem State.withKsu_mp (s : State) (v : Ksu) : (s.withKsu v).mp = s.mp := rfl
@[simp] theorem State.withKsu_te (s : State) (v : Ksu) : (s.withKsu v).te = s.te := rfl
@[simp] theorem State.withKsu_speakers (s : State) (v : Ksu) : (s.withKsu v).speakers = s.speakers := rfl
@[simp] theorem State.withKsu_chans (s : State) (v : Ksu) : (s.withKsu v).chans = s.chans := rfl
@[simp] theorem State.withKsu_cp (s : State) (v : Ksu) : (s.withKsu v).cp = s.cp := rfl
@[simp] theorem State.withKsu_spi (s : State) (v : Ksu) : (s.withKsu v).spi = s.spi := rfl
@[simp] theorem State.withKsu_spdo (s : State) (v : Ksu) : (s.withKsu v).spdo = s.spdo := rfl
@[simp] theorem State.withKsu_pending (s : State) (v : Ksu) : (s.withKsu v).pending = s.pending := rfl
@[simp] theorem State.withKsu_self (s : State) : s.withKsu s.ksu = s := rfl
@[simp] theorem State.withKsu_withKsu (s : State) (v w : Ksu) :
    (s.withKsu v).withKsu w = s.withKsu w := rfl

/-! #### `withStrokeQueue` -/

@[simp] theorem State.withStrokeQueue_ksu (s : State) (v : List StrokeRecord) : (s.withStrokeQueue v).ksu = s.ksu := rfl
@[simp] theorem State.withStrokeQueue_strokeQueue (s : State) (v : List StrokeRecord) : (s.withStrokeQueue v).strokeQueue = v := rfl
@[simp] theorem State.withStrokeQueue_dict (s : State) (v : List StrokeRecord) : (s.withStrokeQueue v).dict = s.dict := rfl
@[simp] theorem State.withStrokeQueue_sdram (s : State) (v : List StrokeRecord) : (s.withStrokeQueue v).sdram = s.sdram := rfl
@[simp] theorem State.withStrokeQueue_mp (s : State) (v : List StrokeRecord) : (s.withStrokeQueue v).mp = s.mp := rfl
@[simp] theorem State.withStrokeQueue_te (s : State) (v : List StrokeRecord) : (s.withStrokeQueue v).te = s.te := rfl
@[simp] theorem State.withStrokeQueue_speakers (s : State) (v : List StrokeRecord) : (s.withStrokeQueue v).speakers = s.speakers := rfl
@[simp] theorem State.withStrokeQueue_chans (s : State) (v : List StrokeRecord) : (s.withStrokeQueue v).chans = s.chans := rfl
@[simp] theorem State.withStrokeQueue_cp (s : State) (v : List StrokeRecord) : (s.withStrokeQueue v).cp = s.cp := rfl
@[simp] theorem State.withStrokeQueue_spi (s : State) (v : List StrokeRecord) : (s.withStrokeQueue v).spi = s.spi := rfl
@[simp] theorem State.withStrokeQueue_spdo (s : State) (v : List StrokeRecord) : (s.withStrokeQueue v).spdo = s.spdo := rfl
@[simp] theorem State.withStrokeQueue_pending (s : State) (v : List StrokeRecord) : (s.withStrokeQueue v).pending = s.pending := rfl
@[simp] theorem State.withStrokeQueue_self (s : State) : s.withStrokeQueue s.strokeQueue = s := rfl
@[simp] theorem State.withStrokeQueue_withStrokeQueue (s : State) (v w : List StrokeRecord) :
    (s.withStrokeQueue v).withStrokeQueue w = s.withStrokeQueue w := rfl

/-! #### `withDict` -/

@[simp] theorem State.withDict_ksu (s : State) (v : Dict) : (s.withDict v).ksu = s.ksu := rfl
@[simp] theorem State.withDict_strokeQueue (s : State) (v : Dict) : (s.withDict v).strokeQueue = s.strokeQueue := rfl
@[simp] theorem State.withDict_dict (s : State) (v : Dict) : (s.withDict v).dict = v := rfl
@[simp] theorem State.withDict_sdram (s : State) (v : Dict) : (s.withDict v).sdram = s.sdram := rfl
@[simp] theorem State.withDict_mp (s : State) (v : Dict) : (s.withDict v).mp = s.mp := rfl
@[simp] theorem State.withDict_te (s : State) (v : Dict) : (s.withDict v).te = s.te := rfl
@[simp] theorem State.withDict_speakers (s : State) (v : Dict) : (s.withDict v).speakers = s.speakers := rfl
@[simp] theorem State.withDict_chans (s : State) (v : Dict) : (s.withDict v).chans = s.chans := rfl
@[simp] theorem State.withDict_cp (s : State) (v : Dict) : (s.withDict v).cp = s.cp := rfl
@[simp] theorem State.withDict_spi (s : State) (v : Dict) : (s.withDict v).spi = s.spi := rfl
@[simp] theorem State.withDict_spdo (s : State) (v : Dict) : (s.withDict v).spdo = s.spdo := rfl
@[simp] theorem State.withDict_pending (s : State) (v : Dict) : (s.withDict v).pending = s.pending := rfl
@[simp] theorem State.withDict_self (s : State) : s.withDict s.dict = s := rfl
@[simp] theorem State.withDict_withDict (s : State) (v w : Dict) :
    (s.withDict v).withDict w = s.withDict w := rfl

/-! #### `withSdram` -/

@[simp] theorem State.withSdram_ksu (s : State) (v : List Host.Cell) : (s.withSdram v).ksu = s.ksu := rfl
@[simp] theorem State.withSdram_strokeQueue (s : State) (v : List Host.Cell) : (s.withSdram v).strokeQueue = s.strokeQueue := rfl
@[simp] theorem State.withSdram_dict (s : State) (v : List Host.Cell) : (s.withSdram v).dict = s.dict := rfl
@[simp] theorem State.withSdram_sdram (s : State) (v : List Host.Cell) : (s.withSdram v).sdram = v := rfl
@[simp] theorem State.withSdram_mp (s : State) (v : List Host.Cell) : (s.withSdram v).mp = s.mp := rfl
@[simp] theorem State.withSdram_te (s : State) (v : List Host.Cell) : (s.withSdram v).te = s.te := rfl
@[simp] theorem State.withSdram_speakers (s : State) (v : List Host.Cell) : (s.withSdram v).speakers = s.speakers := rfl
@[simp] theorem State.withSdram_chans (s : State) (v : List Host.Cell) : (s.withSdram v).chans = s.chans := rfl
@[simp] theorem State.withSdram_cp (s : State) (v : List Host.Cell) : (s.withSdram v).cp = s.cp := rfl
@[simp] theorem State.withSdram_spi (s : State) (v : List Host.Cell) : (s.withSdram v).spi = s.spi := rfl
@[simp] theorem State.withSdram_spdo (s : State) (v : List Host.Cell) : (s.withSdram v).spdo = s.spdo := rfl
@[simp] theorem State.withSdram_pending (s : State) (v : List Host.Cell) : (s.withSdram v).pending = s.pending := rfl
@[simp] theorem State.withSdram_self (s : State) : s.withSdram s.sdram = s := rfl
@[simp] theorem State.withSdram_withSdram (s : State) (v w : List Host.Cell) :
    (s.withSdram v).withSdram w = s.withSdram w := rfl

/-! #### `withMp` -/

@[simp] theorem State.withMp_ksu (s : State) (v : Mp) : (s.withMp v).ksu = s.ksu := rfl
@[simp] theorem State.withMp_strokeQueue (s : State) (v : Mp) : (s.withMp v).strokeQueue = s.strokeQueue := rfl
@[simp] theorem State.withMp_dict (s : State) (v : Mp) : (s.withMp v).dict = s.dict := rfl
@[simp] theorem State.withMp_sdram (s : State) (v : Mp) : (s.withMp v).sdram = s.sdram := rfl
@[simp] theorem State.withMp_mp (s : State) (v : Mp) : (s.withMp v).mp = v := rfl
@[simp] theorem State.withMp_te (s : State) (v : Mp) : (s.withMp v).te = s.te := rfl
@[simp] theorem State.withMp_speakers (s : State) (v : Mp) : (s.withMp v).speakers = s.speakers := rfl
@[simp] theorem State.withMp_chans (s : State) (v : Mp) : (s.withMp v).chans = s.chans := rfl
@[simp] theorem State.withMp_cp (s : State) (v : Mp) : (s.withMp v).cp = s.cp := rfl
@[simp] theorem State.withMp_spi (s : State) (v : Mp) : (s.withMp v).spi = s.spi := rfl
@[simp] theorem State.withMp_spdo (s : State) (v : Mp) : (s.withMp v).spdo = s.spdo := rfl
@[simp] theorem State.withMp_pending (s : State) (v : Mp) : (s.withMp v).pending = s.pending := rfl
@[simp] theorem State.withMp_self (s : State) : s.withMp s.mp = s := rfl
@[simp] theorem State.withMp_withMp (s : State) (v w : Mp) :
    (s.withMp v).withMp w = s.withMp w := rfl

/-! #### `withTe` -/

@[simp] theorem State.withTe_ksu (s : State) (v : Te) : (s.withTe v).ksu = s.ksu := rfl
@[simp] theorem State.withTe_strokeQueue (s : State) (v : Te) : (s.withTe v).strokeQueue = s.strokeQueue := rfl
@[simp] theorem State.withTe_dict (s : State) (v : Te) : (s.withTe v).dict = s.dict := rfl
@[simp] theorem State.withTe_sdram (s : State) (v : Te) : (s.withTe v).sdram = s.sdram := rfl
@[simp] theorem State.withTe_mp (s : State) (v : Te) : (s.withTe v).mp = s.mp := rfl
@[simp] theorem State.withTe_te (s : State) (v : Te) : (s.withTe v).te = v := rfl
@[simp] theorem State.withTe_speakers (s : State) (v : Te) : (s.withTe v).speakers = s.speakers := rfl
@[simp] theorem State.withTe_chans (s : State) (v : Te) : (s.withTe v).chans = s.chans := rfl
@[simp] theorem State.withTe_cp (s : State) (v : Te) : (s.withTe v).cp = s.cp := rfl
@[simp] theorem State.withTe_spi (s : State) (v : Te) : (s.withTe v).spi = s.spi := rfl
@[simp] theorem State.withTe_spdo (s : State) (v : Te) : (s.withTe v).spdo = s.spdo := rfl
@[simp] theorem State.withTe_pending (s : State) (v : Te) : (s.withTe v).pending = s.pending := rfl
@[simp] theorem State.withTe_self (s : State) : s.withTe s.te = s := rfl
@[simp] theorem State.withTe_withTe (s : State) (v w : Te) :
    (s.withTe v).withTe w = s.withTe w := rfl

/-! #### `withSpeakers` -/

@[simp] theorem State.withSpeakers_ksu (s : State) (v : Vector (List Byte) 16) : (s.withSpeakers v).ksu = s.ksu := rfl
@[simp] theorem State.withSpeakers_strokeQueue (s : State) (v : Vector (List Byte) 16) : (s.withSpeakers v).strokeQueue = s.strokeQueue := rfl
@[simp] theorem State.withSpeakers_dict (s : State) (v : Vector (List Byte) 16) : (s.withSpeakers v).dict = s.dict := rfl
@[simp] theorem State.withSpeakers_sdram (s : State) (v : Vector (List Byte) 16) : (s.withSpeakers v).sdram = s.sdram := rfl
@[simp] theorem State.withSpeakers_mp (s : State) (v : Vector (List Byte) 16) : (s.withSpeakers v).mp = s.mp := rfl
@[simp] theorem State.withSpeakers_te (s : State) (v : Vector (List Byte) 16) : (s.withSpeakers v).te = s.te := rfl
@[simp] theorem State.withSpeakers_speakers (s : State) (v : Vector (List Byte) 16) : (s.withSpeakers v).speakers = v := rfl
@[simp] theorem State.withSpeakers_chans (s : State) (v : Vector (List Byte) 16) : (s.withSpeakers v).chans = s.chans := rfl
@[simp] theorem State.withSpeakers_cp (s : State) (v : Vector (List Byte) 16) : (s.withSpeakers v).cp = s.cp := rfl
@[simp] theorem State.withSpeakers_spi (s : State) (v : Vector (List Byte) 16) : (s.withSpeakers v).spi = s.spi := rfl
@[simp] theorem State.withSpeakers_spdo (s : State) (v : Vector (List Byte) 16) : (s.withSpeakers v).spdo = s.spdo := rfl
@[simp] theorem State.withSpeakers_pending (s : State) (v : Vector (List Byte) 16) : (s.withSpeakers v).pending = s.pending := rfl
@[simp] theorem State.withSpeakers_self (s : State) : s.withSpeakers s.speakers = s := rfl
@[simp] theorem State.withSpeakers_withSpeakers (s : State) (v w : Vector (List Byte) 16) :
    (s.withSpeakers v).withSpeakers w = s.withSpeakers w := rfl

/-! #### `withChans` -/

@[simp] theorem State.withChans_ksu (s : State) (v : Vector Channel 4) : (s.withChans v).ksu = s.ksu := rfl
@[simp] theorem State.withChans_strokeQueue (s : State) (v : Vector Channel 4) : (s.withChans v).strokeQueue = s.strokeQueue := rfl
@[simp] theorem State.withChans_dict (s : State) (v : Vector Channel 4) : (s.withChans v).dict = s.dict := rfl
@[simp] theorem State.withChans_sdram (s : State) (v : Vector Channel 4) : (s.withChans v).sdram = s.sdram := rfl
@[simp] theorem State.withChans_mp (s : State) (v : Vector Channel 4) : (s.withChans v).mp = s.mp := rfl
@[simp] theorem State.withChans_te (s : State) (v : Vector Channel 4) : (s.withChans v).te = s.te := rfl
@[simp] theorem State.withChans_speakers (s : State) (v : Vector Channel 4) : (s.withChans v).speakers = s.speakers := rfl
@[simp] theorem State.withChans_chans (s : State) (v : Vector Channel 4) : (s.withChans v).chans = v := rfl
@[simp] theorem State.withChans_cp (s : State) (v : Vector Channel 4) : (s.withChans v).cp = s.cp := rfl
@[simp] theorem State.withChans_spi (s : State) (v : Vector Channel 4) : (s.withChans v).spi = s.spi := rfl
@[simp] theorem State.withChans_spdo (s : State) (v : Vector Channel 4) : (s.withChans v).spdo = s.spdo := rfl
@[simp] theorem State.withChans_pending (s : State) (v : Vector Channel 4) : (s.withChans v).pending = s.pending := rfl
@[simp] theorem State.withChans_self (s : State) : s.withChans s.chans = s := rfl
@[simp] theorem State.withChans_withChans (s : State) (v w : Vector Channel 4) :
    (s.withChans v).withChans w = s.withChans w := rfl

/-! #### `withCp` -/

@[simp] theorem State.withCp_ksu (s : State) (v : Cp) : (s.withCp v).ksu = s.ksu := rfl
@[simp] theorem State.withCp_strokeQueue (s : State) (v : Cp) : (s.withCp v).strokeQueue = s.strokeQueue := rfl
@[simp] theorem State.withCp_dict (s : State) (v : Cp) : (s.withCp v).dict = s.dict := rfl
@[simp] theorem State.withCp_sdram (s : State) (v : Cp) : (s.withCp v).sdram = s.sdram := rfl
@[simp] theorem State.withCp_mp (s : State) (v : Cp) : (s.withCp v).mp = s.mp := rfl
@[simp] theorem State.withCp_te (s : State) (v : Cp) : (s.withCp v).te = s.te := rfl
@[simp] theorem State.withCp_speakers (s : State) (v : Cp) : (s.withCp v).speakers = s.speakers := rfl
@[simp] theorem State.withCp_chans (s : State) (v : Cp) : (s.withCp v).chans = s.chans := rfl
@[simp] theorem State.withCp_cp (s : State) (v : Cp) : (s.withCp v).cp = v := rfl
@[simp] theorem State.withCp_spi (s : State) (v : Cp) : (s.withCp v).spi = s.spi := rfl
@[simp] theorem State.withCp_spdo (s : State) (v : Cp) : (s.withCp v).spdo = s.spdo := rfl
@[simp] theorem State.withCp_pending (s : State) (v : Cp) : (s.withCp v).pending = s.pending := rfl
@[simp] theorem State.withCp_self (s : State) : s.withCp s.cp = s := rfl
@[simp] theorem State.withCp_withCp (s : State) (v w : Cp) :
    (s.withCp v).withCp w = s.withCp w := rfl

/-! #### `withSpi` -/

@[simp] theorem State.withSpi_ksu (s : State) (v : Spi) : (s.withSpi v).ksu = s.ksu := rfl
@[simp] theorem State.withSpi_strokeQueue (s : State) (v : Spi) : (s.withSpi v).strokeQueue = s.strokeQueue := rfl
@[simp] theorem State.withSpi_dict (s : State) (v : Spi) : (s.withSpi v).dict = s.dict := rfl
@[simp] theorem State.withSpi_sdram (s : State) (v : Spi) : (s.withSpi v).sdram = s.sdram := rfl
@[simp] theorem State.withSpi_mp (s : State) (v : Spi) : (s.withSpi v).mp = s.mp := rfl
@[simp] theorem State.withSpi_te (s : State) (v : Spi) : (s.withSpi v).te = s.te := rfl
@[simp] theorem State.withSpi_speakers (s : State) (v : Spi) : (s.withSpi v).speakers = s.speakers := rfl
@[simp] theorem State.withSpi_chans (s : State) (v : Spi) : (s.withSpi v).chans = s.chans := rfl
@[simp] theorem State.withSpi_cp (s : State) (v : Spi) : (s.withSpi v).cp = s.cp := rfl
@[simp] theorem State.withSpi_spi (s : State) (v : Spi) : (s.withSpi v).spi = v := rfl
@[simp] theorem State.withSpi_spdo (s : State) (v : Spi) : (s.withSpi v).spdo = s.spdo := rfl
@[simp] theorem State.withSpi_pending (s : State) (v : Spi) : (s.withSpi v).pending = s.pending := rfl
@[simp] theorem State.withSpi_self (s : State) : s.withSpi s.spi = s := rfl
@[simp] theorem State.withSpi_withSpi (s : State) (v w : Spi) :
    (s.withSpi v).withSpi w = s.withSpi w := rfl

/-! #### `withSpdo` -/

@[simp] theorem State.withSpdo_ksu (s : State) (v : List Bool) : (s.withSpdo v).ksu = s.ksu := rfl
@[simp] theorem State.withSpdo_strokeQueue (s : State) (v : List Bool) : (s.withSpdo v).strokeQueue = s.strokeQueue := rfl
@[simp] theorem State.withSpdo_dict (s : State) (v : List Bool) : (s.withSpdo v).dict = s.dict := rfl
@[simp] theorem State.withSpdo_sdram (s : State) (v : List Bool) : (s.withSpdo v).sdram = s.sdram := rfl
@[simp] theorem State.withSpdo_mp (s : State) (v : List Bool) : (s.withSpdo v).mp = s.mp := rfl
@[simp] theorem State.withSpdo_te (s : State) (v : List Bool) : (s.withSpdo v).te = s.te := rfl
@[simp] theorem State.withSpdo_speakers (s : State) (v : List Bool) : (s.withSpdo v).speakers = s.speakers := rfl
@[simp] theorem State.withSpdo_chans (s : State) (v : List Bool) : (s.withSpdo v).chans = s.chans := rfl
@[simp] theorem State.withSpdo_cp (s : State) (v : List Bool) : (s.withSpdo v).cp = s.cp := rfl
@[simp] theorem State.withSpdo_spi (s : State) (v : List Bool) : (s.withSpdo v).spi = s.spi := rfl
@[simp] theorem State.withSpdo_spdo (s : State) (v : List Bool) : (s.withSpdo v).spdo = v := rfl
@[simp] theorem State.withSpdo_pending (s : State) (v : List Bool) : (s.withSpdo v).pending = s.pending := rfl
@[simp] theorem State.withSpdo_self (s : State) : s.withSpdo s.spdo = s := rfl
@[simp] theorem State.withSpdo_withSpdo (s : State) (v w : List Bool) :
    (s.withSpdo v).withSpdo w = s.withSpdo w := rfl

/-! #### `withPending` -/

@[simp] theorem State.withPending_ksu (s : State) (v : List Instr) : (s.withPending v).ksu = s.ksu := rfl
@[simp] theorem State.withPending_strokeQueue (s : State) (v : List Instr) : (s.withPending v).strokeQueue = s.strokeQueue := rfl
@[simp] theorem State.withPending_dict (s : State) (v : List Instr) : (s.withPending v).dict = s.dict := rfl
@[simp] theorem State.withPending_sdram (s : State) (v : List Instr) : (s.withPending v).sdram = s.sdram := rfl
@[simp] theorem State.withPending_mp (s : State) (v : List Instr) : (s.withPending v).mp = s.mp := rfl
@[simp] theorem State.withPending_te (s : State) (v : List Instr) : (s.withPending v).te = s.te := rfl
@[simp] theorem State.withPending_speakers (s : State) (v : List Instr) : (s.withPending v).speakers = s.speakers := rfl
@[simp] theorem State.withPending_chans (s : State) (v : List Instr) : (s.withPending v).chans = s.chans := rfl
@[simp] theorem State.withPending_cp (s : State) (v : List Instr) : (s.withPending v).cp = s.cp := rfl
@[simp] theorem State.withPending_spi (s : State) (v : List Instr) : (s.withPending v).spi = s.spi := rfl
@[simp] theorem State.withPending_spdo (s : State) (v : List Instr) : (s.withPending v).spdo = s.spdo := rfl
@[simp] theorem State.withPending_pending (s : State) (v : List Instr) : (s.withPending v).pending = v := rfl
@[simp] theorem State.withPending_self (s : State) : s.withPending s.pending = s := rfl
@[simp] theorem State.withPending_withPending (s : State) (v w : List Instr) :
    (s.withPending v).withPending w = s.withPending w := rfl

/-! #### `withSlot` -/

@[simp] theorem State.withSlot_ksu (s : State) (n : Fin 4) (v : Slot) : (s.withSlot n v).ksu = s.ksu := rfl
@[simp] theorem State.withSlot_strokeQueue (s : State) (n : Fin 4) (v : Slot) : (s.withSlot n v).strokeQueue = s.strokeQueue := rfl
@[simp] theorem State.withSlot_sdram (s : State) (n : Fin 4) (v : Slot) : (s.withSlot n v).sdram = s.sdram := rfl
@[simp] theorem State.withSlot_mp (s : State) (n : Fin 4) (v : Slot) : (s.withSlot n v).mp = s.mp := rfl
@[simp] theorem State.withSlot_te (s : State) (n : Fin 4) (v : Slot) : (s.withSlot n v).te = s.te := rfl
@[simp] theorem State.withSlot_speakers (s : State) (n : Fin 4) (v : Slot) : (s.withSlot n v).speakers = s.speakers := rfl
@[simp] theorem State.withSlot_chans (s : State) (n : Fin 4) (v : Slot) : (s.withSlot n v).chans = s.chans := rfl
@[simp] theorem State.withSlot_cp (s : State) (n : Fin 4) (v : Slot) : (s.withSlot n v).cp = s.cp := rfl
@[simp] theorem State.withSlot_spi (s : State) (n : Fin 4) (v : Slot) : (s.withSlot n v).spi = s.spi := rfl
@[simp] theorem State.withSlot_spdo (s : State) (n : Fin 4) (v : Slot) : (s.withSlot n v).spdo = s.spdo := rfl
@[simp] theorem State.withSlot_pending (s : State) (n : Fin 4) (v : Slot) : (s.withSlot n v).pending = s.pending := rfl

/-- Slot `m` after slot `n` has been replaced. -/
theorem State.slot_withSlot (s : State) (n m : Fin 4) (v : Slot) :
    (s.withSlot n v).slot m = if n = m then v else s.slot m := by
  unfold State.slot State.withSlot
  by_cases h : n = m
  · subst h; simp
  · have h' : n.val ≠ m.val := fun e => h (Fin.ext e)
    simp [h, h']

@[simp] theorem State.slot_withSlot_self (s : State) (n : Fin 4) (v : Slot) :
    (s.withSlot n v).slot n = v := by simp [State.slot_withSlot]

/-! #### `withGate` -/

@[simp] theorem State.withGate_ksu (s : State) (n : Fin 4) (v : Gate) : (s.withGate n v).ksu = s.ksu := rfl
@[simp] theorem State.withGate_strokeQueue (s : State) (n : Fin 4) (v : Gate) : (s.withGate n v).strokeQueue = s.strokeQueue := rfl
@[simp] theorem State.withGate_dict (s : State) (n : Fin 4) (v : Gate) : (s.withGate n v).dict = s.dict := rfl
@[simp] theorem State.withGate_sdram (s : State) (n : Fin 4) (v : Gate) : (s.withGate n v).sdram = s.sdram := rfl
@[simp] theorem State.withGate_te (s : State) (n : Fin 4) (v : Gate) : (s.withGate n v).te = s.te := rfl
@[simp] theorem State.withGate_speakers (s : State) (n : Fin 4) (v : Gate) : (s.withGate n v).speakers = s.speakers := rfl
@[simp] theorem State.withGate_chans (s : State) (n : Fin 4) (v : Gate) : (s.withGate n v).chans = s.chans := rfl
@[simp] theorem State.withGate_cp (s : State) (n : Fin 4) (v : Gate) : (s.withGate n v).cp = s.cp := rfl
@[simp] theorem State.withGate_spi (s : State) (n : Fin 4) (v : Gate) : (s.withGate n v).spi = s.spi := rfl
@[simp] theorem State.withGate_spdo (s : State) (n : Fin 4) (v : Gate) : (s.withGate n v).spdo = s.spdo := rfl
@[simp] theorem State.withGate_pending (s : State) (n : Fin 4) (v : Gate) : (s.withGate n v).pending = s.pending := rfl

/-- Gate `m` after gate `n` has been replaced. -/
theorem State.gate_withGate (s : State) (n m : Fin 4) (v : Gate) :
    (s.withGate n v).gate m = if n = m then v else s.gate m := by
  unfold State.gate State.withGate
  by_cases h : n = m
  · subst h; simp
  · have h' : n.val ≠ m.val := fun e => h (Fin.ext e)
    simp [h, h']

@[simp] theorem State.gate_withGate_self (s : State) (n : Fin 4) (v : Gate) :
    (s.withGate n v).gate n = v := by simp [State.gate_withGate]

/-! #### `withChan` -/

@[simp] theorem State.withChan_ksu (s : State) (n : Fin 4) (v : Channel) : (s.withChan n v).ksu = s.ksu := rfl
@[simp] theorem State.withChan_strokeQueue (s : State) (n : Fin 4) (v : Channel) : (s.withChan n v).strokeQueue = s.strokeQueue := rfl
@[simp] theorem State.withChan_dict (s : State) (n : Fin 4) (v : Channel) : (s.withChan n v).dict = s.dict := rfl
@[simp] theorem State.withChan_sdram (s : State) (n : Fin 4) (v : Channel) : (s.withChan n v).sdram = s.sdram := rfl
@[simp] theorem State.withChan_mp (s : State) (n : Fin 4) (v : Channel) : (s.withChan n v).mp = s.mp := rfl
@[simp] theorem State.withChan_te (s : State) (n : Fin 4) (v : Channel) : (s.withChan n v).te = s.te := rfl
@[simp] theorem State.withChan_speakers (s : State) (n : Fin 4) (v : Channel) : (s.withChan n v).speakers = s.speakers := rfl
@[simp] theorem State.withChan_cp (s : State) (n : Fin 4) (v : Channel) : (s.withChan n v).cp = s.cp := rfl
@[simp] theorem State.withChan_spi (s : State) (n : Fin 4) (v : Channel) : (s.withChan n v).spi = s.spi := rfl
@[simp] theorem State.withChan_spdo (s : State) (n : Fin 4) (v : Channel) : (s.withChan n v).spdo = s.spdo := rfl
@[simp] theorem State.withChan_pending (s : State) (n : Fin 4) (v : Channel) : (s.withChan n v).pending = s.pending := rfl

/-- Chan `m` after chan `n` has been replaced. -/
theorem State.chan_withChan (s : State) (n m : Fin 4) (v : Channel) :
    (s.withChan n v).chan m = if n = m then v else s.chan m := by
  unfold State.chan State.withChan
  by_cases h : n = m
  · subst h; simp
  · have h' : n.val ≠ m.val := fun e => h (Fin.ext e)
    simp [h, h']

@[simp] theorem State.chan_withChan_self (s : State) (n : Fin 4) (v : Channel) :
    (s.withChan n v).chan n = v := by simp [State.chan_withChan]

/-! #### Slots, gates and channels under the other replacements -/

@[simp] theorem State.slot_withKsu (s : State) (n : Fin 4) (v : Ksu) :
    (s.withKsu v).slot n = s.slot n := rfl
@[simp] theorem State.slot_withStrokeQueue (s : State) (n : Fin 4) (v : List StrokeRecord) :
    (s.withStrokeQueue v).slot n = s.slot n := rfl
@[simp] theorem State.slot_withSdram (s : State) (n : Fin 4) (v : List Host.Cell) :
    (s.withSdram v).slot n = s.slot n := rfl
@[simp] theorem State.slot_withMp (s : State) (n : Fin 4) (v : Mp) :
    (s.withMp v).slot n = s.slot n := rfl
@[simp] theorem State.slot_withTe (s : State) (n : Fin 4) (v : Te) :
    (s.withTe v).slot n = s.slot n := rfl
@[simp] theorem State.slot_withSpeakers (s : State) (n : Fin 4) (v : Vector (List Byte) 16) :
    (s.withSpeakers v).slot n = s.slot n := rfl
@[simp] theorem State.slot_withChans (s : State) (n : Fin 4) (v : Vector Channel 4) :
    (s.withChans v).slot n = s.slot n := rfl
@[simp] theorem State.slot_withCp (s : State) (n : Fin 4) (v : Cp) :
    (s.withCp v).slot n = s.slot n := rfl
@[simp] theorem State.slot_withSpi (s : State) (n : Fin 4) (v : Spi) :
    (s.withSpi v).slot n = s.slot n := rfl
@[simp] theorem State.slot_withSpdo (s : State) (n : Fin 4) (v : List Bool) :
    (s.withSpdo v).slot n = s.slot n := rfl
@[simp] theorem State.slot_withPending (s : State) (n : Fin 4) (v : List Instr) :
    (s.withPending v).slot n = s.slot n := rfl
@[simp] theorem State.gate_withKsu (s : State) (n : Fin 4) (v : Ksu) :
    (s.withKsu v).gate n = s.gate n := rfl
@[simp] theorem State.gate_withStrokeQueue (s : State) (n : Fin 4) (v : List StrokeRecord) :
    (s.withStrokeQueue v).gate n = s.gate n := rfl
@[simp] theorem State.gate_withDict (s : State) (n : Fin 4) (v : Dict) :
    (s.withDict v).gate n = s.gate n := rfl
@[simp] theorem State.gate_withSdram (s : State) (n : Fin 4) (v : List Host.Cell) :
    (s.withSdram v).gate n = s.gate n := rfl
@[simp] theorem State.gate_withTe (s : State) (n : Fin 4) (v : Te) :
    (s.withTe v).gate n = s.gate n := rfl
@[simp] theorem State.gate_withSpeakers (s : State) (n : Fin 4) (v : Vector (List Byte) 16) :
    (s.withSpeakers v).gate n = s.gate n := rfl
@[simp] theorem State.gate_withChans (s : State) (n : Fin 4) (v : Vector Channel 4) :
    (s.withChans v).gate n = s.gate n := rfl
@[simp] theorem State.gate_withCp (s : State) (n : Fin 4) (v : Cp) :
    (s.withCp v).gate n = s.gate n := rfl
@[simp] theorem State.gate_withSpi (s : State) (n : Fin 4) (v : Spi) :
    (s.withSpi v).gate n = s.gate n := rfl
@[simp] theorem State.gate_withSpdo (s : State) (n : Fin 4) (v : List Bool) :
    (s.withSpdo v).gate n = s.gate n := rfl
@[simp] theorem State.gate_withPending (s : State) (n : Fin 4) (v : List Instr) :
    (s.withPending v).gate n = s.gate n := rfl
@[simp] theorem State.chan_withKsu (s : State) (n : Fin 4) (v : Ksu) :
    (s.withKsu v).chan n = s.chan n := rfl
@[simp] theorem State.chan_withStrokeQueue (s : State) (n : Fin 4) (v : List StrokeRecord) :
    (s.withStrokeQueue v).chan n = s.chan n := rfl
@[simp] theorem State.chan_withDict (s : State) (n : Fin 4) (v : Dict) :
    (s.withDict v).chan n = s.chan n := rfl
@[simp] theorem State.chan_withSdram (s : State) (n : Fin 4) (v : List Host.Cell) :
    (s.withSdram v).chan n = s.chan n := rfl
@[simp] theorem State.chan_withMp (s : State) (n : Fin 4) (v : Mp) :
    (s.withMp v).chan n = s.chan n := rfl
@[simp] theorem State.chan_withTe (s : State) (n : Fin 4) (v : Te) :
    (s.withTe v).chan n = s.chan n := rfl
@[simp] theorem State.chan_withSpeakers (s : State) (n : Fin 4) (v : Vector (List Byte) 16) :
    (s.withSpeakers v).chan n = s.chan n := rfl
@[simp] theorem State.chan_withCp (s : State) (n : Fin 4) (v : Cp) :
    (s.withCp v).chan n = s.chan n := rfl
@[simp] theorem State.chan_withSpi (s : State) (n : Fin 4) (v : Spi) :
    (s.withSpi v).chan n = s.chan n := rfl
@[simp] theorem State.chan_withSpdo (s : State) (n : Fin 4) (v : List Bool) :
    (s.withSpdo v).chan n = s.chan n := rfl
@[simp] theorem State.chan_withPending (s : State) (n : Fin 4) (v : List Instr) :
    (s.withPending v).chan n = s.chan n := rfl
@[simp] theorem State.slot_withGate (s : State) (n m : Fin 4) (v : Gate) :
    (s.withGate n v).slot m = s.slot m := rfl
@[simp] theorem State.slot_withChan (s : State) (n m : Fin 4) (v : Channel) :
    (s.withChan n v).slot m = s.slot m := rfl
@[simp] theorem State.gate_withSlot (s : State) (n m : Fin 4) (v : Slot) :
    (s.withSlot n v).gate m = s.gate m := rfl
@[simp] theorem State.gate_withChan (s : State) (n m : Fin 4) (v : Channel) :
    (s.withChan n v).gate m = s.gate m := rfl
@[simp] theorem State.chan_withSlot (s : State) (n m : Fin 4) (v : Slot) :
    (s.withSlot n v).chan m = s.chan m := rfl
@[simp] theorem State.chan_withGate (s : State) (n m : Fin 4) (v : Gate) :
    (s.withGate n v).chan m = s.chan m := rfl
@[simp] theorem State.withGate_mp_probes (s : State) (n : Fin 4) (g : Gate) :
    (s.withGate n g).mp.probes = s.mp.probes := rfl
@[simp] theorem State.withGate_mp_upkeep (s : State) (n : Fin 4) (g : Gate) :
    (s.withGate n g).mp.upkeep = s.mp.upkeep := rfl
@[simp] theorem State.withGate_mp_share (s : State) (n : Fin 4) (g : Gate) :
    (s.withGate n g).mp.share = s.mp.share := rfl
@[simp] theorem State.withGate_mp_lookupRun (s : State) (n : Fin 4) (g : Gate) :
    (s.withGate n g).mp.lookupRun = s.mp.lookupRun := rfl
@[simp] theorem State.withSlot_dict_memMiB (s : State) (n : Fin 4) (d : Slot) :
    (s.withSlot n d).dict.memMiB = s.dict.memMiB := rfl

end Sys2Proof.Machine
end

