-- ==== Sys2Proof/Laws/CommandPort.lean ====
section
/-!
SUPPORT. Frames of the responses, notices and frames of the Command Port: which blocks of the state each
operation leaves as they were, and which fields of the Command Port.
-/

namespace Sys2Proof.Machine

@[simp] theorem State.setNotices_frame (s : State) (m : Byte) :
    (s.setNotices m).ksu = s.ksu ∧ (s.setNotices m).strokeQueue = s.strokeQueue ∧
    (s.setNotices m).dict = s.dict ∧ (s.setNotices m).sdram = s.sdram ∧
    (s.setNotices m).mp = s.mp ∧ (s.setNotices m).te = s.te ∧
    (s.setNotices m).speakers = s.speakers ∧ (s.setNotices m).chans = s.chans ∧
    (s.setNotices m).spi = s.spi ∧ (s.setNotices m).spdo = s.spdo ∧ (s.setNotices m).pending = s.pending ∧
    (s.setNotices m).cp.queue = s.cp.queue ∧ (s.setNotices m).cp.executing = s.cp.executing ∧
    (s.setNotices m).cp.responses = s.cp.responses ∧
    (s.setNotices m).cp.restarts = s.cp.restarts ∧
    (s.setNotices m).cp.respEnable = s.cp.respEnable ∧
    (s.setNotices m).cp.reportEnable = s.cp.reportEnable ∧
    (s.setNotices m).cp.noticeEnable = s.cp.noticeEnable ∧
    (s.setNotices m).cp.trigger = s.cp.trigger ∧ (s.setNotices m).cp.reports = s.cp.reports := by unfold State.setNotices; simp

@[simp] theorem State.pushReport_frame (s : State) (r : Report) :
    (s.pushReport r).ksu = s.ksu ∧ (s.pushReport r).strokeQueue = s.strokeQueue ∧
    (s.pushReport r).dict = s.dict ∧ (s.pushReport r).sdram = s.sdram ∧
    (s.pushReport r).mp = s.mp ∧ (s.pushReport r).te = s.te ∧
    (s.pushReport r).speakers = s.speakers ∧ (s.pushReport r).chans = s.chans ∧
    (s.pushReport r).spi = s.spi ∧ (s.pushReport r).spdo = s.spdo ∧ (s.pushReport r).pending = s.pending ∧
    (s.pushReport r).cp.queue = s.cp.queue ∧ (s.pushReport r).cp.executing = s.cp.executing ∧
    (s.pushReport r).cp.responses = s.cp.responses ∧
    (s.pushReport r).cp.restarts = s.cp.restarts ∧
    (s.pushReport r).cp.respEnable = s.cp.respEnable ∧
    (s.pushReport r).cp.reportEnable = s.cp.reportEnable ∧
    (s.pushReport r).cp.noticeEnable = s.cp.noticeEnable ∧
    (s.pushReport r).cp.trigger = s.cp.trigger ∧ (s.pushReport r).cp.notices = s.cp.notices := by unfold State.pushReport; simp

@[simp] theorem State.beginExecution_frame (s : State) (c : Byte) :
    (s.beginExecution c).ksu = s.ksu ∧ (s.beginExecution c).strokeQueue = s.strokeQueue ∧
    (s.beginExecution c).dict = s.dict ∧ (s.beginExecution c).sdram = s.sdram ∧
    (s.beginExecution c).mp = s.mp ∧ (s.beginExecution c).te = s.te ∧
    (s.beginExecution c).speakers = s.speakers ∧ (s.beginExecution c).chans = s.chans ∧
    (s.beginExecution c).spi = s.spi ∧ (s.beginExecution c).spdo = s.spdo ∧ (s.beginExecution c).pending = s.pending ∧
    (s.beginExecution c).cp.queue = s.cp.queue ∧
    (s.beginExecution c).cp.responses = s.cp.responses ∧
    (s.beginExecution c).cp.restarts = s.cp.restarts ∧
    (s.beginExecution c).cp.respEnable = s.cp.respEnable ∧
    (s.beginExecution c).cp.reportEnable = s.cp.reportEnable ∧
    (s.beginExecution c).cp.noticeEnable = s.cp.noticeEnable ∧
    (s.beginExecution c).cp.trigger = s.cp.trigger ∧
    (s.beginExecution c).cp.reports = s.cp.reports ∧
    (s.beginExecution c).cp.notices = s.cp.notices := by unfold State.beginExecution; simp

@[simp] theorem State.endSilently_frame (s : State) :
    s.endSilently.ksu = s.ksu ∧ s.endSilently.strokeQueue = s.strokeQueue ∧
    s.endSilently.dict = s.dict ∧ s.endSilently.sdram = s.sdram ∧ s.endSilently.mp = s.mp ∧
    s.endSilently.te = s.te ∧ s.endSilently.speakers = s.speakers ∧
    s.endSilently.chans = s.chans ∧ s.endSilently.spi = s.spi ∧ s.endSilently.spdo = s.spdo ∧
    s.endSilently.pending = s.pending ∧ s.endSilently.cp.queue = s.cp.queue ∧
    s.endSilently.cp.responses = s.cp.responses ∧ s.endSilently.cp.restarts = s.cp.restarts ∧
    s.endSilently.cp.respEnable = s.cp.respEnable ∧
    s.endSilently.cp.reportEnable = s.cp.reportEnable ∧
    s.endSilently.cp.noticeEnable = s.cp.noticeEnable ∧ s.endSilently.cp.trigger = s.cp.trigger ∧
    s.endSilently.cp.reports = s.cp.reports ∧ s.endSilently.cp.notices = s.cp.notices := by unfold State.endSilently; simp

@[simp] theorem State.respond_frame (s : State) (st : Status) (d : List Byte) :
    (s.respond st d).ksu = s.ksu ∧ (s.respond st d).strokeQueue = s.strokeQueue ∧
    (s.respond st d).dict = s.dict ∧ (s.respond st d).sdram = s.sdram ∧
    (s.respond st d).mp = s.mp ∧ (s.respond st d).te = s.te ∧
    (s.respond st d).speakers = s.speakers ∧ (s.respond st d).chans = s.chans ∧
    (s.respond st d).spi = s.spi ∧ (s.respond st d).spdo = s.spdo ∧ (s.respond st d).pending = s.pending ∧
    (s.respond st d).cp.queue = s.cp.queue ∧ (s.respond st d).cp.restarts = s.cp.restarts ∧
    (s.respond st d).cp.respEnable = s.cp.respEnable ∧
    (s.respond st d).cp.reportEnable = s.cp.reportEnable ∧
    (s.respond st d).cp.noticeEnable = s.cp.noticeEnable ∧
    (s.respond st d).cp.trigger = s.cp.trigger ∧ (s.respond st d).cp.reports = s.cp.reports ∧
    (s.respond st d).cp.notices = s.cp.notices := by unfold State.respond; (repeat' split) <;> simp

@[simp] theorem State.done_frame (s : State) :
    s.done.ksu = s.ksu ∧ s.done.strokeQueue = s.strokeQueue ∧ s.done.dict = s.dict ∧
    s.done.sdram = s.sdram ∧ s.done.mp = s.mp ∧ s.done.te = s.te ∧ s.done.speakers = s.speakers ∧
    s.done.chans = s.chans ∧ s.done.spi = s.spi ∧ s.done.spdo = s.spdo ∧ s.done.pending = s.pending ∧
    s.done.cp.queue = s.cp.queue ∧ s.done.cp.restarts = s.cp.restarts ∧
    s.done.cp.respEnable = s.cp.respEnable ∧ s.done.cp.reportEnable = s.cp.reportEnable ∧
    s.done.cp.noticeEnable = s.cp.noticeEnable ∧ s.done.cp.trigger = s.cp.trigger ∧
    s.done.cp.reports = s.cp.reports ∧ s.done.cp.notices = s.cp.notices := by unfold State.done; simp

@[simp] theorem State.refuse_frame (s : State) (st : Status) :
    (s.refuse st).ksu = s.ksu ∧ (s.refuse st).strokeQueue = s.strokeQueue ∧
    (s.refuse st).dict = s.dict ∧ (s.refuse st).sdram = s.sdram ∧ (s.refuse st).mp = s.mp ∧
    (s.refuse st).te = s.te ∧ (s.refuse st).speakers = s.speakers ∧
    (s.refuse st).chans = s.chans ∧ (s.refuse st).spi = s.spi ∧ (s.refuse st).spdo = s.spdo ∧
    (s.refuse st).pending = s.pending ∧ (s.refuse st).cp.queue = s.cp.queue ∧
    (s.refuse st).cp.restarts = s.cp.restarts ∧ (s.refuse st).cp.respEnable = s.cp.respEnable ∧
    (s.refuse st).cp.reportEnable = s.cp.reportEnable ∧
    (s.refuse st).cp.noticeEnable = s.cp.noticeEnable ∧ (s.refuse st).cp.trigger = s.cp.trigger ∧
    (s.refuse st).cp.reports = s.cp.reports ∧ (s.refuse st).cp.notices = s.cp.notices := by unfold State.refuse; simp

@[simp] theorem State.placeFrame_frame (s : State) (f : Frame) :
    (s.placeFrame f).ksu = s.ksu ∧ (s.placeFrame f).strokeQueue = s.strokeQueue ∧
    (s.placeFrame f).dict = s.dict ∧ (s.placeFrame f).sdram = s.sdram ∧
    (s.placeFrame f).mp = s.mp ∧ (s.placeFrame f).te = s.te ∧
    (s.placeFrame f).speakers = s.speakers ∧ (s.placeFrame f).chans = s.chans ∧
    (s.placeFrame f).spi = s.spi ∧ (s.placeFrame f).spdo = s.spdo ∧ (s.placeFrame f).pending = s.pending ∧
    (s.placeFrame f).cp.executing = s.cp.executing ∧
    (s.placeFrame f).cp.responses = s.cp.responses ∧
    (s.placeFrame f).cp.restarts = s.cp.restarts ∧
    (s.placeFrame f).cp.respEnable = s.cp.respEnable ∧
    (s.placeFrame f).cp.reportEnable = s.cp.reportEnable ∧
    (s.placeFrame f).cp.noticeEnable = s.cp.noticeEnable ∧
    (s.placeFrame f).cp.trigger = s.cp.trigger ∧ (s.placeFrame f).cp.reports = s.cp.reports := by unfold State.placeFrame; (repeat' split) <;> simp

end Sys2Proof.Machine
end

