-- ==== Sys2Proof/Laws/Keyboard.lean ====
section
/-!
SUPPORT. Frames of stroke assembly and the stroke queue: which blocks of the state each
operation leaves as they were, and which fields of the Command Port.
-/

namespace Sys2Proof.Machine

@[simp] theorem State.offerStroke_frame (s : State) (r : StrokeRecord) :
    (s.offerStroke r).dict = s.dict ∧ (s.offerStroke r).sdram = s.sdram ∧
    (s.offerStroke r).mp = s.mp ∧ (s.offerStroke r).te = s.te ∧
    (s.offerStroke r).speakers = s.speakers ∧ (s.offerStroke r).chans = s.chans ∧
    (s.offerStroke r).spi = s.spi ∧ (s.offerStroke r).spdo = s.spdo ∧ (s.offerStroke r).pending = s.pending ∧
    (s.offerStroke r).cp.queue = s.cp.queue ∧ (s.offerStroke r).cp.executing = s.cp.executing ∧
    (s.offerStroke r).cp.responses = s.cp.responses ∧
    (s.offerStroke r).cp.restarts = s.cp.restarts ∧
    (s.offerStroke r).cp.respEnable = s.cp.respEnable ∧
    (s.offerStroke r).cp.reportEnable = s.cp.reportEnable ∧
    (s.offerStroke r).cp.noticeEnable = s.cp.noticeEnable ∧
    (s.offerStroke r).cp.trigger = s.cp.trigger ∧ (s.offerStroke r).cp.reports = s.cp.reports := by unfold State.offerStroke; (repeat' split) <;> simp

@[simp] theorem State.closeStroke_frame (s : State) (b : Bool) :
    (s.closeStroke b).dict = s.dict ∧ (s.closeStroke b).sdram = s.sdram ∧
    (s.closeStroke b).mp = s.mp ∧ (s.closeStroke b).te = s.te ∧
    (s.closeStroke b).speakers = s.speakers ∧ (s.closeStroke b).chans = s.chans ∧
    (s.closeStroke b).spi = s.spi ∧ (s.closeStroke b).spdo = s.spdo ∧ (s.closeStroke b).pending = s.pending ∧
    (s.closeStroke b).cp.queue = s.cp.queue ∧ (s.closeStroke b).cp.executing = s.cp.executing ∧
    (s.closeStroke b).cp.responses = s.cp.responses ∧
    (s.closeStroke b).cp.restarts = s.cp.restarts ∧
    (s.closeStroke b).cp.respEnable = s.cp.respEnable ∧
    (s.closeStroke b).cp.reportEnable = s.cp.reportEnable ∧
    (s.closeStroke b).cp.noticeEnable = s.cp.noticeEnable ∧
    (s.closeStroke b).cp.trigger = s.cp.trigger ∧ (s.closeStroke b).cp.reports = s.cp.reports := by unfold State.closeStroke; (repeat' split) <;> simp

@[simp] theorem State.beginStroke_frame (s : State) (k : Key) :
    (s.beginStroke k).strokeQueue = s.strokeQueue ∧ (s.beginStroke k).dict = s.dict ∧
    (s.beginStroke k).sdram = s.sdram ∧ (s.beginStroke k).mp = s.mp ∧
    (s.beginStroke k).te = s.te ∧ (s.beginStroke k).speakers = s.speakers ∧
    (s.beginStroke k).chans = s.chans ∧ (s.beginStroke k).cp = s.cp ∧
    (s.beginStroke k).spi = s.spi ∧ (s.beginStroke k).spdo = s.spdo ∧ (s.beginStroke k).pending = s.pending := by unfold State.beginStroke; simp

@[simp] theorem State.startHold_frame (s : State) (k : Key) :
    (s.startHold k).strokeQueue = s.strokeQueue ∧ (s.startHold k).dict = s.dict ∧
    (s.startHold k).sdram = s.sdram ∧ (s.startHold k).mp = s.mp ∧ (s.startHold k).te = s.te ∧
    (s.startHold k).speakers = s.speakers ∧ (s.startHold k).chans = s.chans ∧
    (s.startHold k).cp = s.cp ∧ (s.startHold k).spi = s.spi ∧ (s.startHold k).spdo = s.spdo ∧
    (s.startHold k).pending = s.pending := by unfold State.startHold; simp

@[simp] theorem State.stopHold_frame (s : State) (k : Key) :
    (s.stopHold k).strokeQueue = s.strokeQueue ∧ (s.stopHold k).dict = s.dict ∧
    (s.stopHold k).sdram = s.sdram ∧ (s.stopHold k).mp = s.mp ∧ (s.stopHold k).te = s.te ∧
    (s.stopHold k).speakers = s.speakers ∧ (s.stopHold k).chans = s.chans ∧
    (s.stopHold k).cp = s.cp ∧ (s.stopHold k).spi = s.spi ∧ (s.stopHold k).spdo = s.spdo ∧ (s.stopHold k).pending = s.pending := by unfold State.stopHold; simp

@[simp] theorem State.splitStroke_frame (s : State) (k : Key) :
    (s.splitStroke k).dict = s.dict ∧ (s.splitStroke k).sdram = s.sdram ∧
    (s.splitStroke k).mp = s.mp ∧ (s.splitStroke k).te = s.te ∧
    (s.splitStroke k).speakers = s.speakers ∧ (s.splitStroke k).chans = s.chans ∧
    (s.splitStroke k).spi = s.spi ∧ (s.splitStroke k).spdo = s.spdo ∧ (s.splitStroke k).pending = s.pending ∧
    (s.splitStroke k).cp.queue = s.cp.queue ∧ (s.splitStroke k).cp.executing = s.cp.executing ∧
    (s.splitStroke k).cp.responses = s.cp.responses ∧
    (s.splitStroke k).cp.restarts = s.cp.restarts ∧
    (s.splitStroke k).cp.respEnable = s.cp.respEnable ∧
    (s.splitStroke k).cp.reportEnable = s.cp.reportEnable ∧
    (s.splitStroke k).cp.noticeEnable = s.cp.noticeEnable ∧
    (s.splitStroke k).cp.trigger = s.cp.trigger ∧ (s.splitStroke k).cp.reports = s.cp.reports := by unfold State.splitStroke; simp

@[simp] theorem State.pressKey_frame (s : State) (k : Key) :
    (s.pressKey k).dict = s.dict ∧ (s.pressKey k).sdram = s.sdram ∧ (s.pressKey k).mp = s.mp ∧
    (s.pressKey k).te = s.te ∧ (s.pressKey k).speakers = s.speakers ∧
    (s.pressKey k).chans = s.chans ∧ (s.pressKey k).spi = s.spi ∧ (s.pressKey k).spdo = s.spdo ∧
    (s.pressKey k).pending = s.pending ∧ (s.pressKey k).cp.queue = s.cp.queue ∧
    (s.pressKey k).cp.executing = s.cp.executing ∧ (s.pressKey k).cp.responses = s.cp.responses ∧
    (s.pressKey k).cp.restarts = s.cp.restarts ∧ (s.pressKey k).cp.respEnable = s.cp.respEnable ∧
    (s.pressKey k).cp.reportEnable = s.cp.reportEnable ∧
    (s.pressKey k).cp.noticeEnable = s.cp.noticeEnable ∧
    (s.pressKey k).cp.trigger = s.cp.trigger ∧ (s.pressKey k).cp.reports = s.cp.reports := by simp only [State.pressKey]; (repeat' split) <;> simp

@[simp] theorem State.afterRelease_frame (s : State) :
    s.afterRelease.dict = s.dict ∧ s.afterRelease.sdram = s.sdram ∧ s.afterRelease.mp = s.mp ∧
    s.afterRelease.te = s.te ∧ s.afterRelease.speakers = s.speakers ∧
    s.afterRelease.chans = s.chans ∧ s.afterRelease.spi = s.spi ∧ s.afterRelease.spdo = s.spdo ∧
    s.afterRelease.pending = s.pending ∧ s.afterRelease.cp.queue = s.cp.queue ∧
    s.afterRelease.cp.executing = s.cp.executing ∧ s.afterRelease.cp.responses = s.cp.responses ∧
    s.afterRelease.cp.restarts = s.cp.restarts ∧ s.afterRelease.cp.respEnable = s.cp.respEnable ∧
    s.afterRelease.cp.reportEnable = s.cp.reportEnable ∧
    s.afterRelease.cp.noticeEnable = s.cp.noticeEnable ∧
    s.afterRelease.cp.trigger = s.cp.trigger ∧ s.afterRelease.cp.reports = s.cp.reports := by unfold State.afterRelease; (repeat' split) <;> simp

@[simp] theorem State.releaseKey_frame (s : State) (k : Key) :
    (s.releaseKey k).dict = s.dict ∧ (s.releaseKey k).sdram = s.sdram ∧
    (s.releaseKey k).mp = s.mp ∧ (s.releaseKey k).te = s.te ∧
    (s.releaseKey k).speakers = s.speakers ∧ (s.releaseKey k).chans = s.chans ∧
    (s.releaseKey k).spi = s.spi ∧ (s.releaseKey k).spdo = s.spdo ∧ (s.releaseKey k).pending = s.pending ∧
    (s.releaseKey k).cp.queue = s.cp.queue ∧ (s.releaseKey k).cp.executing = s.cp.executing ∧
    (s.releaseKey k).cp.responses = s.cp.responses ∧
    (s.releaseKey k).cp.restarts = s.cp.restarts ∧
    (s.releaseKey k).cp.respEnable = s.cp.respEnable ∧
    (s.releaseKey k).cp.reportEnable = s.cp.reportEnable ∧
    (s.releaseKey k).cp.noticeEnable = s.cp.noticeEnable ∧
    (s.releaseKey k).cp.trigger = s.cp.trigger ∧ (s.releaseKey k).cp.reports = s.cp.reports := by unfold State.releaseKey; (repeat' split) <;> simp

@[simp] theorem State.cutKey_frame (s : State) (k : Key) :
    (s.cutKey k).dict = s.dict ∧ (s.cutKey k).sdram = s.sdram ∧ (s.cutKey k).mp = s.mp ∧
    (s.cutKey k).te = s.te ∧ (s.cutKey k).speakers = s.speakers ∧ (s.cutKey k).chans = s.chans ∧
    (s.cutKey k).spi = s.spi ∧ (s.cutKey k).spdo = s.spdo ∧ (s.cutKey k).pending = s.pending ∧
    (s.cutKey k).cp.queue = s.cp.queue ∧ (s.cutKey k).cp.executing = s.cp.executing ∧
    (s.cutKey k).cp.responses = s.cp.responses ∧ (s.cutKey k).cp.restarts = s.cp.restarts ∧
    (s.cutKey k).cp.respEnable = s.cp.respEnable ∧
    (s.cutKey k).cp.reportEnable = s.cp.reportEnable ∧
    (s.cutKey k).cp.noticeEnable = s.cp.noticeEnable ∧ (s.cutKey k).cp.trigger = s.cp.trigger ∧
    (s.cutKey k).cp.reports = s.cp.reports := by simp only [State.cutKey]; (repeat' split) <;> simp

@[simp] theorem State.acceptLevel_frame (s : State) (k : Key) :
    (s.acceptLevel k).dict = s.dict ∧ (s.acceptLevel k).sdram = s.sdram ∧
    (s.acceptLevel k).mp = s.mp ∧ (s.acceptLevel k).te = s.te ∧
    (s.acceptLevel k).speakers = s.speakers ∧ (s.acceptLevel k).chans = s.chans ∧
    (s.acceptLevel k).spi = s.spi ∧ (s.acceptLevel k).spdo = s.spdo ∧ (s.acceptLevel k).pending = s.pending ∧
    (s.acceptLevel k).cp.queue = s.cp.queue ∧ (s.acceptLevel k).cp.executing = s.cp.executing ∧
    (s.acceptLevel k).cp.responses = s.cp.responses ∧
    (s.acceptLevel k).cp.restarts = s.cp.restarts ∧
    (s.acceptLevel k).cp.respEnable = s.cp.respEnable ∧
    (s.acceptLevel k).cp.reportEnable = s.cp.reportEnable ∧
    (s.acceptLevel k).cp.noticeEnable = s.cp.noticeEnable ∧
    (s.acceptLevel k).cp.trigger = s.cp.trigger ∧ (s.acceptLevel k).cp.reports = s.cp.reports := by simp only [State.acceptLevel]; (repeat' split) <;> simp

@[simp] theorem State.turnKey_frame (s : State) (k : Key) (d : Bool) :
    (s.turnKey k d).dict = s.dict ∧ (s.turnKey k d).sdram = s.sdram ∧ (s.turnKey k d).mp = s.mp ∧
    (s.turnKey k d).te = s.te ∧ (s.turnKey k d).speakers = s.speakers ∧
    (s.turnKey k d).chans = s.chans ∧ (s.turnKey k d).spi = s.spi ∧ (s.turnKey k d).spdo = s.spdo ∧
    (s.turnKey k d).pending = s.pending ∧ (s.turnKey k d).cp.queue = s.cp.queue ∧
    (s.turnKey k d).cp.executing = s.cp.executing ∧
    (s.turnKey k d).cp.responses = s.cp.responses ∧ (s.turnKey k d).cp.restarts = s.cp.restarts ∧
    (s.turnKey k d).cp.respEnable = s.cp.respEnable ∧
    (s.turnKey k d).cp.reportEnable = s.cp.reportEnable ∧
    (s.turnKey k d).cp.noticeEnable = s.cp.noticeEnable ∧
    (s.turnKey k d).cp.trigger = s.cp.trigger ∧ (s.turnKey k d).cp.reports = s.cp.reports := by simp only [State.turnKey]; (repeat' split) <;> simp

@[simp] theorem State.maskKey_frame (s : State) (k : Key) :
    (s.maskKey k).dict = s.dict ∧ (s.maskKey k).sdram = s.sdram ∧ (s.maskKey k).mp = s.mp ∧
    (s.maskKey k).te = s.te ∧ (s.maskKey k).speakers = s.speakers ∧
    (s.maskKey k).chans = s.chans ∧ (s.maskKey k).spi = s.spi ∧ (s.maskKey k).spdo = s.spdo ∧
    (s.maskKey k).pending = s.pending ∧ (s.maskKey k).cp.queue = s.cp.queue ∧
    (s.maskKey k).cp.executing = s.cp.executing ∧ (s.maskKey k).cp.responses = s.cp.responses ∧
    (s.maskKey k).cp.restarts = s.cp.restarts ∧ (s.maskKey k).cp.respEnable = s.cp.respEnable ∧
    (s.maskKey k).cp.reportEnable = s.cp.reportEnable ∧
    (s.maskKey k).cp.noticeEnable = s.cp.noticeEnable ∧ (s.maskKey k).cp.trigger = s.cp.trigger ∧
    (s.maskKey k).cp.reports = s.cp.reports := by unfold State.maskKey; simp

@[simp] theorem State.unmaskKey_frame (s : State) (k : Key) :
    (s.unmaskKey k).strokeQueue = s.strokeQueue ∧ (s.unmaskKey k).dict = s.dict ∧
    (s.unmaskKey k).sdram = s.sdram ∧ (s.unmaskKey k).mp = s.mp ∧ (s.unmaskKey k).te = s.te ∧
    (s.unmaskKey k).speakers = s.speakers ∧ (s.unmaskKey k).chans = s.chans ∧
    (s.unmaskKey k).cp = s.cp ∧ (s.unmaskKey k).spi = s.spi ∧ (s.unmaskKey k).spdo = s.spdo ∧
    (s.unmaskKey k).pending = s.pending := by unfold State.unmaskKey; simp

@[simp] theorem State.restartKeys_frame (s : State) :
    s.restartKeys.dict = s.dict ∧ s.restartKeys.sdram = s.sdram ∧ s.restartKeys.mp = s.mp ∧
    s.restartKeys.te = s.te ∧ s.restartKeys.speakers = s.speakers ∧
    s.restartKeys.chans = s.chans ∧ s.restartKeys.cp = s.cp ∧ s.restartKeys.spi = s.spi ∧ s.restartKeys.spdo = s.spdo ∧
    s.restartKeys.pending = s.pending := by unfold State.restartKeys; simp

end Sys2Proof.Machine
end

