-- ==== Sys2Proof/Laws/Memory.lean ====
section
/-!
SUPPORT. The SDRAM as a list of cells: a read after a write, and the canonical form kept by every
memory operation.
-/

namespace Sys2Proof.Machine

/-- The canonical form from a lower bound holds from every bound below it. -/
theorem Memory.wfFrom_mono {l k : Nat} (h : k ≤ l) :
    ∀ {m : List Host.Cell}, Memory.wfFrom l m = true → Memory.wfFrom k m = true
  | [], _ => rfl
  | (a, v) :: rest, hm => by
      simp only [Memory.wfFrom, Bool.and_eq_true, decide_eq_true_eq] at hm ⊢
      exact ⟨⟨by omega, hm.1.2⟩, hm.2⟩

/-- A write at or above the bound keeps the canonical form from that bound. -/
theorem writeByte_wfFrom (a : Nat) (v : Byte) :
    ∀ (m : List Host.Cell) (l : Nat), l ≤ a → Memory.wfFrom l m = true →
      Memory.wfFrom l (writeByte m a v) = true
  | [], l, hl, _ => by
      unfold writeByte; split <;> simp_all [Memory.wfFrom]
  | (b, w) :: rest, l, hl, hm => by
      simp only [Memory.wfFrom, Bool.and_eq_true, decide_eq_true_eq, bne_iff_ne, ne_eq] at hm
      obtain ⟨⟨hlb, hw⟩, hr⟩ := hm
      unfold writeByte
      split
      · split
        · simpa [Memory.wfFrom, hlb, hr] using hw
        · have : a + 1 ≤ b := by omega
          simp_all [Memory.wfFrom]
      · split
        · subst_vars
          split
          · exact Memory.wfFrom_mono (by omega) hr
          · simp_all [Memory.wfFrom]
        · have ih := writeByte_wfFrom a v rest (b + 1) (by omega) hr
          simpa [Memory.wfFrom, hlb, ih] using hw

/-- A write keeps the canonical form. -/
theorem writeByte_wf (m : List Host.Cell) (a : Nat) (v : Byte) (h : Memory.wf m = true) :
    Memory.wf (writeByte m a v) = true := writeByte_wfFrom a v m 0 (Nat.zero_le a) h

/-- Writing several bytes keeps the canonical form. -/
theorem writeBytes_wf (bytes : List Byte) :
    ∀ (m : List Host.Cell) (a : Nat), Memory.wf m = true → Memory.wf (writeBytes m a bytes) = true := by
  induction bytes with
  | nil => intro m a h; exact h
  | cons v rest ih => intro m a h; exact ih _ _ (writeByte_wf m a v h)

/-- Writing into a cell keeps the canonical form. -/
theorem writeCell_wf (m : List Host.Cell) (base : Nat) (c at_ : Nat) (bytes : List Byte)
    (h : Memory.wf m = true) : Memory.wf (writeCell m base c at_ bytes) = true :=
  writeBytes_wf bytes m _ h

/-- Below the lowest listed address, memory reads as unwritten. -/
theorem readByte_below {a : Nat} : ∀ {m : List Host.Cell} {l : Nat}, Memory.wfFrom l m = true → a < l →
    readByte m a = Config.sdramPowerOn
  | [], _, _, _ => rfl
  | (b, w) :: rest, l, hm, hl => by
      simp only [Memory.wfFrom, Bool.and_eq_true, decide_eq_true_eq] at hm
      unfold readByte
      rw [if_neg (by omega)]
      exact readByte_below hm.2 (by omega)

/-- A read after a write, in a memory whose form is canonical from a bound. -/
theorem readByte_writeByte_from (a : Nat) (v : Byte) (c : Nat) :
    ∀ (m : List Host.Cell) (l : Nat), Memory.wfFrom l m = true →
      readByte (writeByte m a v) c = if c = a then v else readByte m c
  | [], _, _ => by
      by_cases h : c = a
      · subst h; unfold writeByte; split <;> simp_all [readByte]
      · have h' : ¬a = c := fun e => h e.symm
        unfold writeByte; split <;> simp_all [readByte]
  | (b, w) :: rest, l, hm => by
      simp only [Memory.wfFrom, Bool.and_eq_true, decide_eq_true_eq, bne_iff_ne, ne_eq] at hm
      obtain ⟨⟨_, _⟩, hr⟩ := hm
      unfold writeByte
      split
      · rename_i hab
        have hunder : readByte rest a = Config.sdramPowerOn := readByte_below hr (by omega)
        split
        · by_cases h : c = a
          · subst h
            have : ¬b = c := by omega
            simp_all [readByte]
          · simp [h]
        · by_cases h : c = a
          · subst h; simp [readByte]
          · have h' : ¬a = c := fun e => h e.symm
            simp [readByte, h, h']
      · split
        · rename_i _ hab
          subst hab
          have hunder : readByte rest a = Config.sdramPowerOn := readByte_below hr (by omega)
          split
          · by_cases h : c = a
            · subst h; simp_all
            · have h' : ¬a = c := fun e => h e.symm
              simp [readByte, h, h']
          · by_cases h : c = a
            · subst h; simp [readByte]
            · have h' : ¬a = c := fun e => h e.symm
              simp [readByte, h, h']
        · have ih := readByte_writeByte_from a v c rest (b + 1) hr
          by_cases h : c = a
          · subst h
            have h' : ¬b = c := by omega
            simp only [readByte, if_neg h', ih, if_pos]
          · simp only [readByte, ih, if_neg h]

/-- A read after a write gives the value written, and leaves every other address alone. -/
theorem readByte_writeByte (m : List Host.Cell) (a : Nat) (v : Byte) (c : Nat)
    (h : Memory.wf m = true) :
    readByte (writeByte m a v) c = if c = a then v else readByte m c :=
  readByte_writeByte_from a v c m 0 h

/-- A write leaves every other address alone, whatever the form of the memory. -/
theorem readByte_writeByte_ne (a : Nat) (v : Byte) (c : Nat) (hc : c ≠ a) :
    ∀ m : List Host.Cell, readByte (writeByte m a v) c = readByte m c
  | [] => by
      have h' : ¬a = c := fun e => hc e.symm
      unfold writeByte; split <;> simp [readByte, h']
  | (b, w) :: rest => by
      have h' : ¬a = c := fun e => hc e.symm
      have ih := readByte_writeByte_ne a v c hc rest
      unfold writeByte
      split
      · split <;> simp [readByte, h']
      · split
        · subst_vars; split <;> simp [readByte, h']
        · simp [readByte, ih]

/-- Writing several bytes leaves every address outside them alone. -/
theorem readByte_writeBytes_outside (bytes : List Byte) :
    ∀ (m : List Host.Cell) (a c : Nat), c < a ∨ a + bytes.length ≤ c →
      readByte (writeBytes m a bytes) c = readByte m c := by
  induction bytes with
  | nil => intro m a c _; rfl
  | cons v rest ih =>
      intro m a c h
      simp only [List.length_cons] at h
      rw [writeBytes, ih _ _ _ (by omega), readByte_writeByte_ne a v c (by omega)]

/-- Several bytes written are read back in their order. -/
theorem readByte_writeBytes_inside (bytes : List Byte) :
    ∀ (m : List Host.Cell) (a i : Nat) (hi : i < bytes.length), Memory.wf m = true →
      readByte (writeBytes m a bytes) (a + i) = bytes[i] := by
  induction bytes with
  | nil => intro m a i hi; simp at hi
  | cons v rest ih =>
      intro m a i hi h
      cases i with
      | zero =>
          rw [writeBytes, readByte_writeBytes_outside rest _ _ _ (by omega)]
          simp [readByte_writeByte m a v a h]
      | succ i =>
          have := ih (writeByte m a v) (a + 1) i (by simpa using hi) (writeByte_wf m a v h)
          rw [writeBytes, show a + (i + 1) = a + 1 + i by omega, this]
          rfl

/-- The memory of the part after reset is in canonical form. -/
theorem reset_sdram_wf : Memory.wf State.reset.sdram = true := rfl

end Sys2Proof.Machine
end

