-- ==== Sys2Proof/Laws/Translation.lean ====
section
/-!
SUPPORT. Frames of changes of the window, settling, probes and the service order: which blocks of the state each
operation leaves as they were, and which fields of the Command Port.
-/

namespace Sys2Proof.Machine

@[simp] theorem State.sendUpdates_frame (s : State) (u : List Update) :
    (s.sendUpdates u).ksu = s.ksu ∧ (s.sendUpdates u).strokeQueue = s.strokeQueue ∧
    (s.sendUpdates u).dict = s.dict ∧ (s.sendUpdates u).sdram = s.sdram ∧
    (s.sendUpdates u).mp = s.mp ∧ (s.sendUpdates u).te = s.te ∧
    (s.sendUpdates u).speakers = s.speakers ∧ (s.sendUpdates u).spi = s.spi ∧ (s.sendUpdates u).spdo = s.spdo ∧
    (s.sendUpdates u).pending = s.pending ∧ (s.sendUpdates u).cp.queue = s.cp.queue ∧
    (s.sendUpdates u).cp.executing = s.cp.executing ∧
    (s.sendUpdates u).cp.responses = s.cp.responses ∧
    (s.sendUpdates u).cp.restarts = s.cp.restarts ∧
    (s.sendUpdates u).cp.respEnable = s.cp.respEnable ∧
    (s.sendUpdates u).cp.reportEnable = s.cp.reportEnable ∧
    (s.sendUpdates u).cp.noticeEnable = s.cp.noticeEnable ∧
    (s.sendUpdates u).cp.trigger = s.cp.trigger ∧ (s.sendUpdates u).cp.reports = s.cp.reports := by unfold State.sendUpdates; simp

@[simp] theorem State.settleRecords_frame (s : State) (g : List Record) :
    (s.settleRecords g).ksu = s.ksu ∧ (s.settleRecords g).strokeQueue = s.strokeQueue ∧
    (s.settleRecords g).dict = s.dict ∧ (s.settleRecords g).sdram = s.sdram ∧
    (s.settleRecords g).mp = s.mp ∧ (s.settleRecords g).speakers = s.speakers ∧
    (s.settleRecords g).chans = s.chans ∧ (s.settleRecords g).spi = s.spi ∧ (s.settleRecords g).spdo = s.spdo ∧
    (s.settleRecords g).pending = s.pending ∧ (s.settleRecords g).cp.queue = s.cp.queue ∧
    (s.settleRecords g).cp.executing = s.cp.executing ∧
    (s.settleRecords g).cp.responses = s.cp.responses ∧
    (s.settleRecords g).cp.restarts = s.cp.restarts ∧
    (s.settleRecords g).cp.respEnable = s.cp.respEnable ∧
    (s.settleRecords g).cp.reportEnable = s.cp.reportEnable ∧
    (s.settleRecords g).cp.noticeEnable = s.cp.noticeEnable ∧
    (s.settleRecords g).cp.trigger = s.cp.trigger ∧
    (s.settleRecords g).cp.notices = s.cp.notices := by simp only [State.settleRecords]; (repeat' split) <;> simp

@[simp] theorem State.changeWindow_frame (s : State) (w : List Record) :
    (s.changeWindow w).ksu = s.ksu ∧ (s.changeWindow w).strokeQueue = s.strokeQueue ∧
    (s.changeWindow w).dict = s.dict ∧ (s.changeWindow w).sdram = s.sdram ∧
    (s.changeWindow w).mp = s.mp ∧ (s.changeWindow w).speakers = s.speakers ∧
    (s.changeWindow w).spi = s.spi ∧ (s.changeWindow w).spdo = s.spdo ∧ (s.changeWindow w).pending = s.pending ∧
    (s.changeWindow w).cp.queue = s.cp.queue ∧ (s.changeWindow w).cp.executing = s.cp.executing ∧
    (s.changeWindow w).cp.responses = s.cp.responses ∧
    (s.changeWindow w).cp.restarts = s.cp.restarts ∧
    (s.changeWindow w).cp.respEnable = s.cp.respEnable ∧
    (s.changeWindow w).cp.reportEnable = s.cp.reportEnable ∧
    (s.changeWindow w).cp.noticeEnable = s.cp.noticeEnable ∧
    (s.changeWindow w).cp.trigger = s.cp.trigger := by unfold State.changeWindow; simp

@[simp] theorem State.settleOldest_frame (s : State) (r : Record) (w : List Record) :
    (s.settleOldest r w).ksu = s.ksu ∧ (s.settleOldest r w).strokeQueue = s.strokeQueue ∧
    (s.settleOldest r w).dict = s.dict ∧ (s.settleOldest r w).sdram = s.sdram ∧
    (s.settleOldest r w).mp = s.mp ∧ (s.settleOldest r w).speakers = s.speakers ∧
    (s.settleOldest r w).spi = s.spi ∧ (s.settleOldest r w).spdo = s.spdo ∧ (s.settleOldest r w).pending = s.pending ∧
    (s.settleOldest r w).cp.queue = s.cp.queue ∧
    (s.settleOldest r w).cp.executing = s.cp.executing ∧
    (s.settleOldest r w).cp.responses = s.cp.responses ∧
    (s.settleOldest r w).cp.restarts = s.cp.restarts ∧
    (s.settleOldest r w).cp.respEnable = s.cp.respEnable ∧
    (s.settleOldest r w).cp.reportEnable = s.cp.reportEnable ∧
    (s.settleOldest r w).cp.noticeEnable = s.cp.noticeEnable ∧
    (s.settleOldest r w).cp.trigger = s.cp.trigger := by unfold State.settleOldest; simp

@[simp] theorem serveSettleDue_frame (w : List Record) (s : State) :
    (serveSettleDue w s).ksu = s.ksu ∧ (serveSettleDue w s).strokeQueue = s.strokeQueue ∧
    (serveSettleDue w s).dict = s.dict ∧ (serveSettleDue w s).sdram = s.sdram ∧
    (serveSettleDue w s).mp = s.mp ∧ (serveSettleDue w s).speakers = s.speakers ∧
    (serveSettleDue w s).spi = s.spi ∧ (serveSettleDue w s).spdo = s.spdo ∧ (serveSettleDue w s).pending = s.pending ∧
    (serveSettleDue w s).cp.queue = s.cp.queue ∧
    (serveSettleDue w s).cp.executing = s.cp.executing ∧
    (serveSettleDue w s).cp.responses = s.cp.responses ∧
    (serveSettleDue w s).cp.restarts = s.cp.restarts ∧
    (serveSettleDue w s).cp.respEnable = s.cp.respEnable ∧
    (serveSettleDue w s).cp.reportEnable = s.cp.reportEnable ∧
    (serveSettleDue w s).cp.noticeEnable = s.cp.noticeEnable ∧
    (serveSettleDue w s).cp.trigger = s.cp.trigger := by
  induction w generalizing s with
  | nil => simp [serveSettleDue]
  | cons r w ih => unfold serveSettleDue; split <;> simp [ih]

@[simp] theorem State.setRescanPending_frame (s : State) :
    s.setRescanPending.ksu = s.ksu ∧ s.setRescanPending.strokeQueue = s.strokeQueue ∧
    s.setRescanPending.dict = s.dict ∧ s.setRescanPending.sdram = s.sdram ∧
    s.setRescanPending.mp = s.mp ∧ s.setRescanPending.speakers = s.speakers ∧
    s.setRescanPending.chans = s.chans ∧ s.setRescanPending.cp = s.cp ∧
    s.setRescanPending.spi = s.spi ∧ s.setRescanPending.spdo = s.spdo ∧ s.setRescanPending.pending = s.pending := by unfold State.setRescanPending; simp

@[simp] theorem State.signalRescan_frame (s : State) :
    s.signalRescan.ksu = s.ksu ∧ s.signalRescan.strokeQueue = s.strokeQueue ∧
    s.signalRescan.dict = s.dict ∧ s.signalRescan.sdram = s.sdram ∧ s.signalRescan.mp = s.mp ∧
    s.signalRescan.speakers = s.speakers ∧ s.signalRescan.chans = s.chans ∧
    s.signalRescan.cp = s.cp ∧ s.signalRescan.spi = s.spi ∧ s.signalRescan.spdo = s.spdo ∧ s.signalRescan.pending = s.pending := by unfold State.signalRescan; (repeat' split) <;> simp

@[simp] theorem State.noteViewChange_frame (s : State) :
    s.noteViewChange.ksu = s.ksu ∧ s.noteViewChange.strokeQueue = s.strokeQueue ∧
    s.noteViewChange.dict = s.dict ∧ s.noteViewChange.sdram = s.sdram ∧
    s.noteViewChange.mp = s.mp ∧ s.noteViewChange.speakers = s.speakers ∧
    s.noteViewChange.chans = s.chans ∧ s.noteViewChange.cp = s.cp ∧
    s.noteViewChange.spi = s.spi ∧ s.noteViewChange.spdo = s.spdo ∧ s.noteViewChange.pending = s.pending := by unfold State.noteViewChange; simp

@[simp] theorem State.setSettleDue_frame (s : State) :
    s.setSettleDue.ksu = s.ksu ∧ s.setSettleDue.strokeQueue = s.strokeQueue ∧
    s.setSettleDue.dict = s.dict ∧ s.setSettleDue.sdram = s.sdram ∧ s.setSettleDue.mp = s.mp ∧
    s.setSettleDue.speakers = s.speakers ∧ s.setSettleDue.chans = s.chans ∧
    s.setSettleDue.cp = s.cp ∧ s.setSettleDue.spi = s.spi ∧ s.setSettleDue.spdo = s.spdo ∧ s.setSettleDue.pending = s.pending := by unfold State.setSettleDue; simp

@[simp] theorem State.changeNotice_frame (s : State) (o : List Stroke) :
    (s.changeNotice o).ksu = s.ksu ∧ (s.changeNotice o).strokeQueue = s.strokeQueue ∧
    (s.changeNotice o).dict = s.dict ∧ (s.changeNotice o).sdram = s.sdram ∧
    (s.changeNotice o).mp = s.mp ∧ (s.changeNotice o).speakers = s.speakers ∧
    (s.changeNotice o).chans = s.chans ∧ (s.changeNotice o).cp = s.cp ∧
    (s.changeNotice o).spi = s.spi ∧ (s.changeNotice o).spdo = s.spdo ∧ (s.changeNotice o).pending = s.pending := by unfold State.changeNotice; (repeat' split) <;> simp

@[simp] theorem State.becomeIdle_frame (s : State) :
    s.becomeIdle.ksu = s.ksu ∧ s.becomeIdle.strokeQueue = s.strokeQueue ∧
    s.becomeIdle.dict = s.dict ∧ s.becomeIdle.sdram = s.sdram ∧ s.becomeIdle.mp = s.mp ∧
    s.becomeIdle.speakers = s.speakers ∧ s.becomeIdle.chans = s.chans ∧ s.becomeIdle.cp = s.cp ∧
    s.becomeIdle.spi = s.spi ∧ s.becomeIdle.spdo = s.spdo ∧ s.becomeIdle.pending = s.pending := by unfold State.becomeIdle; simp

@[simp] theorem State.completeRescan_frame (s : State) (w : List Record) :
    (s.completeRescan w).ksu = s.ksu ∧ (s.completeRescan w).strokeQueue = s.strokeQueue ∧
    (s.completeRescan w).dict = s.dict ∧ (s.completeRescan w).sdram = s.sdram ∧
    (s.completeRescan w).mp = s.mp ∧ (s.completeRescan w).speakers = s.speakers ∧
    (s.completeRescan w).spi = s.spi ∧ (s.completeRescan w).spdo = s.spdo ∧ (s.completeRescan w).pending = s.pending ∧
    (s.completeRescan w).cp.queue = s.cp.queue ∧
    (s.completeRescan w).cp.executing = s.cp.executing ∧
    (s.completeRescan w).cp.responses = s.cp.responses ∧
    (s.completeRescan w).cp.restarts = s.cp.restarts ∧
    (s.completeRescan w).cp.respEnable = s.cp.respEnable ∧
    (s.completeRescan w).cp.reportEnable = s.cp.reportEnable ∧
    (s.completeRescan w).cp.noticeEnable = s.cp.noticeEnable ∧
    (s.completeRescan w).cp.trigger = s.cp.trigger := by unfold State.completeRescan; simp

@[simp] theorem State.replaying_frame (s : State) (t : ProbeTable) (v : List Stroke) (w : List Record) :
    (s.replaying t v w).ksu = s.ksu ∧ (s.replaying t v w).strokeQueue = s.strokeQueue ∧
    (s.replaying t v w).dict = s.dict ∧ (s.replaying t v w).sdram = s.sdram ∧
    (s.replaying t v w).mp = s.mp ∧ (s.replaying t v w).speakers = s.speakers ∧
    (s.replaying t v w).chans = s.chans ∧ (s.replaying t v w).cp = s.cp ∧
    (s.replaying t v w).spi = s.spi ∧ (s.replaying t v w).spdo = s.spdo ∧ (s.replaying t v w).pending = s.pending := by unfold State.replaying; simp

@[simp] theorem replayFrom_frame (v : List Stroke) (w : List Record) (s : State) :
    (replayFrom v w s).ksu = s.ksu ∧ (replayFrom v w s).strokeQueue = s.strokeQueue ∧
    (replayFrom v w s).dict = s.dict ∧ (replayFrom v w s).sdram = s.sdram ∧
    (replayFrom v w s).mp = s.mp ∧ (replayFrom v w s).speakers = s.speakers ∧
    (replayFrom v w s).spi = s.spi ∧ (replayFrom v w s).spdo = s.spdo ∧ (replayFrom v w s).pending = s.pending ∧
    (replayFrom v w s).cp.queue = s.cp.queue ∧ (replayFrom v w s).cp.executing = s.cp.executing ∧
    (replayFrom v w s).cp.responses = s.cp.responses ∧
    (replayFrom v w s).cp.restarts = s.cp.restarts ∧
    (replayFrom v w s).cp.respEnable = s.cp.respEnable ∧
    (replayFrom v w s).cp.reportEnable = s.cp.reportEnable ∧
    (replayFrom v w s).cp.noticeEnable = s.cp.noticeEnable ∧
    (replayFrom v w s).cp.trigger = s.cp.trigger := by
  induction v generalizing w with
  | nil => simp [replayFrom]
  | cons v rest ih => unfold replayFrom; split <;> simp [ih]

@[simp] theorem State.testView_frame (s : State) (t : ProbeTable) :
    (s.testView t).ksu = s.ksu ∧ (s.testView t).strokeQueue = s.strokeQueue ∧
    (s.testView t).dict = s.dict ∧ (s.testView t).sdram = s.sdram ∧ (s.testView t).mp = s.mp ∧
    (s.testView t).speakers = s.speakers ∧ (s.testView t).chans = s.chans ∧
    (s.testView t).cp = s.cp ∧ (s.testView t).spi = s.spi ∧ (s.testView t).spdo = s.spdo ∧ (s.testView t).pending = s.pending := by unfold State.testView; (repeat' split) <;> simp

@[simp] theorem State.clearTable_frame (s : State) (t : ProbeTable) :
    (s.clearTable t).ksu = s.ksu ∧ (s.clearTable t).strokeQueue = s.strokeQueue ∧
    (s.clearTable t).dict = s.dict ∧ (s.clearTable t).sdram = s.sdram ∧
    (s.clearTable t).speakers = s.speakers ∧ (s.clearTable t).chans = s.chans ∧
    (s.clearTable t).cp = s.cp ∧ (s.clearTable t).spi = s.spi ∧ (s.clearTable t).spdo = s.spdo ∧
    (s.clearTable t).pending = s.pending := by unfold State.clearTable; simp

@[simp] theorem State.completeResolution_frame (s : State) (t : ProbeTable) (d : Decision) :
    (s.completeResolution t d).ksu = s.ksu ∧
    (s.completeResolution t d).strokeQueue = s.strokeQueue ∧
    (s.completeResolution t d).dict = s.dict ∧ (s.completeResolution t d).sdram = s.sdram ∧
    (s.completeResolution t d).speakers = s.speakers ∧ (s.completeResolution t d).spi = s.spi ∧ (s.completeResolution t d).spdo = s.spdo ∧
    (s.completeResolution t d).pending = s.pending ∧
    (s.completeResolution t d).cp.queue = s.cp.queue ∧
    (s.completeResolution t d).cp.executing = s.cp.executing ∧
    (s.completeResolution t d).cp.responses = s.cp.responses ∧
    (s.completeResolution t d).cp.restarts = s.cp.restarts ∧
    (s.completeResolution t d).cp.respEnable = s.cp.respEnable ∧
    (s.completeResolution t d).cp.reportEnable = s.cp.reportEnable ∧
    (s.completeResolution t d).cp.noticeEnable = s.cp.noticeEnable ∧
    (s.completeResolution t d).cp.trigger = s.cp.trigger := by unfold State.completeResolution; simp

@[simp] theorem State.completeReplayed_frame (s : State) (t : ProbeTable) (r : Replay) (d : Decision) :
    (s.completeReplayed t r d).ksu = s.ksu ∧
    (s.completeReplayed t r d).strokeQueue = s.strokeQueue ∧
    (s.completeReplayed t r d).dict = s.dict ∧ (s.completeReplayed t r d).sdram = s.sdram ∧
    (s.completeReplayed t r d).speakers = s.speakers ∧ (s.completeReplayed t r d).spi = s.spi ∧ (s.completeReplayed t r d).spdo = s.spdo ∧
    (s.completeReplayed t r d).pending = s.pending ∧
    (s.completeReplayed t r d).cp.queue = s.cp.queue ∧
    (s.completeReplayed t r d).cp.executing = s.cp.executing ∧
    (s.completeReplayed t r d).cp.responses = s.cp.responses ∧
    (s.completeReplayed t r d).cp.restarts = s.cp.restarts ∧
    (s.completeReplayed t r d).cp.respEnable = s.cp.respEnable ∧
    (s.completeReplayed t r d).cp.reportEnable = s.cp.reportEnable ∧
    (s.completeReplayed t r d).cp.noticeEnable = s.cp.noticeEnable ∧
    (s.completeReplayed t r d).cp.trigger = s.cp.trigger := by unfold State.completeReplayed; simp

@[simp] theorem State.tryDecide_frame (s : State) :
    s.tryDecide.ksu = s.ksu ∧ s.tryDecide.strokeQueue = s.strokeQueue ∧
    s.tryDecide.dict = s.dict ∧ s.tryDecide.sdram = s.sdram ∧ s.tryDecide.speakers = s.speakers ∧
    s.tryDecide.spi = s.spi ∧ s.tryDecide.spdo = s.spdo ∧ s.tryDecide.pending = s.pending ∧
    s.tryDecide.cp.queue = s.cp.queue ∧ s.tryDecide.cp.executing = s.cp.executing ∧
    s.tryDecide.cp.responses = s.cp.responses ∧ s.tryDecide.cp.restarts = s.cp.restarts ∧
    s.tryDecide.cp.respEnable = s.cp.respEnable ∧
    s.tryDecide.cp.reportEnable = s.cp.reportEnable ∧
    s.tryDecide.cp.noticeEnable = s.cp.noticeEnable ∧ s.tryDecide.cp.trigger = s.cp.trigger := by unfold State.tryDecide; (repeat' split) <;> simp

@[simp] theorem State.deliver_frame (s : State) (t : List (Fin 32)) (r : PairResult) :
    (s.deliver t r).ksu = s.ksu ∧ (s.deliver t r).strokeQueue = s.strokeQueue ∧
    (s.deliver t r).dict = s.dict ∧ (s.deliver t r).sdram = s.sdram ∧
    (s.deliver t r).speakers = s.speakers ∧ (s.deliver t r).spi = s.spi ∧ (s.deliver t r).spdo = s.spdo ∧
    (s.deliver t r).pending = s.pending ∧ (s.deliver t r).cp.queue = s.cp.queue ∧
    (s.deliver t r).cp.executing = s.cp.executing ∧
    (s.deliver t r).cp.responses = s.cp.responses ∧ (s.deliver t r).cp.restarts = s.cp.restarts ∧
    (s.deliver t r).cp.respEnable = s.cp.respEnable ∧
    (s.deliver t r).cp.reportEnable = s.cp.reportEnable ∧
    (s.deliver t r).cp.noticeEnable = s.cp.noticeEnable ∧
    (s.deliver t r).cp.trigger = s.cp.trigger := by unfold State.deliver; simp

@[simp] theorem State.takeProbe_frame (s : State) (n : SlotNo) (t : Fin 32) :
    (s.takeProbe n t).ksu = s.ksu ∧ (s.takeProbe n t).strokeQueue = s.strokeQueue ∧
    (s.takeProbe n t).dict = s.dict ∧ (s.takeProbe n t).sdram = s.sdram ∧
    (s.takeProbe n t).te = s.te ∧ (s.takeProbe n t).speakers = s.speakers ∧
    (s.takeProbe n t).chans = s.chans ∧ (s.takeProbe n t).cp = s.cp ∧
    (s.takeProbe n t).spi = s.spi ∧ (s.takeProbe n t).spdo = s.spdo ∧ (s.takeProbe n t).pending = s.pending := by unfold State.takeProbe; simp

@[simp] theorem State.finishRelease_frame (s : State) (n : SlotNo) :
    (s.finishRelease n).ksu = s.ksu ∧ (s.finishRelease n).strokeQueue = s.strokeQueue ∧
    (s.finishRelease n).sdram = s.sdram ∧ (s.finishRelease n).te = s.te ∧
    (s.finishRelease n).speakers = s.speakers ∧ (s.finishRelease n).chans = s.chans ∧
    (s.finishRelease n).spi = s.spi ∧ (s.finishRelease n).spdo = s.spdo ∧ (s.finishRelease n).pending = s.pending ∧
    (s.finishRelease n).cp.queue = s.cp.queue ∧ (s.finishRelease n).cp.restarts = s.cp.restarts ∧
    (s.finishRelease n).cp.respEnable = s.cp.respEnable ∧
    (s.finishRelease n).cp.reportEnable = s.cp.reportEnable ∧
    (s.finishRelease n).cp.noticeEnable = s.cp.noticeEnable ∧
    (s.finishRelease n).cp.trigger = s.cp.trigger ∧
    (s.finishRelease n).cp.reports = s.cp.reports ∧
    (s.finishRelease n).cp.notices = s.cp.notices := by unfold State.finishRelease; simp

@[simp] theorem takeClaims_frame (n : SlotNo) (c : List Claim) (s : State) :
    (takeClaims n c s).ksu = s.ksu ∧ (takeClaims n c s).strokeQueue = s.strokeQueue ∧
    (takeClaims n c s).sdram = s.sdram ∧ (takeClaims n c s).te = s.te ∧
    (takeClaims n c s).speakers = s.speakers ∧ (takeClaims n c s).chans = s.chans ∧
    (takeClaims n c s).spi = s.spi ∧ (takeClaims n c s).spdo = s.spdo ∧ (takeClaims n c s).pending = s.pending ∧
    (takeClaims n c s).cp.queue = s.cp.queue ∧ (takeClaims n c s).cp.restarts = s.cp.restarts ∧
    (takeClaims n c s).cp.respEnable = s.cp.respEnable ∧
    (takeClaims n c s).cp.reportEnable = s.cp.reportEnable ∧
    (takeClaims n c s).cp.noticeEnable = s.cp.noticeEnable ∧
    (takeClaims n c s).cp.trigger = s.cp.trigger ∧ (takeClaims n c s).cp.reports = s.cp.reports ∧
    (takeClaims n c s).cp.notices = s.cp.notices := by
  induction c generalizing s with
  | nil => simp [takeClaims]
  | cons c rest ih => cases c <;> unfold takeClaims <;> (try split) <;> simp [ih]

@[simp] theorem State.serveGate_frame (s : State) (n : SlotNo) :
    (s.serveGate n).ksu = s.ksu ∧ (s.serveGate n).strokeQueue = s.strokeQueue ∧
    (s.serveGate n).sdram = s.sdram ∧ (s.serveGate n).te = s.te ∧
    (s.serveGate n).speakers = s.speakers ∧ (s.serveGate n).chans = s.chans ∧
    (s.serveGate n).spi = s.spi ∧ (s.serveGate n).spdo = s.spdo ∧ (s.serveGate n).pending = s.pending ∧
    (s.serveGate n).cp.queue = s.cp.queue ∧ (s.serveGate n).cp.restarts = s.cp.restarts ∧
    (s.serveGate n).cp.respEnable = s.cp.respEnable ∧
    (s.serveGate n).cp.reportEnable = s.cp.reportEnable ∧
    (s.serveGate n).cp.noticeEnable = s.cp.noticeEnable ∧
    (s.serveGate n).cp.trigger = s.cp.trigger ∧ (s.serveGate n).cp.reports = s.cp.reports ∧
    (s.serveGate n).cp.notices = s.cp.notices := by unfold State.serveGate; (repeat' split) <;> simp

@[simp] theorem State.claimGate_frame (s : State) (n : SlotNo) (c : Claim) :
    (s.claimGate n c).ksu = s.ksu ∧ (s.claimGate n c).strokeQueue = s.strokeQueue ∧
    (s.claimGate n c).sdram = s.sdram ∧ (s.claimGate n c).te = s.te ∧
    (s.claimGate n c).speakers = s.speakers ∧ (s.claimGate n c).chans = s.chans ∧
    (s.claimGate n c).spi = s.spi ∧ (s.claimGate n c).spdo = s.spdo ∧ (s.claimGate n c).pending = s.pending ∧
    (s.claimGate n c).cp.queue = s.cp.queue ∧ (s.claimGate n c).cp.restarts = s.cp.restarts ∧
    (s.claimGate n c).cp.respEnable = s.cp.respEnable ∧
    (s.claimGate n c).cp.reportEnable = s.cp.reportEnable ∧
    (s.claimGate n c).cp.noticeEnable = s.cp.noticeEnable ∧
    (s.claimGate n c).cp.trigger = s.cp.trigger ∧ (s.claimGate n c).cp.reports = s.cp.reports ∧
    (s.claimGate n c).cp.notices = s.cp.notices := by unfold State.claimGate; simp

@[simp] theorem State.releaseGate_frame (s : State) (n : SlotNo) :
    (s.releaseGate n).ksu = s.ksu ∧ (s.releaseGate n).strokeQueue = s.strokeQueue ∧
    (s.releaseGate n).sdram = s.sdram ∧ (s.releaseGate n).te = s.te ∧
    (s.releaseGate n).speakers = s.speakers ∧ (s.releaseGate n).chans = s.chans ∧
    (s.releaseGate n).spi = s.spi ∧ (s.releaseGate n).spdo = s.spdo ∧ (s.releaseGate n).pending = s.pending ∧
    (s.releaseGate n).cp.queue = s.cp.queue ∧ (s.releaseGate n).cp.restarts = s.cp.restarts ∧
    (s.releaseGate n).cp.respEnable = s.cp.respEnable ∧
    (s.releaseGate n).cp.reportEnable = s.cp.reportEnable ∧
    (s.releaseGate n).cp.noticeEnable = s.cp.noticeEnable ∧
    (s.releaseGate n).cp.trigger = s.cp.trigger ∧ (s.releaseGate n).cp.reports = s.cp.reports ∧
    (s.releaseGate n).cp.notices = s.cp.notices := by unfold State.releaseGate; simp

@[simp] theorem State.beginUpkeep_frame (s : State) (n : SlotNo) (o : UpkeepOp) :
    (s.beginUpkeep n o).ksu = s.ksu ∧ (s.beginUpkeep n o).strokeQueue = s.strokeQueue ∧
    (s.beginUpkeep n o).sdram = s.sdram ∧ (s.beginUpkeep n o).te = s.te ∧
    (s.beginUpkeep n o).speakers = s.speakers ∧ (s.beginUpkeep n o).chans = s.chans ∧
    (s.beginUpkeep n o).spi = s.spi ∧ (s.beginUpkeep n o).spdo = s.spdo ∧ (s.beginUpkeep n o).pending = s.pending ∧
    (s.beginUpkeep n o).cp.queue = s.cp.queue ∧ (s.beginUpkeep n o).cp.restarts = s.cp.restarts ∧
    (s.beginUpkeep n o).cp.respEnable = s.cp.respEnable ∧
    (s.beginUpkeep n o).cp.reportEnable = s.cp.reportEnable ∧
    (s.beginUpkeep n o).cp.noticeEnable = s.cp.noticeEnable ∧
    (s.beginUpkeep n o).cp.trigger = s.cp.trigger ∧
    (s.beginUpkeep n o).cp.reports = s.cp.reports ∧
    (s.beginUpkeep n o).cp.notices = s.cp.notices := by unfold State.beginUpkeep; simp

@[simp] theorem State.enterNextResult_frame (s : State) (r : PairResult) :
    (s.enterNextResult r).ksu = s.ksu ∧ (s.enterNextResult r).strokeQueue = s.strokeQueue ∧
    (s.enterNextResult r).dict = s.dict ∧ (s.enterNextResult r).sdram = s.sdram ∧
    (s.enterNextResult r).mp = s.mp ∧ (s.enterNextResult r).speakers = s.speakers ∧
    (s.enterNextResult r).chans = s.chans ∧ (s.enterNextResult r).cp = s.cp ∧
    (s.enterNextResult r).spi = s.spi ∧ (s.enterNextResult r).spdo = s.spdo ∧ (s.enterNextResult r).pending = s.pending := by unfold State.enterNextResult; simp

@[simp] theorem State.issue_frame (s : State) (p : Pair) (t : Fin 32) :
    (s.issue p t).ksu = s.ksu ∧ (s.issue p t).strokeQueue = s.strokeQueue ∧
    (s.issue p t).sdram = s.sdram ∧ (s.issue p t).speakers = s.speakers ∧
    (s.issue p t).spi = s.spi ∧ (s.issue p t).spdo = s.spdo ∧ (s.issue p t).pending = s.pending ∧
    (s.issue p t).cp.queue = s.cp.queue ∧ (s.issue p t).cp.restarts = s.cp.restarts ∧
    (s.issue p t).cp.respEnable = s.cp.respEnable ∧
    (s.issue p t).cp.reportEnable = s.cp.reportEnable ∧
    (s.issue p t).cp.noticeEnable = s.cp.noticeEnable ∧ (s.issue p t).cp.trigger = s.cp.trigger := by simp only [State.issue]; (repeat' split) <;> simp

@[simp] theorem State.undo_frame (s : State) :
    s.undo.ksu = s.ksu ∧ s.undo.strokeQueue = s.strokeQueue ∧ s.undo.dict = s.dict ∧
    s.undo.sdram = s.sdram ∧ s.undo.mp = s.mp ∧ s.undo.speakers = s.speakers ∧
    s.undo.spi = s.spi ∧ s.undo.spdo = s.spdo ∧ s.undo.pending = s.pending ∧ s.undo.cp.queue = s.cp.queue ∧
    s.undo.cp.executing = s.cp.executing ∧ s.undo.cp.responses = s.cp.responses ∧
    s.undo.cp.restarts = s.cp.restarts ∧ s.undo.cp.respEnable = s.cp.respEnable ∧
    s.undo.cp.reportEnable = s.cp.reportEnable ∧ s.undo.cp.noticeEnable = s.cp.noticeEnable ∧
    s.undo.cp.trigger = s.cp.trigger := by unfold State.undo; simp

@[simp] theorem State.resolve_frame (s : State) (v : Stroke) :
    (s.resolve v).ksu = s.ksu ∧ (s.resolve v).strokeQueue = s.strokeQueue ∧
    (s.resolve v).dict = s.dict ∧ (s.resolve v).sdram = s.sdram ∧
    (s.resolve v).speakers = s.speakers ∧ (s.resolve v).spi = s.spi ∧ (s.resolve v).spdo = s.spdo ∧
    (s.resolve v).pending = s.pending ∧ (s.resolve v).cp.queue = s.cp.queue ∧
    (s.resolve v).cp.executing = s.cp.executing ∧ (s.resolve v).cp.responses = s.cp.responses ∧
    (s.resolve v).cp.restarts = s.cp.restarts ∧ (s.resolve v).cp.respEnable = s.cp.respEnable ∧
    (s.resolve v).cp.reportEnable = s.cp.reportEnable ∧
    (s.resolve v).cp.noticeEnable = s.cp.noticeEnable ∧ (s.resolve v).cp.trigger = s.cp.trigger := by unfold State.resolve; simp

@[simp] theorem State.takeStroke_frame (s : State) (r : StrokeRecord) (q : List StrokeRecord) :
    (s.takeStroke r q).ksu = s.ksu ∧ (s.takeStroke r q).dict = s.dict ∧
    (s.takeStroke r q).sdram = s.sdram ∧ (s.takeStroke r q).speakers = s.speakers ∧
    (s.takeStroke r q).spi = s.spi ∧ (s.takeStroke r q).spdo = s.spdo ∧ (s.takeStroke r q).pending = s.pending ∧
    (s.takeStroke r q).cp.queue = s.cp.queue ∧ (s.takeStroke r q).cp.executing = s.cp.executing ∧
    (s.takeStroke r q).cp.responses = s.cp.responses ∧
    (s.takeStroke r q).cp.restarts = s.cp.restarts ∧
    (s.takeStroke r q).cp.respEnable = s.cp.respEnable ∧
    (s.takeStroke r q).cp.reportEnable = s.cp.reportEnable ∧
    (s.takeStroke r q).cp.noticeEnable = s.cp.noticeEnable ∧
    (s.takeStroke r q).cp.trigger = s.cp.trigger := by simp only [State.takeStroke]; (repeat' split) <;> simp

@[simp] theorem State.serviceStroke_frame (s : State) :
    s.serviceStroke.ksu = s.ksu ∧ s.serviceStroke.dict = s.dict ∧
    s.serviceStroke.sdram = s.sdram ∧ s.serviceStroke.speakers = s.speakers ∧
    s.serviceStroke.spi = s.spi ∧ s.serviceStroke.spdo = s.spdo ∧ s.serviceStroke.pending = s.pending ∧
    s.serviceStroke.cp.queue = s.cp.queue ∧ s.serviceStroke.cp.executing = s.cp.executing ∧
    s.serviceStroke.cp.responses = s.cp.responses ∧ s.serviceStroke.cp.restarts = s.cp.restarts ∧
    s.serviceStroke.cp.respEnable = s.cp.respEnable ∧
    s.serviceStroke.cp.reportEnable = s.cp.reportEnable ∧
    s.serviceStroke.cp.noticeEnable = s.cp.noticeEnable ∧
    s.serviceStroke.cp.trigger = s.cp.trigger := by unfold State.serviceStroke; (repeat' split) <;> simp

@[simp] theorem State.beginRescan_frame (s : State) :
    s.beginRescan.ksu = s.ksu ∧ s.beginRescan.strokeQueue = s.strokeQueue ∧
    s.beginRescan.dict = s.dict ∧ s.beginRescan.sdram = s.sdram ∧ s.beginRescan.mp = s.mp ∧
    s.beginRescan.speakers = s.speakers ∧ s.beginRescan.spi = s.spi ∧ s.beginRescan.spdo = s.spdo ∧
    s.beginRescan.pending = s.pending ∧ s.beginRescan.cp.queue = s.cp.queue ∧
    s.beginRescan.cp.executing = s.cp.executing ∧ s.beginRescan.cp.responses = s.cp.responses ∧
    s.beginRescan.cp.restarts = s.cp.restarts ∧ s.beginRescan.cp.respEnable = s.cp.respEnable ∧
    s.beginRescan.cp.reportEnable = s.cp.reportEnable ∧
    s.beginRescan.cp.noticeEnable = s.cp.noticeEnable ∧ s.beginRescan.cp.trigger = s.cp.trigger := by simp only [State.beginRescan]; (repeat' split) <;> simp

@[simp] theorem State.serviceOrder_frame (s : State) :
    s.serviceOrder.ksu = s.ksu ∧ s.serviceOrder.dict = s.dict ∧ s.serviceOrder.sdram = s.sdram ∧
    s.serviceOrder.speakers = s.speakers ∧ s.serviceOrder.spi = s.spi ∧ s.serviceOrder.spdo = s.spdo ∧
    s.serviceOrder.pending = s.pending ∧ s.serviceOrder.cp.queue = s.cp.queue ∧
    s.serviceOrder.cp.executing = s.cp.executing ∧ s.serviceOrder.cp.responses = s.cp.responses ∧
    s.serviceOrder.cp.restarts = s.cp.restarts ∧ s.serviceOrder.cp.respEnable = s.cp.respEnable ∧
    s.serviceOrder.cp.reportEnable = s.cp.reportEnable ∧
    s.serviceOrder.cp.noticeEnable = s.cp.noticeEnable ∧
    s.serviceOrder.cp.trigger = s.cp.trigger := by unfold State.serviceOrder; (repeat' split) <;> simp

end Sys2Proof.Machine
end

