-- ==== Sys2Proof/Laws/Upkeep.lean ====
section
/-!
SUPPORT. Frames of entry operations, slot commands, RESTART and the transactions: which blocks of the state each
operation leaves as they were, and which fields of the Command Port.
-/

namespace Sys2Proof.Machine

@[simp] theorem State.beginEntryOp_frame (s : State) (k : EntryKind) (n : SlotNo) (o : List Stroke) (f : Byte) (t : List Byte) (a : Bool)
    (l : List SlotNo) :
    (s.beginEntryOp k n o f t a l).ksu = s.ksu ∧
    (s.beginEntryOp k n o f t a l).strokeQueue = s.strokeQueue ∧
    (s.beginEntryOp k n o f t a l).sdram = s.sdram ∧ (s.beginEntryOp k n o f t a l).te = s.te ∧
    (s.beginEntryOp k n o f t a l).speakers = s.speakers ∧
    (s.beginEntryOp k n o f t a l).chans = s.chans ∧
    (s.beginEntryOp k n o f t a l).spi = s.spi ∧ (s.beginEntryOp k n o f t a l).spdo = s.spdo ∧
    (s.beginEntryOp k n o f t a l).pending = s.pending ∧
    (s.beginEntryOp k n o f t a l).cp.queue = s.cp.queue ∧
    (s.beginEntryOp k n o f t a l).cp.restarts = s.cp.restarts ∧
    (s.beginEntryOp k n o f t a l).cp.respEnable = s.cp.respEnable ∧
    (s.beginEntryOp k n o f t a l).cp.reportEnable = s.cp.reportEnable ∧
    (s.beginEntryOp k n o f t a l).cp.noticeEnable = s.cp.noticeEnable ∧
    (s.beginEntryOp k n o f t a l).cp.trigger = s.cp.trigger ∧
    (s.beginEntryOp k n o f t a l).cp.reports = s.cp.reports ∧
    (s.beginEntryOp k n o f t a l).cp.notices = s.cp.notices := by unfold State.beginEntryOp; simp

@[simp] theorem State.clearUpkeep_frame (s : State) :
    s.clearUpkeep.ksu = s.ksu ∧ s.clearUpkeep.strokeQueue = s.strokeQueue ∧
    s.clearUpkeep.dict = s.dict ∧ s.clearUpkeep.sdram = s.sdram ∧ s.clearUpkeep.te = s.te ∧
    s.clearUpkeep.speakers = s.speakers ∧ s.clearUpkeep.chans = s.chans ∧
    s.clearUpkeep.cp = s.cp ∧ s.clearUpkeep.spi = s.spi ∧ s.clearUpkeep.spdo = s.spdo ∧ s.clearUpkeep.pending = s.pending := by unfold State.clearUpkeep; simp

@[simp] theorem State.answerEntryOp_frame (s : State) (o : EntryOp) :
    (s.answerEntryOp o).ksu = s.ksu ∧ (s.answerEntryOp o).strokeQueue = s.strokeQueue ∧
    (s.answerEntryOp o).sdram = s.sdram ∧ (s.answerEntryOp o).mp = s.mp ∧
    (s.answerEntryOp o).speakers = s.speakers ∧ (s.answerEntryOp o).chans = s.chans ∧
    (s.answerEntryOp o).spi = s.spi ∧ (s.answerEntryOp o).spdo = s.spdo ∧ (s.answerEntryOp o).pending = s.pending ∧
    (s.answerEntryOp o).cp.queue = s.cp.queue ∧ (s.answerEntryOp o).cp.restarts = s.cp.restarts ∧
    (s.answerEntryOp o).cp.respEnable = s.cp.respEnable ∧
    (s.answerEntryOp o).cp.reportEnable = s.cp.reportEnable ∧
    (s.answerEntryOp o).cp.noticeEnable = s.cp.noticeEnable ∧
    (s.answerEntryOp o).cp.trigger = s.cp.trigger ∧
    (s.answerEntryOp o).cp.reports = s.cp.reports ∧
    (s.answerEntryOp o).cp.notices = s.cp.notices := by simp only [State.answerEntryOp]; (repeat' split) <;> simp

@[simp] theorem State.endEntryOp_frame (s : State) (o : EntryOp) :
    (s.endEntryOp o).ksu = s.ksu ∧ (s.endEntryOp o).strokeQueue = s.strokeQueue ∧
    (s.endEntryOp o).sdram = s.sdram ∧ (s.endEntryOp o).speakers = s.speakers ∧
    (s.endEntryOp o).chans = s.chans ∧ (s.endEntryOp o).spi = s.spi ∧ (s.endEntryOp o).spdo = s.spdo ∧
    (s.endEntryOp o).pending = s.pending ∧ (s.endEntryOp o).cp.queue = s.cp.queue ∧
    (s.endEntryOp o).cp.restarts = s.cp.restarts ∧
    (s.endEntryOp o).cp.respEnable = s.cp.respEnable ∧
    (s.endEntryOp o).cp.reportEnable = s.cp.reportEnable ∧
    (s.endEntryOp o).cp.noticeEnable = s.cp.noticeEnable ∧
    (s.endEntryOp o).cp.trigger = s.cp.trigger ∧ (s.endEntryOp o).cp.reports = s.cp.reports ∧
    (s.endEntryOp o).cp.notices = s.cp.notices := by unfold State.endEntryOp; (repeat' split) <;> simp

@[simp] theorem State.answerMiss_frame (s : State) (n : SlotNo) :
    (s.answerMiss n).ksu = s.ksu ∧ (s.answerMiss n).strokeQueue = s.strokeQueue ∧
    (s.answerMiss n).dict = s.dict ∧ (s.answerMiss n).sdram = s.sdram ∧
    (s.answerMiss n).speakers = s.speakers ∧ (s.answerMiss n).spi = s.spi ∧ (s.answerMiss n).spdo = s.spdo ∧
    (s.answerMiss n).pending = s.pending ∧ (s.answerMiss n).cp.queue = s.cp.queue ∧
    (s.answerMiss n).cp.executing = s.cp.executing ∧
    (s.answerMiss n).cp.responses = s.cp.responses ∧
    (s.answerMiss n).cp.restarts = s.cp.restarts ∧
    (s.answerMiss n).cp.respEnable = s.cp.respEnable ∧
    (s.answerMiss n).cp.reportEnable = s.cp.reportEnable ∧
    (s.answerMiss n).cp.noticeEnable = s.cp.noticeEnable ∧
    (s.answerMiss n).cp.trigger = s.cp.trigger := by unfold State.answerMiss; simp

@[simp] theorem State.giveAccess_frame (s : State) (n : SlotNo) (a : Access) :
    (s.giveAccess n a).ksu = s.ksu ∧ (s.giveAccess n a).strokeQueue = s.strokeQueue ∧
    (s.giveAccess n a).sdram = s.sdram ∧ (s.giveAccess n a).speakers = s.speakers ∧
    (s.giveAccess n a).spi = s.spi ∧ (s.giveAccess n a).spdo = s.spdo ∧ (s.giveAccess n a).pending = s.pending ∧
    (s.giveAccess n a).cp.queue = s.cp.queue ∧ (s.giveAccess n a).cp.executing = s.cp.executing ∧
    (s.giveAccess n a).cp.responses = s.cp.responses ∧
    (s.giveAccess n a).cp.restarts = s.cp.restarts ∧
    (s.giveAccess n a).cp.respEnable = s.cp.respEnable ∧
    (s.giveAccess n a).cp.reportEnable = s.cp.reportEnable ∧
    (s.giveAccess n a).cp.noticeEnable = s.cp.noticeEnable ∧
    (s.giveAccess n a).cp.trigger = s.cp.trigger := by simp only [State.giveAccess]; (repeat' split) <;> simp

@[simp] theorem State.abandonFormat_frame (s : State) (n : SlotNo) :
    (s.abandonFormat n).ksu = s.ksu ∧ (s.abandonFormat n).strokeQueue = s.strokeQueue ∧
    (s.abandonFormat n).sdram = s.sdram ∧ (s.abandonFormat n).mp = s.mp ∧
    (s.abandonFormat n).te = s.te ∧ (s.abandonFormat n).speakers = s.speakers ∧
    (s.abandonFormat n).chans = s.chans ∧ (s.abandonFormat n).cp = s.cp ∧
    (s.abandonFormat n).spi = s.spi ∧ (s.abandonFormat n).spdo = s.spdo ∧ (s.abandonFormat n).pending = s.pending := by unfold State.abandonFormat; simp

@[simp] theorem State.dropUpkeep_frame (s : State) (n : SlotNo) :
    (s.dropUpkeep n).ksu = s.ksu ∧ (s.dropUpkeep n).strokeQueue = s.strokeQueue ∧
    (s.dropUpkeep n).sdram = s.sdram ∧ (s.dropUpkeep n).te = s.te ∧
    (s.dropUpkeep n).speakers = s.speakers ∧ (s.dropUpkeep n).chans = s.chans ∧
    (s.dropUpkeep n).spi = s.spi ∧ (s.dropUpkeep n).spdo = s.spdo ∧ (s.dropUpkeep n).pending = s.pending ∧
    (s.dropUpkeep n).cp.queue = s.cp.queue ∧ (s.dropUpkeep n).cp.restarts = s.cp.restarts ∧
    (s.dropUpkeep n).cp.respEnable = s.cp.respEnable ∧
    (s.dropUpkeep n).cp.reportEnable = s.cp.reportEnable ∧
    (s.dropUpkeep n).cp.noticeEnable = s.cp.noticeEnable ∧
    (s.dropUpkeep n).cp.trigger = s.cp.trigger ∧ (s.dropUpkeep n).cp.reports = s.cp.reports ∧
    (s.dropUpkeep n).cp.notices = s.cp.notices := by unfold State.dropUpkeep; simp

@[simp] theorem State.cutCommand_frame (s : State) :
    s.cutCommand.ksu = s.ksu ∧ s.cutCommand.strokeQueue = s.strokeQueue ∧
    s.cutCommand.sdram = s.sdram ∧ s.cutCommand.te = s.te ∧ s.cutCommand.speakers = s.speakers ∧
    s.cutCommand.chans = s.chans ∧ s.cutCommand.spi = s.spi ∧ s.cutCommand.spdo = s.spdo ∧ s.cutCommand.pending = s.pending ∧
    s.cutCommand.cp.queue = s.cp.queue ∧ s.cutCommand.cp.restarts = s.cp.restarts ∧
    s.cutCommand.cp.respEnable = s.cp.respEnable ∧
    s.cutCommand.cp.reportEnable = s.cp.reportEnable ∧
    s.cutCommand.cp.noticeEnable = s.cp.noticeEnable ∧ s.cutCommand.cp.trigger = s.cp.trigger ∧
    s.cutCommand.cp.reports = s.cp.reports ∧ s.cutCommand.cp.notices = s.cp.notices := by unfold State.cutCommand; (repeat' split) <;> simp

@[simp] theorem State.discardWaiting_frame (s : State) :
    s.discardWaiting.ksu = s.ksu ∧ s.discardWaiting.strokeQueue = s.strokeQueue ∧
    s.discardWaiting.dict = s.dict ∧ s.discardWaiting.sdram = s.sdram ∧
    s.discardWaiting.mp = s.mp ∧ s.discardWaiting.te = s.te ∧
    s.discardWaiting.speakers = s.speakers ∧ s.discardWaiting.chans = s.chans ∧
    s.discardWaiting.spdo = s.spdo ∧ s.discardWaiting.pending = s.pending ∧
    s.discardWaiting.cp.executing = s.cp.executing ∧
    s.discardWaiting.cp.restarts = s.cp.restarts ∧
    s.discardWaiting.cp.respEnable = s.cp.respEnable ∧
    s.discardWaiting.cp.reportEnable = s.cp.reportEnable ∧
    s.discardWaiting.cp.noticeEnable = s.cp.noticeEnable ∧
    s.discardWaiting.cp.trigger = s.cp.trigger ∧ s.discardWaiting.cp.reports = s.cp.reports ∧
    s.discardWaiting.cp.notices = s.cp.notices := by unfold State.discardWaiting; simp

@[simp] theorem State.restartEffect_frame (s : State) :
    s.restartEffect.dict = s.dict ∧ s.restartEffect.sdram = s.sdram ∧
    s.restartEffect.speakers = s.speakers ∧ s.restartEffect.spdo = s.spdo ∧
    s.restartEffect.pending = s.pending ∧ s.restartEffect.cp.queue = s.cp.queue ∧
    s.restartEffect.cp.executing = s.cp.executing ∧
    s.restartEffect.cp.respEnable = s.cp.respEnable ∧
    s.restartEffect.cp.reportEnable = s.cp.reportEnable ∧
    s.restartEffect.cp.noticeEnable = s.cp.noticeEnable ∧
    s.restartEffect.cp.trigger = s.cp.trigger ∧ s.restartEffect.cp.notices = s.cp.notices := by unfold State.restartEffect; simp

@[simp] theorem State.restartIfFree_frame (s : State) :
    s.restartIfFree.dict = s.dict ∧ s.restartIfFree.sdram = s.sdram ∧
    s.restartIfFree.speakers = s.speakers ∧ s.restartIfFree.spdo = s.spdo ∧
    s.restartIfFree.pending = s.pending ∧ s.restartIfFree.cp.queue = s.cp.queue ∧
    s.restartIfFree.cp.executing = s.cp.executing ∧
    s.restartIfFree.cp.respEnable = s.cp.respEnable ∧
    s.restartIfFree.cp.reportEnable = s.cp.reportEnable ∧
    s.restartIfFree.cp.noticeEnable = s.cp.noticeEnable ∧
    s.restartIfFree.cp.trigger = s.cp.trigger ∧ s.restartIfFree.cp.notices = s.cp.notices := by unfold State.restartIfFree; (repeat' split) <;> simp

@[simp] theorem State.takeRestart_frame (s : State) :
    s.takeRestart.sdram = s.sdram ∧ s.takeRestart.speakers = s.speakers ∧
    s.takeRestart.spdo = s.spdo ∧ s.takeRestart.pending = s.pending ∧
    s.takeRestart.cp.respEnable = s.cp.respEnable ∧
    s.takeRestart.cp.reportEnable = s.cp.reportEnable ∧
    s.takeRestart.cp.noticeEnable = s.cp.noticeEnable ∧ s.takeRestart.cp.trigger = s.cp.trigger := by simp only [State.takeRestart]; (repeat' split) <;> simp

@[simp] theorem State.takeFrame_frame (s : State) (f : Frame) :
    (s.takeFrame f).sdram = s.sdram ∧ (s.takeFrame f).speakers = s.speakers ∧
    (s.takeFrame f).spdo = s.spdo ∧ (s.takeFrame f).pending = s.pending ∧
    (s.takeFrame f).cp.respEnable = s.cp.respEnable ∧
    (s.takeFrame f).cp.reportEnable = s.cp.reportEnable ∧
    (s.takeFrame f).cp.noticeEnable = s.cp.noticeEnable ∧
    (s.takeFrame f).cp.trigger = s.cp.trigger := by unfold State.takeFrame; (repeat' split) <;> simp

end Sys2Proof.Machine
end

