-- ==== Sys2Proof/Laws/Transactions.lean ====
section
/-!
SUPPORT. What the moments of a transaction do to the SPI port, by the state of the port; and how many
bits a transaction shifts out.
-/

namespace Sys2Proof.Machine

@[simp] theorem State.selectFall_idle (s : State) (h : s.spi = .idle) :
    s.selectFall = (s.withSpi (.busy ⟨s.portStatus, none, [], false⟩)).withSpdo [] := by
  simp [State.selectFall, h]

@[simp] theorem State.selectFall_low (s : State) (h : s.spi ≠ .idle) : s.selectFall = s := by
  unfold State.selectFall; split <;> simp_all

/-- A lead byte that is none of the four makes a transaction void, and no other does. -/
theorem transferOf_void (b : Byte) : transferOf b = .void ↔ b ∉ leadBytes := by
  unfold transferOf leadBytes
  repeat' split
  all_goals simp_all

@[simp] theorem State.leadByte_busy (s : State) (lead b : Byte) (g : List Byte) (r : Bool)
    (h : s.spi = .busy ⟨b, none, g, r⟩) :
    s.leadByte lead = (s.withSpi (.busy ⟨b, some (transferOf lead), (s.fixes (transferOf lead)).1,
      (s.fixes (transferOf lead)).2⟩)).withSpdo (bitsOf b) := by
  simp [State.leadByte, h]

/-- The lead byte of an ignored selection shifts out a fill byte, and nothing else happens. -/
@[simp] theorem State.leadByte_ignored (s : State) (lead : Byte) (h : s.spi = .ignored) :
    s.leadByte lead = s.withSpdo (bitsOf fillByte) := by
  simp [State.leadByte, h]

/-- An ignored selection ends at the rise of SPSEL, fill bits shifted out, without effect. -/
@[simp] theorem State.selectRise_ignored (s : State) (k : Option Transfer) (n : Nat)
    (e : Transaction → State → State) (h : s.spi = .ignored) :
    s.selectRise k n e = (s.withSpi .idle).withSpdo (shiftedBits fillByte [] n) := by
  simp [State.selectRise, h]

/-- No moment of a transaction but its fall moves a port that is not busy; an ignored selection ends at
the rise of SPSEL. -/
theorem State.selectRise_notBusy (s : State) (k : Option Transfer) (n : Nat)
    (e : Transaction → State → State) (h : ∀ t, s.spi ≠ .busy t) :
    s.selectRise k n e = s ∨ (s.spi = .ignored ∧
      s.selectRise k n e = (s.withSpi .idle).withSpdo (shiftedBits fillByte [] n)) := by
  unfold State.selectRise; split <;> simp_all

@[simp] theorem State.selectRise_busy (s : State) (t : Transaction) (n : Nat)
    (e : Transaction → State → State) (h : s.spi = .busy t) :
    s.selectRise t.kind n e =
      e t ((s.withSpi .idle).withSpdo (shiftedBits t.status t.frame n)) := by
  simp [State.selectRise, h]

@[simp] theorem bitsOf_length (b : Byte) : (bitsOf b).length = 8 := rfl

/-- A transaction shifts out exactly as many bits as the host clocks. -/
@[simp] theorem shiftedBits_length (b : Byte) (f : List Byte) (n : Nat) :
    (shiftedBits b f n).length = n := by
  simp [shiftedBits]; omega

@[simp] theorem Spi.discard_idle (k : Transfer) : Spi.idle.discard k = .idle := rfl
@[simp] theorem Spi.discard_ignored (k : Transfer) : Spi.ignored.discard k = .ignored := rfl

/-- Discarding what a read has fixed on leaves the transaction in progress otherwise as it was. -/
theorem Spi.discard_busy (k : Transfer) (t : Transaction) :
    ∃ u, (Spi.busy t).discard k = .busy u ∧ u.status = t.status ∧ u.kind = t.kind ∧
      u.frame = t.frame := by
  by_cases h : t.kind = some k <;> simp [Spi.discard, h]

end Sys2Proof.Machine
end

