-- ==== Sys2Proof/Tests/Slice0.lean ====
section
/-!
SUPPORT. Tests of the model: an ill-formed term for each check of `Instr.wf`; the guide's worked
examples, each named with its section; and for each statement with hypotheses a witness, a concrete
state and operands that meet them, clause by clause.
-/

namespace Sys2Proof.Tests

open Sys2Proof Sys2Proof.Machine Sys2Proof.Rules

/-- The state a step gives, or the state itself where it gives none. -/
def after (c : Instr) (s : State) : State :=
  match exec c s with
  | .next t => t
  | _ => s

/-- The oldest response of a state. -/
def answer (s : State) : Option Response := s.cp.responses[0]?

/-- The status of the oldest response of a state. -/
def status (s : State) : Option Status := (answer s).map (·.status)

/-! ### Well-formedness -/

theorem test_wf_void_lead : Instr.wf (.voidTransaction (some 0x5C) (.whole ⟨0, 0⟩)) = false ∧
    Instr.wf (.voidTransaction (some 0x5E) (.whole ⟨0, 0⟩)) = true := by decide

theorem test_wf_void_incomplete : Instr.wf (.voidTransaction none (.rise ⟨1, 0⟩)) = false ∧
    Instr.wf (.voidTransaction none (.rise ⟨0, 7⟩)) = true := by decide

set_option maxRecDepth 4000 in
theorem test_wf_addEntry : Instr.wf (.addEntry 0 [] 0 (List.replicate 251 0x41)) = false ∧
    Instr.wf (.addEntry 0 [] 0 (List.replicate 250 0x41)) = true := by decide

set_option maxRecDepth 4000 in
theorem test_wf_replaceEntry : Instr.wf (.replaceEntry 0 [1] 0 (List.replicate 248 0x41)) = false ∧
    Instr.wf (.replaceEntry 0 [1] 0 (List.replicate 247 0x41)) = true := by decide

theorem test_wf_retireEntry : Instr.wf (.retireEntry 0 (List.replicate 85 1)) = false ∧
    Instr.wf (.retireEntry 0 (List.replicate 84 1)) = true := by decide

theorem test_wf_fetchEntry_any : Instr.wf (.fetchEntry 0xFF [1]) = false ∧
    Instr.wf (.fetchEntry 0xFE [1]) = true := by decide

theorem test_wf_fetchEntry : Instr.wf (.fetchEntry 0 (List.replicate 85 1)) = false := by decide

theorem test_wf_fetchEntryAny : Instr.wf (.fetchEntryAny (List.replicate 85 1)) = false ∧
    Instr.wf (.fetchEntryAny (List.replicate 84 1)) = true := by decide

theorem test_wf_windowInfoRecord : Instr.wf (.windowInfoRecord 0) = false ∧
    Instr.wf (.windowInfoRecord 1) = true := by decide

set_option maxRecDepth 4000 in
theorem test_wf_setSpeaker : Instr.wf (.setSpeaker 0 (List.replicate 253 0x41)) = false ∧
    Instr.wf (.setSpeaker 0 (List.replicate 252 0x41)) = true := by decide

/-! ### Frames (R163, R165, R185) -/

/-- The frame of SET_ACCESS slot 2, LOOKUP, byte by byte from the table of R185. -/
theorem test_frame_setAccess :
    parseFrame [0x03, 0x1B, 0x02, 0x01] false = some (.setAccess 2 1) := by decide

/-- The frame of ADD_ENTRY slot 3, THER, no flags, "the". -/
theorem test_frame_addEntry :
    parseFrame [0x0B, 0x1F, 0x03, 0x01, 0x00, 0x48, 0x44, 0x00, 0x03, 0x74, 0x68, 0x65] false =
      some (.addEntry 3 [18500] 0 [0x74, 0x68, 0x65]) := by decide

/-- The frame of SET_WINDOW slot 1, base 0x01000000, size 8 MiB. -/
theorem test_frame_setWindow :
    parseFrame [0x0A, 0x18, 0x01, 0x01, 0x00, 0x00, 0x00, 0x00, 0x80, 0x00, 0x00] false =
      some (.setWindow 1 0x01000000 0x00800000) := by decide

/-- The frame of SET_CHANNEL 1, FRAMED, XONXOFF, divisor 192, resume 256, stall 30 s, keepalive 5 s. -/
theorem test_frame_setChannel :
    parseFrame [0x0A, 0x2A, 0x01, 0x01, 0x01, 0x00, 0xC0, 0x01, 0x00, 0x1E, 0x05] false =
      some (.setChannel 1 1 1 192 256 30 5) := by decide

/-- An unknown code, a wrong length byte, a count that disagrees, an over-long frame (R165). -/
theorem test_frame_malformed : parseFrame [0x03, 0x45, 0, 0] false = none ∧
    parseFrame [0x02, 0x24] false = none ∧ parseFrame [0x05, 0x27, 0, 3, 0x41, 0x42] false = none ∧
    parseFrame [0x01, 0x24] true = none ∧ parseFrame [0x00] false = none := by decide

/-- 9.13, write 4 of "Frames behind a FORMAT": length 3, code 0x45 is answered BAD_FRAME, code echoed. -/
theorem test_commandBegin_badFrame :
    answer (after .commandBegin { State.reset with
      cp := { Cp.reset with queue := [⟨[0x03, 0x45], false⟩] } }) =
      some ⟨.badFrame, 0x45, []⟩ := by decide

set_option maxRecDepth 8000 in
/-- A frame of 256 bytes is kept whole, one of 257 is over-long (R162). -/
theorem test_commandWrite_overLong :
    (after (.commandWrite (.whole ⟨List.replicate 257 1, 0⟩)) State.reset).cp.queue =
      [⟨List.replicate 256 1, true⟩] := by decide

/-! ### Chapter 1 -/

/-- The KSU of 1.10, "Two overlapped strokes", at 1,062: `-S` alone of TES is down, in RELEASE. -/
def tesAtRelease : Ksu :=
  { Ksu.reset with
    accepted := dropKey (BitVec.allOnes 23) 20
    line := dropKey (dropKey (BitVec.allOnes 23) 20) 18
    debounce := (Vector.replicate 23 none).set 18 (some 10)
    hold := (Vector.replicate 23 none).set 20 (some 64)
    assembly := .release
    strokeSet := 1050628
    chordStart := some 1000
    firstRelease := some 1060
    clock := 1070 }

/-- 1.10: the press of `-G` at 1,070 splits TES: its record, `-S` carried, the new stroke. -/
theorem test_debounceExpiry_split :
    let t := after (.debounceExpiry 18) { State.reset with ksu := tesAtRelease }
    t.strokeQueue = [⟨1050628, 1000, .keyboard, true, false⟩] ∧ t.ksu.carried = keyBit 20 ∧
      t.ksu.strokeSet = keyBit 18 ∧ t.ksu.assembly = .chord ∧ t.ksu.chordStart = some 1070 := by
  decide

/-- 1.10, "If stacking had been off": the press joins the stroke. -/
theorem test_debounceExpiry_unstacked :
    let t := after (.debounceExpiry 18) { State.reset with ksu := { tesAtRelease with stacking := false } }
    t.strokeQueue = [] ∧ t.ksu.strokeSet = 1312772 ∧ t.ksu.assembly = .release ∧
      t.ksu.firstRelease = some 1060 := by
  decide

/-- 1.10, "A jammed key": `-D` alone of HA-D is down at 8,000, in RELEASE since 5,260. -/
def jammed : Ksu :=
  { Ksu.reset with
    accepted := dropKey (BitVec.allOnes 23) 21
    line := dropKey (BitVec.allOnes 23) 21
    hold := (Vector.replicate 23 none).set 21 (some 3000)
    assembly := .release
    strokeSet := 2097472
    chordStart := some 5000
    firstRelease := some 5260
    clock := 8000 }

/-- 1.10: the hold timer of `-D` expires: the record is STUCK_CUT and KEY_STUCK is set. -/
theorem test_holdTimerExpiry_cut :
    let t := after (.holdTimerExpiry 21) { State.reset with ksu := jammed }
    t.strokeQueue = [⟨2097472, 5000, .keyboard, false, true⟩] ∧ t.ksu.stuckMask = keyBit 21 ∧
      t.ksu.assembly = .idle ∧ t.cp.notices = 0x02 := by
  decide

/-- 1.10, "A brushed key": a chord of 4 ms is a ghost. -/
theorem test_debounceExpiry_ghost :
    let t := after (.debounceExpiry 22) { State.reset with ksu := { Ksu.reset with
      accepted := dropKey (BitVec.allOnes 23) 22
      debounce := (Vector.replicate 23 none).set 22 (some 10)
      assembly := .chord
      strokeSet := keyBit 22
      chordStart := some 2000
      clock := 2004 } }
    t.ksu.ghostCount = 1 ∧ t.strokeQueue = [] ∧ t.ksu.assembly = .idle ∧ t.cp.notices = 0 := by
  decide

/-- 1.10, "A full queue", step 2: INJECT_STROKE is refused QUEUE_FULL and nothing is counted. -/
theorem test_injectStroke_full :
    let t := after (.injectStroke 1024) { State.reset with
      strokeQueue := List.replicate 16 ⟨1, 0, .keyboard, false, false⟩ }
    status t = some .queueFull ∧ t.strokeQueue.length = 16 ∧ t.ksu.lostCount = 0 ∧ t.cp.notices = 0 := by
  decide

/-- R15: SET_CLOCK moves the chord start by as much as the clock moves. -/
theorem test_setClock_moves :
    (after (.setClock 1) { State.reset with ksu := { tesAtRelease with firstRelease := none } }).ksu.chordStart =
      some 0xFFFFFFBB := by
  decide

/-- R12, R5: a key held 1,200 ms is caught by a new stuck limit of 1,000 ms. -/
theorem test_setKeyTiming_catches :
    let t := after (.setKeyTiming 1 40 1000) { State.reset with
      ksu := { jammed with hold := (Vector.replicate 23 none).set 21 (some 1200) } }
    t.ksu.stuckMask = keyBit 21 ∧ t.ksu.debounceTime = 2 ∧ t.ksu.ghostMin = 30 ∧
      t.cp.notices = 0x02 ∧ status t = some .done := by
  decide

/-- R3, R7: `-S` of TES, released and turned down again, takes no part in the stroke: it is carried, and
the stroke closes when `-E`, the last other key, is released. -/
theorem test_setKeyPolarity_carried :
    let u := { Ksu.reset with
      accepted := dropKey (BitVec.allOnes 23) 11
      line := BitVec.allOnes 23
      debounce := (Vector.replicate 23 none).set 11 (some 10)
      hold := (Vector.replicate 23 none).set 11 (some 64)
      assembly := .release
      strokeSet := 1050628
      chordStart := some 1000
      firstRelease := some 1060
      clock := 1070 }
    let s := after (.setKeyPolarity 0x100000) { State.reset with ksu := u }
    let t := after (.debounceExpiry 11) s
    s.ksu.carried = keyBit 20 ∧ s.ksu.assembly = .release ∧ t.ksu.carried = keyBit 20 ∧
      t.ksu.assembly = .idle ∧ t.strokeQueue = [⟨1050628, 1000, .keyboard, false, false⟩] := by
  decide

/-! ### Chapter 2 -/

/-- A state with the memory size declared and slots 0 and 1 of 2.12 laid out: 16 MiB, 8 MiB. -/
def laidOut : State :=
  { State.reset with dict := { memMiB := 32, slots := #v[
    { Slot.reset 0 with state := .unformatted, size := 0x01000000 },
    { Slot.reset 1 with state := .unformatted, base := 0x01000000, size := 0x00800000 },
    Slot.reset 2, Slot.reset 3] } }

/-- 2.12, "Laying out four windows": the first row, the overlap, the misalignment, the fit. -/
theorem test_setWindow_checks :
    status (after (.setWindow 0 0 0x01000000) State.reset) = some .badState ∧
    status (after (.setWindow 2 0x01400000 0x00100000) laidOut) = some .overlap ∧
    status (after (.setWindow 2 0x01A00000 0x00400000) laidOut) = some .badArg ∧
    status (after (.setWindow 2 0x01800000 0x00400000) laidOut) = some .done := by
  decide

/-- 2.12: a window that ends exactly at the memory size is accepted, one past it refused. -/
theorem test_setWindow_end :
    status (after (.setWindow 3 0x01C00000 0x00400000) laidOut) = some .done ∧
    status (after (.setWindow 3 0x02000000 0x00400000) laidOut) = some .badArg ∧
    status (after (.setMemory 64) laidOut) = some .badState := by
  decide

/-- 2.12, "Formatting arithmetic": 64 KiB takes B = 4,096, not 8,192. -/
theorem test_format_limit :
    let s := laidOut.withSlot 2 { Slot.reset 2 with state := .unformatted, size := 65536 }
    (after (.format 2 4096) s).cp.executing = some 0x19 ∧
      status (after (.format 2 8192) s) = some .badArg := by
  decide

/-- 2.12: the free cells and the free-list head after a FORMAT. -/
theorem test_formatComplete_counts :
    let d := Slot.formatted { Slot.reset 2 with size := 1048576, buckets := 16384 }
    d.freeCount = 30720 ∧ d.freeHead = some 2048 := by
  decide

/-- R25, R183: the first cell of a directory, and the last cell of a 64 KiB window. -/
theorem test_format_bytes :
    let d := { Slot.reset 2 with size := 65536, buckets := 1024 }
    formatBytes d 127 = (0, [0, 255, 255, 255, 0, 255, 255, 255, 0, 255, 255, 255, 0, 255, 255, 255,
      0, 255, 255, 255, 0, 255, 255, 255, 0, 255, 255, 255, 0, 255, 255, 255]) ∧
    formatBytes d 128 = (3, [0, 0, 129]) ∧ formatBytes d 2047 = (3, [255, 255, 255]) := by
  decide

/-- 2.12, "Protection on one slot": an entry write into a SHUT slot, and into a locked one. -/
theorem test_addEntry_protected :
    let d := { Slot.reset 1 with state := .ready, size := 65536, buckets := 1024 }
    let t := after (.addEntry 1 [1] 0 []) (State.reset.withSlot 1 d)
    let u := after (.addEntry 1 [1] 0 []) (State.reset.withSlot 1 { d with lock := true, access := .full })
    status t = some .protectedSlot ∧ t.cp.notices = 0x04 ∧ status u = some .locked ∧
      u.cp.notices = 0x04 := by
  decide

/-- 10.6, "SLOT_INFO after a FORMAT". -/
theorem test_slotInfo :
    answer (after (.slotInfo 2) (State.reset.withSlot 2
      ⟨.ready, .shut, false, 0x01800000, 0x00400000, 32768, 0, 126976, some 4096, 1⟩)) =
      some ⟨.done, 0x1E, [0x23, 0x01, 0x80, 0, 0, 22, 0, 0x80, 0, 0, 0, 0, 0x01, 0xF0, 0, 0, 0x10, 0]⟩ := by
  decide

/-- R31: SET_RANKS 3, 0, 1, 2, and a slot named twice. -/
theorem test_setRanks :
    (after (.setRanks 3 0 1 2) State.reset).dict.rankOrder = [3, 0, 1, 2] ∧
      status (after (.setRanks 3 0 0 2) State.reset) = some .badArg := by
  decide

/-! ### Chapter 3 -/

/-- 3.12, "Hashing an outline". -/
theorem test_hash : outlineHash [1050628, 262148] = 3796815 ∧ bucketOf 65536 [1050628, 262148] = 61320 ∧
    bucketOf 1024 [1050628, 262148] = 458 ∧ bucketOf 65536 [1050628] = 2985 := by
  decide

/-- 3.12, "A small job dictionary": THER and THER/PEUFT. -/
theorem test_bucket_job : bucketOf 1024 [18500] = 1003 ∧ bucketOf 1024 [18500, 538640] = 989 := by
  decide

/-- 3.12, "Cell counts". -/
theorem test_cells : [8, 15, 21, 23, 24, 49, 33, 55, 184].map cellsFor = [1, 1, 1, 1, 2, 2, 2, 3, 7] := by
  decide

/-- R45, R53, R183: the cells of THER, "there (indicating the exhibit)", at 128 and 130. -/
theorem test_cells_layout :
    let text : List Byte := (List.range 30).map fun i => BitVec.ofNat 8 (0x41 + i)
    headCellBytes none (some 130) [18500] 0 text =
      [255, 255, 255, 0, 0, 130, 1, 30, 0, 0x00, 0x48, 0x44] ++ text.take 20 ∧
    contCellBytes none 1 [18500] text = [255, 255, 255] ++ text.drop 20 := by
  decide

/-- The entry operation of a table of 3.12, its walk ended. -/
def crowded (kind : EntryKind) (found : Bool) (old free seen text : Nat) : EntryOp :=
  { EntryOp.start kind 2 (Slot.reset 2) [1] 0 (List.replicate text 0x41) false [] with
    freeCount := free
    walk := { Walk.start (Slot.reset 2) [1] false with
      phase := if found then .found else .absent
      seen := seen
      entry := { EntryRegs.blank with strokes := 1, textLen := old } } }

/-- 3.12, "Check order at a crowded bucket"; where its third row is one cell short of what R54 refuses, the
rule is followed and the row taken with one cell more (notes/assumptions/15.md). -/
theorem test_crowded_bucket :
    (crowded .add false 0 3 32 21).afterWalk.status = .bucketFull ∧
    (crowded .add true 0 3 32 0).afterWalk.status = .duplicate ∧
    (crowded .replace true 0 3 32 110).afterWalk.status = .noSpace ∧
    (crowded .replace true 0 3 32 80).afterWalk.stage = .unlink ∧
    (crowded .replace true 21 3 32 80).afterWalk.stage = .unlink ∧
    (crowded .replace false 0 3 32 0).afterWalk.status = .bucketFull ∧
    (crowded .add false 0 3 31 0).afterWalk.stage = .take := by
  decide

/-! ### Chapter 4 -/

/-- 4.10, "Grants under the default share": L goes from 2 to 3 at grant 3, and stays at 3. -/
theorem test_arbiter_count : ({ Mp.reset with lookupRun := 2 } : Mp).runAfterLookup = 3 ∧
    ({ Mp.reset with lookupRun := 3 } : Mp).runAfterLookup = 3 := by
  decide

/-- R70: a lower N lowers L to it; a value that is no setting is refused. -/
theorem test_setMaintShare :
    (after (.setMaintShare 1) { State.reset with mp := { Mp.reset with lookupRun := 3 } }).mp.lookupRun = 1 ∧
      status (after (.setMaintShare 2) State.reset) = some .badArg := by
  decide

/-! ### Chapters 5 to 7 -/

/-- A record with an outline and a text alone. -/
def plain (outline : List Stroke) (text : List Byte) : Record :=
  ⟨{ outline := outline, source := .slot 0, flags := 0, items := text, before := Fmt.initial, text := text,
     truncated := false, after := ⟨false, false, false, .none, none⟩ }, .nil⟩

/-- 5.11, "Candidates in a full window": J = 4 over records of 2, 3, 1, 1 and 1 strokes. -/
theorem test_candidates :
    let w := [plain [1, 2] [], plain [3, 4, 5] [], plain [6] [], plain [7] [], plain [8] []]
    maxCandidate w = 4 ∧ candidateOutline w 9 4 = [3, 4, 5, 6, 7, 8, 9] ∧
      (pairsFor w 9 [0, 3]).map (fun p => (p.cand, p.slot)) =
        [(4, 0), (4, 3), (3, 0), (3, 3), (2, 0), (2, 3), (1, 0), (1, 3), (0, 0), (0, 3)] := by
  decide

/-- 5.11, "Number and untranslated strokes". -/
theorem test_numbers :
    isNumberStroke 517 = true ∧ digitText 517 = [0x32, 0x30] ∧ isNumberStroke 524291 = true ∧
    digitText 524291 = [0x31, 0x39] ∧ isNumberStroke 1 = false ∧ isNumberStroke 2051 = false ∧
    isNumberStroke 262148 = false := by
  decide

/-- R111: T-G, TES, #SE, #-B, KWR, -T, *T and SK-RG. -/
theorem test_steno :
    stenoText 262148 = [0x54, 0x2D, 0x47] ∧ stenoText 1050628 = [0x54, 0x45, 0x53] ∧
    stenoText 2051 = [0x23, 0x53, 0x45] ∧ stenoText 65537 = [0x23, 0x2D, 0x42] ∧
    stenoText 168 = [0x4B, 0x57, 0x52] ∧ stenoText 524288 = [0x2D, 0x54] ∧
    stenoText 525312 = [0x2A, 0x54] ∧ stenoText 278538 = [0x53, 0x4B, 0x2D, 0x52, 0x47] := by
  decide

/-- The speakers of 6.9: 1 is "Q.", 2 is "A.", 4 has a label of 24 characters. -/
def qAndA : Vector (List Byte) 16 :=
  (((Vector.replicate 16 []).set 1 [0x51, 0x2E]).set 2 [0x41, 0x2E]).set 4 (List.replicate 24 0x58)

/-- A record rendered in 6.9. -/
def rendered (before : Fmt) (flags : Byte) (items : List Byte) : RecordData :=
  (formRecord qAndA before [1] (.slot 0) flags items .nil).data

/-- 6.9, "A question and answer", records 1 and 2. -/
theorem test_render_label :
    let one := rendered Fmt.initial 0 [0x81]
    let two := rendered one.after 0 [0x64, 0x69, 0x64]
    one.text = [0x0A, 0x51, 0x2E, 0x20] ∧ one.after = ⟨false, true, false, .upper, some 1⟩ ∧
      two.text = [0x44, 0x69, 0x64] ∧ two.after = ⟨false, false, false, .none, some 1⟩ := by
  decide

/-- 6.9, records 5 and 6: "?" joins, and the pending space is cancelled by the speaker break. -/
theorem test_render_punctuation :
    let five := rendered ⟨false, false, false, .none, some 1⟩ 1 [0x3F, 0x01]
    let six := rendered five.after 0 [0x82]
    five.text = [0x3F] ∧ five.after.caseMode = .upper ∧ six.text = [0x0A, 0x41, 0x2E, 0x20] ∧
      six.after = ⟨false, true, false, .upper, some 2⟩ := by
  decide

/-- 6.9, "Dates and glue": " 20" and then "19". -/
theorem test_render_glue :
    let one := rendered ⟨false, false, false, .none, none⟩ 4 [0x32, 0x30]
    one.text = [0x20, 0x32, 0x30] ∧ (rendered one.after 4 [0x31, 0x39]).text = [0x31, 0x39] := by
  decide

set_option maxRecDepth 8000 in
/-- 6.9, "A truncated record": eight speaker breaks of 26 characters. -/
theorem test_render_truncated :
    let r := rendered Fmt.initial 0 (List.replicate 8 0x84)
    r.text.length = 200 ∧ r.truncated = true ∧ r.after = ⟨false, true, false, .upper, some 4⟩ := by
  decide

/-- 6.9, "Untranslated strokes under case": " #-b". -/
theorem test_render_lower :
    (rendered ⟨false, false, false, .lower, none⟩ 0 (stenoText 65537)).text = [0x20, 0x23, 0x2D, 0x62] := by
  decide

/-- 6.9, "Setting a label": the 25th byte is not stored; a control byte and speaker 16 are refused. -/
theorem test_setSpeaker :
    (after (.setSpeaker 3 (List.replicate 25 0x42)) State.reset).speakers[3] = List.replicate 24 0x42 ∧
      status (after (.setSpeaker 3 [0x09]) State.reset) = some .badText ∧
      status (after (.setSpeaker 16 [0x58]) State.reset) = some .badArg := by
  decide

/-- " there". -/
def there : List Byte := [0x20, 0x74, 0x68, 0x65, 0x72, 0x65]
/-- " therapist". -/
def therapist : List Byte := [0x20, 0x74, 0x68, 0x65, 0x72, 0x61, 0x70, 0x69, 0x73, 0x74]

/-- 7.8, "A word settling after a pause": p = 5 and "apist"; the undo; the settling. -/
theorem test_updates :
    updatesOf there [] therapist = [⟨[], 5, [0x61, 0x70, 0x69, 0x73, 0x74]⟩] ∧
    updatesOf therapist [] there = [⟨[], 5, [0x65]⟩] ∧
    updatesOf there [there] [] = [⟨[there], 0, []⟩] := by
  decide

/-- R131: a settled chunk that is no prefix of the old text takes two updates. -/
theorem test_updates_two :
    updatesOf [0x41, 0x42] [[0x41, 0x43]] [0x44] =
      [⟨[], 1, [0x43, 0x44]⟩, ⟨[[0x41, 0x43]], 1, []⟩] := by
  decide

/-- R117: SETTLE_BEFORE settles the older records, the newest stays. -/
theorem test_settleBefore :
    let new := plain [3] []
    let w := [plain [1] [], plain [2] [], ⟨{ new.data with flags := 8 }, .nil⟩]
    immediateSettle w = ([plain [1] [], plain [2] []], [⟨{ new.data with flags := 8 }, .nil⟩]) := by
  decide

/-- R122, R123: a run of the stroke sequence, and an outline that is none. -/
theorem test_runTest : runTest [2, 3] [1, 2, 3, 4] = true ∧ runTest [1, 3] [1, 2, 3, 4] = false ∧
    runTest [1] [] = false := by
  decide

/-! ### Chapter 8 -/

/-- FC0 of 8.13: FRAMED, SENDING, " there" sent. -/
def fc0 : Channel :=
  { Channel.reset false with settings := { ChanSettings.reset with mode := .framed }, state := .sending,
                             shown := 6 }

/-- FC1 of 8.13: LIVE_TEXT, HELD, " there" in its FIFO. -/
def fc1 : Channel :=
  { Channel.reset false with state := .held, stopped := true, fifo := there.map charByte, shown := 6,
                             trimmable := 6 }

/-- 8.13: PEUFT resolves; FC0 erases one character, FC1 trims it. -/
theorem test_correction :
    fc0.applyUpdate ⟨[], 5, [0x61, 0x70, 0x69, 0x73, 0x74]⟩ = { fc0 with
      fifo := [0x1E, 0x45, 1].map controlByte ++ [0x61, 0x70, 0x69, 0x73, 0x74].map charByte
      shown := 10, trimmable := 5 } ∧
    fc1.applyUpdate ⟨[], 5, [0x61, 0x70, 0x69, 0x73, 0x74]⟩ = { fc1 with
      fifo := therapist.map charByte, shown := 10, trimmable := 10 } := by
  decide

/-- 8.13: the record settles; FC1's D and T fall to 0 and its FIFO stays. -/
theorem test_chunk : fc1.applyUpdate ⟨[there], 0, []⟩ = { fc1 with shown := 0, trimmable := 0 } := by
  decide

/-- R136, R146: a line-break of settled text takes two bytes in FINAL_TEXT. -/
theorem test_final :
    ({ fc0 with settings := { ChanSettings.reset with mode := .final }, shown := 0 }.applyUpdate
      ⟨[[0x0A, 0x41]], 0, []⟩).fifo = [controlByte 0x0D, charByte 0x0A, charByte 0x41] := by
  decide

/-- R136: an erase of 469 characters in FRAMED is two sequences. -/
theorem test_erase : eraseBytes .framed 469 = [0x1E, 0x45, 255, 0x1E, 0x45, 214].map controlByte := by
  decide

/-- R140, R152, R153: 0x13 holds an XONXOFF channel; 0x12 resyncs it, stalled or not. -/
theorem test_inboundByte :
    let c := { fc0 with settings := { ChanSettings.reset with flow := .xonxoff } }
    (c.receive [] 0x13).state = .held ∧ (c.receive [] 0x13).stall = some 30 ∧
      (fc1.receive there 0x12).fifo = controlByte 0x0A :: there.map charByte := by
  decide

/-- R150, R151: a break of an open channel flushes it and it recovers at once. -/
theorem test_break :
    let t := after (.breakReceived 1) (State.reset.withChan 1 { fc0 with fifo := there.map charByte })
    (t.chan 1).state = .sending ∧ (t.chan 1).fifo = [0x1E, 0x52].map controlByte ∧ t.cp.notices = 0x20 := by
  decide

/-- R138, R154: the head byte starts on the wire and the keepalive timer reloads. -/
theorem test_transmitByte :
    let t := (after (.transmitByte 0) (State.reset.withChan 0 { fc0 with
      fifo := there.map charByte, trimmable := 6 })).chan 0
    t.wire = some 0b1001000000 ∧ t.trimmable = 5 ∧ t.keep = some 5 := by
  decide

/-- R135, R140, R153: 0x13 between a start bit and a stop bit holds an XONXOFF channel; with the start bit
or the stop bit missing it is no byte. -/
theorem test_inboundByte_frame :
    let s := State.reset.withChan 0 { fc0 with settings := { ChanSettings.reset with flow := .xonxoff } }
    ((after (.inboundByte 0 0b000100110 true) s).chan 0).state = .held ∧
      after (.inboundByte 0 0b000100110 false) s = s ∧ after (.inboundByte 0 0b000100111 true) s = s := by
  decide

/-- R134: SET_CHANNEL clamps; R155: CHANNEL_ON resyncs. -/
theorem test_channel_commands :
    ((after (.setChannel 2 0 1 0 600 200 61) State.reset).chan 2).settings =
        ⟨.live, .xonxoff, 1, 512, 120, 60⟩ ∧
      ((after (.channelOn 2) State.reset).chan 2).fifo = [controlByte 0x0A] := by
  decide

/-! ### Chapters 9 and 10 -/

/-- 10.6, "The reports for THER". -/
theorem test_reports :
    Report.frame (.stroke 18500 10000 .keyboard false false false) =
        [10, 1, 0, 0x48, 0x44, 0, 0, 0x27, 0x10, 0, 0] ∧
      Report.frame (.settled (.slot 1) [18500] there false) =
        [14, 2, 1, 0, 1, 0, 0x48, 0x44, 6] ++ there := by
  decide

/-- R169: a response read that ends a byte short leaves the response; the whole frame removes it. -/
theorem test_responseRead :
    let s := { State.reset with cp := { Cp.reset with responses := [⟨.done, 0x24, []⟩] } }
    (after (.responseRead (.whole ⟨2, 7⟩)) s).cp.responses.length = 1 ∧
      (after (.responseRead (.whole ⟨3, 0⟩)) s).cp.responses = [] ∧
      (after (.responseRead (.whole ⟨4, 1⟩)) s).spdo = wireBits [0x0C, 0x02, 0x00, 0x24, 0xFF] ++ [true] := by
  decide

/-- R160: the table of lead bytes, with the bytes beside its ends. -/
theorem test_leadByte : ([0x59, 0x5A, 0x5B, 0x5C, 0x5D, 0x5E] : List Byte).map transferOf =
    [.void, .commandWrite, .responseRead, .reportRead, .statusRead, .void] := by
  decide

/-- R161, R172, R184: the port status byte and the status record of the reset state. -/
theorem test_statusRead :
    (after (.statusRead (.whole ⟨11, 0⟩)) State.reset).spdo =
      wireBits [0x04, 4, 0, 0, 0, 0, 0, 0, 0, 0, 0, 0xFF] := by
  decide

/-- R161, R172: a stroke injected between the fall of SPSEL and the end of the lead byte is answered in the
status record, and not yet in the port status byte, which is 0x04, no response queued. -/
theorem test_statusRead_later :
    let s := after (.injectStroke 1) (after (.statusRead .fall) State.reset)
    (after (.statusRead (.rise ⟨10, 0⟩)) (after (.statusRead .lead) s)).spdo =
      wireBits [0x04, 4, 0, 0, 1, 0, 0, 0, 0, 1, 0] := by
  decide

/-- R161, R162: a place that frees itself after the fall of SPSEL is there when SPSEL rises. -/
theorem test_commandWrite_place :
    let four := { State.reset with cp := { Cp.reset with queue := List.replicate 4 ⟨[0x01, 0x24], false⟩ } }
    let s := after .commandBegin (after (.commandWrite .fall) four)
    let t := after (.commandWrite (.rise ⟨[0x01, 0x29], 0⟩)) (after (.commandWrite .lead) s)
    t.cp.queue.length = 4 ∧ t.cp.notices = 0 ∧ t.spdo = wireBits [0x00, 0xFF, 0xFF] := by
  decide

/-- R169, R179: a response that a read has fixed on and a RESTART discards is shifted out whole, and the
read removes nothing, the RESTART's own response waiting in its place. -/
theorem test_responseRead_discarded :
    let s := { State.reset with cp := { Cp.reset with responses := [⟨.notFound, 0x21, []⟩] } }
    let u := after .restart (after (.responseRead .lead) (after (.responseRead .fall) s))
    let t := after (.responseRead (.rise ⟨3, 0⟩)) u
    t.spdo = wireBits [0x0C, 0x02, 0x07, 0x21] ∧ t.cp.responses = [⟨.done, 0x2E, []⟩] := by
  decide

/-- R160, R180: what SPSEL has selected when a hard reset ends is ignored until its next fall. -/
theorem test_hardReset_ignored :
    let s := after .hardReset (after (.commandWrite .fall) State.reset)
    let t := after (.commandWrite (.rise ⟨[0x01, 0x24], 0⟩)) (after (.commandWrite .lead) s)
    s.spi = .ignored ∧ s.spdoDriven = true ∧ t.spi = .idle ∧ t.spdoDriven = false ∧ t.cp.queue = [] ∧
      t.spdo = wireBits [0xFF, 0xFF, 0xFF] := by
  decide

/-- R179: a RESTART that joins a restart with no command left in execution takes effect at once. -/
theorem test_restart_joins :
    let s := { State.reset with cp := { Cp.reset with restarts := 1 } }
    (after .restart s).cp.responses = List.replicate 2 ⟨.done, 0x2E, []⟩ ∧
      (after .restart s).cp.restarts = 0 := by
  decide

/-- R174, R176: CLEAR_NOTICES returns the notices and clears those named; a trigger of 0 is 1. -/
theorem test_notices :
    let t := after (.clearNotices 0x04) { State.reset with cp := { Cp.reset with notices := 0x0C } }
    t.cp.notices = 0x08 ∧ answer t = some ⟨.done, 0x2F, [0x0C]⟩ ∧
      (after (.setInterrupts 1 0 0x80 0) State.reset).cp.trigger = 1 ∧
      (after (.setInterrupts 1 0 0x80 0) State.reset).hint = true := by
  decide

/-- R177, R178: a RESTART with nothing in execution takes effect at once; its DONE is alone. -/
theorem test_restart :
    let t := after .restart { State.reset with
      cp := { Cp.reset with queue := [⟨[1, 0x24], false⟩], responses := [⟨.done, 0x24, []⟩], notices := 1 } }
    t.cp.queue = [] ∧ t.cp.responses = [⟨.done, 0x2E, []⟩] ∧ t.cp.restarts = 0 ∧ t.cp.notices = 1 := by
  decide

/-- R20: a line that is low at a hard reset starts its debounce timer. -/
theorem test_hardReset_line :
    let t := after .hardReset { State.reset with ksu := { Ksu.reset with line := dropKey (BitVec.allOnes 23) 3 } }
    t.ksu.debounce[3] = some 10 ∧ t.ksu.debounce[4] = none := by
  decide

/-! ### Witnesses: the queue of steps and the Command Port -/

/-- A Command Port as a hard reset leaves it can begin a command. -/
theorem ready_of_reset {s : State} (h : s.cp = Cp.reset) : Ready s := by
  constructor <;> rw [h] <;> decide

/-- Slot 0 READY and FULL with a window of 64 KiB at 0 and B = 1,024, as a FORMAT leaves it. -/
def job : Slot := ⟨.ready, .full, false, 0, 65536, 1024, 0, 1920, some 128, 0⟩

/-- The part with 8 MiB declared and the job slot. -/
def base : State :=
  { State.reset with
    dict := { memMiB := 8, slots := #v[job, Slot.reset 1, Slot.reset 2, Slot.reset 3] } }

theorem ready_base : Ready base := ready_of_reset rfl

/-- A Command Port with a command in execution. -/
def busyCp : Cp := { Cp.reset with executing := some 0x19 }

theorem not_ready_busy {s : State} (h : s.cp = busyCp) : ¬Ready s := by
  intro r
  have := r.noCommand
  rw [h] at this
  exact absurd this (by decide)

theorem witness_StepRunsTheFrontCommand :
    (base.withPending [.start, .stop]).pending = .start :: [.stop] ∧ base.pending = [] := ⟨rfl, rfl⟩

set_option maxRecDepth 4000 in
theorem witness_FrameSpellsExactlyOneCommand :
    Command.wf .flush = true ∧ Command.wf (.setSpeaker 0 (List.replicate 252 0x41)) = true ∧
      parseFrame [0x01, 0x29] false = some .flush := by decide

theorem witness_CommandRowIsItsFrameOnTheWire :
    (Command.wf .flush = true ∧ Ready base) ∧
      Command.wf .flush = true ∧ ¬Ready { base with cp := busyCp } ∧
      base.spi = .idle ∧ ({ base with cp := busyCp } : State).spi = .idle :=
  ⟨⟨by decide, ready_base⟩, by decide, not_ready_busy rfl, rfl, rfl⟩

/-- A Command Port with frames waiting. -/
def waitingCp (frames : List Frame) : Cp := { Cp.reset with queue := frames }

theorem witness_CommandBeginTakesTheOldestFrame :
    let bad : State := { base with cp := { waitingCp [⟨[0x00], false⟩] with
      responses := List.replicate 7 ⟨.done, 0x24, []⟩ } }
    let good : State := { base with cp := waitingCp [⟨Command.frame .start, false⟩, ⟨[0], false⟩] }
    let last : State := { base with cp := waitingCp [⟨Command.frame .start, false⟩] }
    let full : State := { base with cp := { waitingCp [⟨[0x00], false⟩] with
      responses := List.replicate 8 ⟨.done, 0x24, []⟩ } }
    (bad.cp.queue = [⟨[0x00], false⟩] ∧ bad.cp.executing = none ∧ bad.cp.restarts = 0 ∧
      bad.cp.responses.length < 8 ∧
      ∀ c : Command, c.wf = true → (⟨[0x00], false⟩ : Frame) ≠ ⟨c.frame, false⟩) ∧
    (good.cp.queue.length = 2 ∧ good.cp.executing = none ∧ Command.wf .start = true) ∧
    (last.cp.queue = [⟨Command.frame .start, false⟩] ∧ last.cp.executing = none) ∧
    full.cp.queue = [⟨[0x00], false⟩] ∧
      ¬(full.cp.executing = none ∧ full.cp.restarts = 0 ∧ full.cp.responses.length < 8) := by
  refine ⟨⟨rfl, rfl, rfl, by decide, fun c _ h => ?_⟩, ⟨rfl, rfl, rfl⟩, ⟨rfl, rfl⟩, rfl, by decide⟩
  simp [Command.frame] at h

/-- The part with a transaction in progress: its kind, what it has fixed on, and whether that is queued. -/
def selecting (kind : Option Transfer) (frame : List Byte) (queued : Bool) : State :=
  base.withSpi (.busy ⟨0x04, kind, frame, queued⟩)

theorem witness_CommandWriteTakesAFrame :
    (base.spi = .idle ∧ (selecting none [] false).spi = .busy ⟨0x04, none, [], false⟩ ∧
      (selecting (some .commandWrite) [] false).spi = .busy ⟨0x04, some .commandWrite, [], false⟩ ∧
      (base.withSpi .ignored).spi = .ignored) ∧
    ([] : List Byte) = [] ∧ ([0x01, 0x2E] : List Byte) = [0x01, 0x2E] ∧
    ∀ bytes ∈ ([[0x01, 0x2F], [0x01], [0x01, 0x2E, 0x00]] : List (List Byte)), bytes ≠ [] ∧
      bytes ≠ [0x01, 0x2E] := ⟨⟨rfl, rfl, rfl, rfl⟩, by decide⟩

theorem witness_StatusAndInterruptLine :
    (Ready base ∧
      ({ base with cp := waitingCp (List.replicate 4 ⟨[0], false⟩) } : State).cp.queue.length ≤ 4 ∧
      (0x59 : Byte) ∉ ([0x5A, 0x5B, 0x5C, 0x5D] : List Byte) ∧
      (0x5E : Byte) ∉ ([0x5A, 0x5B, 0x5C, 0x5D] : List Byte)) ∧
    (base.spi = .idle ∧ (base.withSpi .ignored).spi = .ignored ∧
      (selecting none [] false).spi = .busy ⟨0x04, none, [], false⟩ ∧
      (selecting (some .statusRead) (statusBytes base) false).spi =
        .busy ⟨0x04, some .statusRead, statusBytes base, false⟩ ∧
      (selecting (some .void) [] false).spi = .busy ⟨0x04, some .void, [], false⟩) ∧
    (∀ lead : Option Byte, (.statusRead : SpiPart Clocked → Instr) ∈
      [.responseRead, .reportRead, .statusRead, .voidTransaction lead]) ∧
    (∀ lead ∈ ([none, some 0x59, some 0x5E] : List (Option Byte)), ∀ b ∈ lead,
      b ∉ ([0x5A, 0x5B, 0x5C, 0x5D] : List Byte)) ∧
    (0x5B, Transfer.responseRead, Instr.responseRead) ∈ [(0x5B, Transfer.responseRead, Instr.responseRead),
      (0x5C, .reportRead, .reportRead), (0x5D, .statusRead, .statusRead)] ∧
    (0x5A : Byte) ∈ ([0x5A, 0x5B, 0x5C, 0x5D] : List Byte) :=
  ⟨⟨ready_base, by decide⟩, ⟨rfl, rfl, rfl, rfl, rfl⟩, fun _ => by simp, by simp, by simp, by decide⟩

/-- The part with two responses and two reports queued. -/
def recorded : State :=
  { base with cp := { Cp.reset with
    responses := [⟨.done, 0x2F, [7]⟩, ⟨.done, 0x24, []⟩]
    reports := [.stroke 1 2 .injected false false true, .settled .raw [1] [0x41] false] } }

theorem witness_OldestRecordIsReadWhole :
    (∀ s : State, ∃ less, (Instr.responseRead, Transfer.responseRead, s.cp.responses.map responseBytes, less) ∈
      [(Instr.responseRead, Transfer.responseRead, s.cp.responses.map responseBytes,
        fun u : State => u.withCp { u.cp with responses := u.cp.responses.drop 1 }),
       (.reportRead, .reportRead, s.cp.reports.map reportBytes,
        fun u => u.withCp { u.cp with reports := u.cp.reports.drop 1 })]) ∧
    (base.spi = .idle ∧ base.cp.responses.map responseBytes = [] ∧ base.cp.reports.map reportBytes = []) ∧
    (recorded.spi = .idle ∧ recorded.cp.responses.map responseBytes ≠ [] ∧
      ((recorded.cp.responses.map responseBytes).headD [0]).length = 4 ∧
      ((recorded.cp.reports.map reportBytes).headD [0]).length = 11) ∧
    (selecting none [] false).spi = .busy ⟨0x04, none, [], false⟩ ∧
    ∀ kind frame queued, (selecting (some kind) frame queued).spi = .busy ⟨0x04, some kind, frame, queued⟩ :=
  ⟨fun _ => ⟨_, List.mem_cons_self ..⟩, by decide, by decide, rfl, fun _ _ _ => rfl⟩

/-! ### Witnesses: chapter 1 -/

/-- A key low on its line and its debounce timer running, every other key up. -/
def pressing (k : Key) (u : Ksu) : State :=
  { base with ksu := { u with
    line := dropKey (BitVec.allOnes 23) k
    debounce := (Vector.replicate 23 none).set k (some 10) } }

/-- A stroke {T-} in progress since 5, in CHORD or, first released at 9, in RELEASE. -/
def inStroke (a : AssemblyState) : Ksu :=
  { Ksu.reset with
    assembly := a
    strokeSet := 4
    chordStart := some 5
    firstRelease := if a = .release then some 9 else none
    clock := 20 }

theorem witness_DebounceTimersAndClockKeepTime :
    let s := pressing 22 Ksu.reset
    (true = hasKey base.ksu.accepted 0) ∧
    (false ≠ hasKey base.ksu.accepted 0 ∧ base.ksu.debounce[(0 : Key)] = none) ∧
    (false ≠ hasKey s.ksu.accepted 22 ∧ s.ksu.debounce[(22 : Key)].isSome = true) ∧
    (Ready base ∧ base.ksu.chordStart = none ∧ base.ksu.firstRelease = none) ∧
    Ready { base with ksu := inStroke .release } ∧ (inStroke .release).chordStart = some 5 ∧
      (inStroke .release).firstRelease = some 9 :=
  ⟨by decide, by decide, by decide, ⟨ready_base, rfl, rfl⟩, ready_of_reset rfl, rfl, rfl⟩

theorem witness_PressIsTakenByStrokeAssembly :
    let pressed (k : Key) (u : Ksu) : Prop :=
      let s := pressing k u
      s.ksu.debounce[k].isSome = true ∧ ¬isDown s.ksu k ∧ isDown (accepting s.ksu k) k ∧
        hasKey s.ksu.hostMask k = false ∧ hasKey s.ksu.stuckMask k = false
    pressed 0 Ksu.reset ∧ pressed 22 (inStroke .chord) ∧
    pressed 22 { inStroke .release with stacking := false } ∧
    (pressed 0 (inStroke .release) ∧ assembling (pressing 0 (inStroke .release)).ksu 5 ∧
      (inStroke .release).stacking = true ∧ (inStroke .release).firstRelease = some 9) := by
  unfold isDown assembling
  decide

/-- A key, accepted low, high on its line and its debounce timer running. -/
def releasing (k : Key) (u : Ksu) : State :=
  { base with ksu := { u with
    accepted := dropKey (BitVec.allOnes 23) k
    debounce := (Vector.replicate 23 none).set k (some 10) } }

theorem witness_ReleaseIsTakenByStrokeAssembly :
    let freed (k : Key) (u : Ksu) : Prop :=
      let s := releasing k u
      s.ksu.debounce[k].isSome = true ∧ (isDown s.ksu k ↔ ¬isDown (accepting s.ksu k) k) ∧ isDown s.ksu k
    let unmasked (k : Key) (u : Ksu) : Prop :=
      freed k u ∧ hasKey u.hostMask k = false ∧ hasKey u.stuckMask k = false
    (unmasked 22 { Ksu.reset with carried := keyBit 22 } ∧ hasKey (keyBit 22) 22 = true) ∧
    (unmasked 2 (inStroke .chord) ∧ assembling (releasing 2 (inStroke .chord)).ksu 5) ∧
    (unmasked 2 (inStroke .release) ∧ assembling (releasing 2 (inStroke .release)).ksu 5 ∧
      hasKey (inStroke .release).strokeSet 2 = true) ∧
    (unmasked 0 Ksu.reset ∧ hasKey Ksu.reset.strokeSet 0 = false) ∧
    (freed 0 { Ksu.reset with hostMask := keyBit 0 }) ∧
    freed 0 { Ksu.reset with stuckMask := keyBit 0 } := by
  unfold isDown assembling
  decide

theorem witness_HoldExpiryCutsTheKey :
    let held (k : Key) (u : Ksu) : Ksu :=
      { (releasing k u).ksu with hold := (Vector.replicate 23 none).set k (some 3000) }
    let carrying := held 2 { Ksu.reset with carried := keyBit 2 }
    let striking := held 2 (inStroke .chord)
    let neither := held 22 Ksu.reset
    ((carrying.hold[(2 : Key)].isSome = true ∧ hasKey carrying.carried 2 = true ∧ carrying.cutFlag = false) ∧
    (striking.hold[(2 : Key)].isSome = true ∧ hasKey striking.carried 2 = false ∧
      strokeKeyDown striking 2 ∧ assembling striking 5) ∧
    (neither.hold[(22 : Key)].isSome = true ∧ hasKey neither.carried 22 = false ∧
      ¬strokeKeyDown neither 22 ∧ neither.cutFlag = false) ∧ Ksu.reset.hold[(0 : Key)] = none) ∧
    Ready base ∧ max 500 (min 10000 (BitVec.toNat (499 : BitVec 16))) = 500 ∧
      max 500 (min 10000 (BitVec.toNat (10001 : BitVec 16))) = 10000 := by
  refine ⟨?_, ready_base, by decide⟩
  unfold strokeKeyDown isDown assembling
  decide

/-- Keys 0 and 2 are stroke keys still down, 1 is stuck, 3 carried, 4 masked and up, 5 up, 6 masked and
down. -/
def keyed (a : AssemblyState) : Ksu :=
  { inStroke a with
    accepted := BitVec.allOnes 23 &&& ~~~0x4F
    hostMask := 0x50
    stuckMask := 0x02
    carried := 0x08
    strokeSet := 0x05
    hold := (((Vector.replicate 23 none).set 0 (some 1)).set 2 (some 1)).set 3 (some 9) }

/-- The polarity value 0x33 turns keys 0 and 1 up and 4 and 5 down; the mask 0x11 takes in key 0, keeps 4
and leaves out 6. -/
theorem witness_PolarityAndMaskHandleEachKey :
    (Ready base ∧ 8388607 < (8388608 : Stroke).toNat ∧ (8388607 : Stroke).toNat ≤ 8388607) ∧
    ∀ a : AssemblyState, a = .chord ∨ a = .release →
      Ready { base with ksu := keyed a } ∧
      (let turned := { keyed a with polarity := 0x33 }
       (isDown (keyed a) 0 ∧ ¬isDown turned 0) ∧ (isDown (keyed a) 1 ∧ ¬isDown turned 1) ∧
       (¬isDown (keyed a) 5 ∧ isDown turned 5 ∧ hasKey (keyed a).hostMask 5 = false) ∧
       (¬isDown (keyed a) 4 ∧ isDown turned 4 ∧ hasKey (keyed a).hostMask 4 = true) ∧
       (isDown (keyed a) 3 ↔ isDown turned 3) ∧
       strokeKeyDown (keyed a) 0 ∧ ¬isDown turned 0 ∧ strokeKeyDown turned 2 ∧ assembling (keyed a) 5) ∧
      (let all := { keyed a with polarity := 0x05 }
       ∀ k : Key, ¬strokeKeyDown all k) ∧
      (let none := { keyed a with polarity := 0x20 }
       ∀ k : Key, ¬(strokeKeyDown (keyed a) k ∧ ¬isDown none k)) ∧
      (let masked := { keyed a with hostMask := 0x11 }
       (isDown (keyed a) 0 ∧ hasKey (keyed a).stuckMask 0 = false ∧ hasKey (keyed a).hostMask 0 = false ∧
         hasKey masked.hostMask 0 = true) ∧
       (isDown (keyed a) 6 ∧ hasKey (keyed a).stuckMask 6 = false ∧ hasKey (keyed a).hostMask 6 = true ∧
         hasKey masked.hostMask 6 = false) ∧
       ¬isDown (keyed a) 4 ∧ hasKey (keyed a).stuckMask 1 = true ∧ strokeKeyDown masked 2) := by
  refine ⟨⟨ready_base, by decide⟩, fun a h => ⟨ready_of_reset rfl, ?_⟩⟩
  unfold strokeKeyDown isDown assembling
  rcases h with rfl | rfl <;> decide

theorem witness_StackingInjectionAndKeyInfo : Ready base ∧ base.strokeQueue.length < 16 :=
  ⟨ready_base, by decide⟩


/-! ### Witnesses: chapter 2 -/

/-- The part with a descriptor in slot 0. -/
def holding (d : Slot) : State := base.withSlot 0 d

theorem ready_holding (d : Slot) : Ready (holding d) := ready_of_reset rfl

theorem witness_MemorySizeAndWindowsAreChecked :
    (Ready base ∧ 3 < (4 : Byte).toNat) ∧ Ready base ∧ (3 : Byte).toNat = (3 : SlotNo).val ∧
      ∀ m, (base.slot m).state ≠ .vacant → 0 < (base.slot m).size :=
  ⟨⟨ready_base, by decide⟩, ready_base, by decide⟩

theorem witness_SlotIsReleasedRankedLockedAndRead :
    (Ready base ∧ 3 < (4 : Byte).toNat) ∧ (Ready base ∧ (3 : Byte).toNat = (3 : SlotNo).val ∧ gateServed base 3) ∧
    (let same : Fin 4 → Byte := fun _ => 3
      let above : Fin 4 → Byte := fun i => BitVec.ofNat 8 (i.val + 1)
      (¬∀ i j, (same i).toNat = (same j).toNat → i = j) ∧ ¬∀ i, (above i).toNat ≤ 3) ∧
    let r : Fin 4 → Byte := fun i => BitVec.ofNat 8 (3 - i.val)
    let order : Fin 4 → SlotNo := fun i => 3 - i
    (∀ i, (r i).toNat = (order i).val) ∧ ∀ i j, order i = order j → i = j := by
  refine ⟨⟨ready_base, by decide⟩, ⟨ready_base, by decide, ?_⟩, by decide⟩
  unfold gateServed
  decide

/-- The TE over " there" with two probes in slot 0, the first TAKEN, its result as given (withdrawn where it
is not pending), the second WAITING behind it. -/
def asking (first : PairResult) (replay : Option Replay) : State :=
  { base with
    mp := { Mp.reset with
      probes := [⟨0, 0, [1, 1], first != .pending 0, some (Walk.start job [1, 1] true)⟩, ⟨1, 0, [1], false, none⟩]
      gates := Mp.reset.gates.set 0 ⟨some (.probe 0), [.probe 1]⟩ }
    te := { Te.reset with
      state := if replay.isSome then .rescanning else .resolving
      run := true
      window := [plain [1] there]
      table := some ⟨1, 1, [0], [0, 1, 2, 3], [⟨1, 0, [1, 1], first⟩, ⟨0, 0, [1], .pending 1⟩], false⟩
      replay := replay } }

/-- The part once slot 0 is no longer consulted. -/
def askedNoMore (first : PairResult) (replay : Option Replay) (access : Access) : State :=
  missAnswered (viewSignalled ((asking first replay).withSlot 0 { job with access := access })) 0

theorem gates_asking (first : PairResult) (replay : Option Replay) : gatesInOrder (asking first replay) where
  tags := by show ([0, 1] : List (Fin 32)).Nodup; decide
  served := by
    show ∀ n : SlotNo, (((Mp.reset.gates.set 0 ⟨some (.probe 0), [.probe 1]⟩)[n]).holder = none →
      ((Mp.reset.gates.set 0 ⟨some (.probe 0), [.probe 1]⟩)[n]).waiting = [])
    decide
  once := by
    show ∀ n : SlotNo, ((Mp.reset.gates.set 0 ⟨some (.probe 0), [.probe 1]⟩)[n]).waiting.Nodup
    decide
  taken := by
    intro n tag
    simp only [asking, List.mem_cons, List.not_mem_nil, or_false, exists_eq_or_imp, exists_eq_left,
      Option.isSome_some, Option.isSome_none, and_true, Bool.false_eq_true, and_false]
    show ((Mp.reset.gates.set 0 ⟨some (.probe 0), [.probe 1]⟩)[n]).holder = _ ↔ _
    revert n tag
    decide
  waiting := by
    intro n tag
    simp only [asking, List.mem_cons, List.not_mem_nil, or_false, exists_eq_or_imp, exists_eq_left,
      and_true, reduceCtorEq, and_false, false_or]
    show _ ∈ ((Mp.reset.gates.set 0 ⟨some (.probe 0), [.probe 1]⟩)[n]).waiting ↔ _
    revert n tag
    decide
  upkeep := by
    intro n
    refine ⟨fun h => absurd h ?_, fun ⟨op, h, _⟩ => absurd h (by simp [asking, Mp.reset])⟩
    clear h
    show ¬(((Mp.reset.gates.set 0 ⟨some (.probe 0), [.probe 1]⟩)[n]).holder = some .upkeep ∨
      .upkeep ∈ ((Mp.reset.gates.set 0 ⟨some (.probe 0), [.probe 1]⟩)[n]).waiting)
    revert n
    decide
  notBoth := by
    show ∀ n : SlotNo, ((Mp.reset.gates.set 0 ⟨some (.probe 0), [.probe 1]⟩)[n]).holder = some .upkeep →
      .upkeep ∉ ((Mp.reset.gates.set 0 ⟨some (.probe 0), [.probe 1]⟩)[n]).waiting
    decide

theorem stops_asking (first : PairResult) (replay : Option Replay) :
    stopsConsulting (asking first replay) 0 0 0 (askedNoMore first replay .shut) ∧
      stopsConsulting (asking first replay) 0 2 0 (askedNoMore first replay .maintain) :=
  ⟨⟨ready_of_reset rfl, gates_asking _ _, rfl, .inl rfl, rfl, rfl, .inr rfl, rfl⟩,
    ⟨ready_of_reset rfl, gates_asking _ _, rfl, .inr rfl, rfl, rfl, .inr rfl, rfl⟩⟩

theorem witness_AccessChangesAndAnswersWaitingProbes :
    (Ready base ∧ 3 < (4 : Byte).toNat) ∧
    (0 : Byte).toNat = (0 : SlotNo).val ∧
    ([(0, Access.shut), (1, .lookup), (2, .maintain), (3, .full)].lookup (2 : Byte).toNat = some .maintain) ∧
    (Ready (holding { job with lock := true }) ∧ ((holding { job with lock := true }).slot 0).lock = true) ∧
    (Ready State.reset ∧ (State.reset.slot 0).lock = false ∧ (State.reset.slot 0).state ≠ .ready) ∧
    (∀ access : Access, Ready (holding { job with access := access }) ∧
      ((holding { job with access := access }).slot 0).state = .ready ∧
      ((holding { job with access := access }).slot 0).access = access) ∧
    (let s := asking (.pending 0) none
     let u := askedNoMore (.pending 0) none .shut
     stopsConsulting s 0 0 0 u ∧ quiet u ∧ s.te.window ≠ [] ∧
      ∃ p ∈ s.mp.probes, p.slot = 0 ∧ p.walk = none) ∧
    ∀ first, stopsConsulting (asking first none) 0 2 0 (askedNoMore first none .maintain) := by
  refine ⟨⟨ready_base, by decide⟩, by decide, by decide, ⟨ready_holding _, rfl⟩,
    ⟨ready_of_reset rfl, by decide⟩, fun a => ⟨ready_holding _, rfl, rfl⟩,
    ⟨(stops_asking _ _).1, ?_, by simp [asking], ⟨1, 0, [1], false, none⟩, by simp [asking], rfl, rfl⟩,
    fun _ => (stops_asking _ _).2⟩
  intro t h
  obtain rfl := Option.some.inj h
  exact ⟨[], _, _, rfl, by simp, .inr ⟨0, rfl⟩⟩

/-- The upkeep engine at work in slot 0, its claim taken. -/
def working (op : UpkeepOp) : State :=
  { base with mp := { Mp.reset with upkeep := some op, gates := Mp.reset.gates.set 0 ⟨some .upkeep, []⟩ } }

/-- A FETCH_ENTRY of THER in slot 0. -/
def fetching : EntryOp := EntryOp.start .fetch 0 job [18500] 0 [] false []

theorem witness_LockedSlotStaysAsItIs :
    let s := ((working (.entry fetching)).withSlot 0 { job with lock := true }).withPending
      [.arbiterGrant 0, .hardReset]
    (s.slot 0).lock = true ∧ (s.slot 0).state = .ready ∧
    (∀ op, s.mp.upkeep = some op → op.slot = 0 → ∃ e, op = .entry e ∧ e.kind = .fetch) ∧
    claimsInPlace s ∧ (∃ t, step s = .next t) ∧ ∀ rest, s.pending ≠ .hardReset :: rest := by
  refine ⟨rfl, rfl, fun op h _ => ⟨fetching, (Option.some.inj h).symm, rfl⟩, ?_, ⟨_, rfl⟩, by simp [State.withPending]⟩
  intro n h
  refine ⟨.entry fetching, rfl, ?_⟩
  revert n
  decide

/-! ### Witnesses: chapters 3 and 4 -/

/-- "there", as THER is entered. -/
def thereText : List Byte := [0x74, 0x68, 0x65, 0x72, 0x65]

/-- The job slot's window, bucket 918 of outline {#} empty, bucket 1,003 with THER in cell 128. -/
def store : List Host.Cell :=
  [(3673, 255), (3674, 255), (3675, 255), (4015, 128), (4096, 255), (4097, 255), (4098, 255), (4099, 255),
    (4100, 255), (4101, 255), (4102, 1), (4103, 5), (4106, 0x48), (4107, 0x44), (4108, 0x74), (4109, 0x68),
    (4110, 0x65), (4111, 0x72), (4112, 0x65)]

theorem bucket_18500 : bucketOf 1024 [18500] = 1003 := by decide

theorem bucket_1 : bucketOf 1024 [1] = 918 := by decide

theorem legal_18500 : legalOutline [18500] := by simp [legalOutline]

theorem legal_1 : legalOutline [1] := by simp [legalOutline]

theorem holds_store : holdsEntry store job ⟨[128], [18500], 0, thereText⟩ none := by
  refine ⟨legal_18500, by decide, by decide, by decide, by simp, ?_⟩
  intro i h
  have : i = 0 := Nat.lt_one_iff.mp h
  subst this
  show (entryCell none [128] [18500] 0 thereText 0).isPrefixOf (cellBytesOf store 0 128) = true
  decide

theorem witness_WalkFindsTheOutlineInItsChain :
    ((8388607 : Stroke).toNat ≤ 8388607 ∧ 0 < 1 ∧ 1 ≤ 7) ∧
    (legalOutline [1] ∧ ([] : List Held).length ≤ 32 ∧ job.size ≤ 2 ^ 24 ∧
      (∀ c : Nat, (none : Link) = some c → c < job.size / 32) ∧
      (∀ i : Fin 3, readByte store (job.base + 4 * 918 + 1 + i.val) = [0xFF, 0xFF, 0xFF][i]) ∧
      linkAsBytes none = [0xFF, 0xFF, 0xFF] ∧ holdsChain store job none []) ∧
    let e : Held := ⟨[128], [18500], 0, thereText⟩
    legalOutline e.outline ∧ (∀ c : Nat, some 128 = some c → c < job.size / 32) ∧
      (∀ i : Fin 3, readByte store (job.base + 4 * 1003 + 1 + i.val) = [0, 0, 128][i]) ∧
      linkAsBytes (some 128) = [0, 0, 128] ∧
      holdsChain store job (some 128) [e] ∧ [e] = [] ++ e :: [] ∧ e.outline = [18500] := by
  exact ⟨by decide, ⟨legal_1, by decide, by decide, by simp, by decide, by decide, rfl⟩, legal_18500,
    fun c h => Option.some.inj h ▸ (by decide), by decide, by decide, ⟨rfl, none, holds_store, rfl⟩, rfl, rfl⟩

theorem witness_EntryWritesAreCheckedThenClaimTheGate :
    Ready base ∧ (Instr.addEntry 0 [1] 15 [], EntryKind.add, (0x1F : Byte), (15 : Byte), ([] : List Byte)) ∈
      [(Instr.addEntry 0 [1] 15 [], EntryKind.add, (0x1F : Byte), (15 : Byte), ([] : List Byte)),
        (.replaceEntry 0 [1] 15 [], .replace, 0x20, 15, []), (.retireEntry 0 [1], .retire, 0x21, 0, [])] ∧
    3 < (4 : Byte).toNat ∧ (3 : Byte).toNat = (3 : SlotNo).val ∧ gateServed base 3 := by
  refine ⟨ready_base, by simp, by decide, by decide, ?_⟩
  unfold gateServed
  decide

theorem witness_FetchIsCheckedThenClaimsTheGate :
    (Ready base ∧ (0xFE : Byte) ≠ 0xFF ∧ 3 < (0xFE : Byte).toNat) ∧
    (Ready base ∧ (3 : Byte) ≠ 0xFF ∧ (3 : Byte).toNat = (3 : SlotNo).val ∧ gateServed base 3) ∧
    (Ready base ∧ ranksDiffer base ∧ consultedInRankOrder base [0] ∧ ∀ n, gateServed base n) ∧
    Ready State.reset ∧ ranksDiffer State.reset ∧ consultedInRankOrder State.reset [] ∧
      ∀ n, gateServed State.reset n := by
  refine ⟨⟨ready_base, by decide⟩, ⟨ready_base, by decide, by decide, ?_⟩, ⟨ready_base, ?_, ?_, ?_⟩,
    ready_of_reset rfl, ?_, ?_, ?_⟩ <;>
    (try unfold gateServed) <;> (try unfold ranksDiffer) <;> (try unfold consultedInRankOrder) <;> decide

/-- Where no probe holds a gate the lookup walker has nothing ready. -/
theorem no_lookup {s : State} (h : ∀ m tag, (s.gate m).holder ≠ some (.probe tag)) (m : SlotNo) (c : Nat) :
    ¬lookupWaits s m c := fun ⟨tag, _, _, held, _⟩ => h m tag held

theorem no_lookup_working (op : UpkeepOp) (m : SlotNo) (c : Nat) : ¬lookupWaits (working op) m c := by
  refine no_lookup ?_ m c
  show ∀ (m : SlotNo) (tag : Fin 32), (((Mp.reset.gates.set 0 ⟨some .upkeep, []⟩)[m]).holder) ≠ some (.probe tag)
  decide

/-- The upkeep engine at work on the store. -/
def storing (op : EntryOp) : State := (working (.entry op)).withSdram store

/-- The grant is the upkeep engine's as soon as the operation asks for a cell of the window. -/
theorem granted_storing (op : EntryOp) (c : Nat) (hslot : op.slot = 0) (h : op.access = some c)
    (hc : c < 2048) : upkeepGranted (storing op) (.entry op) c := by
  refine ⟨⟨rfl, ?_, h, ?_⟩, .inl fun m d h => no_lookup_working (.entry op) m d h⟩
  · show ((storing op).gate op.slot).holder = some .upkeep
    rw [hslot]
    rfl
  · show cellExists (storing op) ((storing op).slot op.slot).base ((storing op).slot op.slot).size c
    rw [hslot]
    show c < 65536 / 32 ∧ 0 + 32 * c + 32 ≤ 8 * 2 ^ 20
    omega

/-- An entry operation for THER, its next access the head cell that matches. -/
def finding (kind : EntryKind) : EntryOp :=
  let op := EntryOp.start kind 0 job [18500] 0 [] false []
  { op with walk := { op.walk with phase := .headCell 128, bucketLink := some 128 } }

/-- An entry operation for outline {#}, its next access the empty bucket. -/
def missing (kind : EntryKind) : EntryOp := EntryOp.start kind 0 job [1] 0 [0x41] false []

theorem missing_access (kind : EntryKind) : (missing kind).access = some 114 := by
  show some (directoryCell (bucketOf 1024 [1])) = some 114
  rw [bucket_1]
  rfl

/-- An entry operation for outline {#} with a number of free cells and a text, its next access the last
entry of its chain, which is another one, with a number of entries seen before it. -/
def passing (kind : EntryKind) (free seen text : Nat) : EntryOp :=
  { missing kind with
    freeCount := free
    text := List.replicate text 0x41
    walk := { (missing kind).walk with phase := .headCell 128, seen := seen } }

/-- A walk that goes on; the entry found; the outline absent in an empty bucket, and behind another entry.
The boundaries: 31 and 32 entries seen; the free cells just enough, and one too few; with the one cell
of the old entry just enough, and one too few. -/
theorem witness_WalkDecidesTheEntryOperation : ∀ kind : EntryKind,
    ((missing kind).stage = .walking ∧ upkeepGranted (storing (missing kind)) (.entry (missing kind)) 114 ∧
      ((missing kind).walk.advance (cellBytesOf store 0 114)).phase = .absent) ∧
    (let goes := EntryOp.start kind 0 job [18500] 0 [] false []
     upkeepGranted (storing goes) (.entry goes) 125 ∧
      (goes.walk.advance (cellBytesOf store 0 125)).phase = .headCell 128) ∧
    (∀ free text : Nat, (free = 0 ∨ free = 1) ∧ (text = 20 ∨ text = 21) →
      let op := { finding kind with freeCount := free, text := List.replicate text 0x41 }
      let w := op.walk.advance (cellBytesOf store 0 128)
      op.stage = .walking ∧ upkeepGranted (storing op) (.entry op) 128 ∧ w.phase = .found ∧
        cellsFor (3 * w.entry.strokes + w.entry.textLen) = 1 ∧
        (cellsFor (3 * op.outline.length + op.text.length) ≤ op.freeCount + 1 ↔ text = 20 ∨ free = 1)) ∧
    ∀ free seen text : Nat, (free = 0 ∨ free = 1) ∧ (seen = 30 ∨ seen = 31) ∧ (text = 20 ∨ text = 21) →
      let op := passing kind free seen text
      let w := op.walk.advance (cellBytesOf store 0 128)
      op.stage = .walking ∧ upkeepGranted (storing op) (.entry op) 128 ∧ w.phase = .absent ∧
        w.seen = seen + 1 ∧
        (cellsFor (3 * op.outline.length + op.text.length) ≤ op.freeCount ↔ free = 1 ∧ text = 20) := by
  have h18 : (Walk.start job [18500] false).bucket = 1003 := bucket_18500
  intro kind
  refine ⟨⟨rfl, granted_storing _ _ rfl (missing_access kind) (by decide), ?_⟩,
    ⟨granted_storing _ _ rfl ?_ (by decide), ?_⟩, ?_, ?_⟩
  · have hb : (missing kind).walk.bucket = 918 := bucket_1
    have hp : (missing kind).walk.phase = .bucketHead := rfl
    simp only [Walk.advance, hp, hb]
    cases kind <;> decide
  · show some (directoryCell (bucketOf 1024 [18500])) = some 125
    rw [bucket_18500]
    rfl
  · cases kind <;> (simp only [EntryOp.start, Walk.advance]; decide)
  · rintro free text ⟨rfl | rfl, rfl | rfl⟩ <;>
      exact ⟨rfl, granted_storing _ _ rfl rfl (by decide), by cases kind <;> decide⟩
  · rintro free seen text ⟨rfl | rfl, rfl | rfl, rfl | rfl⟩ <;>
      exact ⟨rfl, granted_storing _ _ rfl rfl (by decide), by cases kind <;> decide⟩

theorem witness_EntryOperationStoresOnlyItsBytes :
    Memory.wf store = true ∧
    ∀ p ∈ ([(.unlink, 125), (.returnRead 0, 0), (.returnWrite 2047 none, 2047), (.returnWrite 128 (some 130), 128),
        (.take, 128), (.writeHead, 128), (.writeCont 1, 129), (.writeBucket, 125)] : List (EntryStage × Nat)),
      let op := { finding .replace with stage := p.1, taken := [128, 129] }
      op.stage ≠ .walking ∧ op.stage ≠ .writeCont 0 ∧ upkeepGranted (storing op) (.entry op) p.2 := by
  refine ⟨by decide, fun p hp => ?_⟩
  have all : p.1 ≠ .walking ∧ p.1 ≠ .writeCont 0 ∧ p.2 < 2048 ∧
      ({ finding .replace with stage := p.1, taken := [128, 129] } : EntryOp).access = some p.2 := by
    revert p hp
    decide
  exact ⟨all.1, all.2.1, granted_storing _ _ rfl all.2.2.2 all.2.2.1⟩

theorem witness_EntryOperationEndsWithItsResponse :
    (∀ kind : EntryKind, let op := { finding kind with stage := .ended }
      let s := storing op
      s.mp.upkeep = some (.entry op) ∧ op.stage = .ended ∧ (s.gate op.slot).holder = some .upkeep ∧
        .upkeep ∉ (s.gate op.slot).waiting ∧ op.outline ≠ [] ∧ op.any = false) ∧
    let last := { fetching with stage := .ended, status := .notFound, any := true }
    let more := { last with laterSlots := [3] }
    ((storing last).mp.upkeep = some (.entry last) ∧ last.laterSlots = [] ∧ last.outline ≠ []) ∧
    let s := storing more
    let r := { storing more with cp := { Cp.reset with restarts := 1 } }
    (s.mp.upkeep = some (.entry more) ∧ more.stage = .ended ∧ (s.gate more.slot).holder = some .upkeep ∧
      .upkeep ∉ (s.gate more.slot).waiting ∧ more.any = true ∧ more.status = .notFound ∧
      more.laterSlots = 3 :: [] ∧ s.cp.restarts = 0 ∧ gateServed s 3) ∧
    r.mp.upkeep = some (.entry more) ∧ (r.gate more.slot).holder = some .upkeep ∧
      .upkeep ∉ (r.gate more.slot).waiting ∧ more.outline ≠ [] ∧ r.cp.restarts ≠ 0 := by
  refine ⟨fun kind => ⟨rfl, rfl, rfl, ?_, by simp [finding, EntryOp.start], rfl⟩,
    ⟨rfl, rfl, by simp [fetching, EntryOp.start]⟩,
    ⟨rfl, rfl, rfl, ?_, rfl, rfl, rfl, rfl, fun _ => rfl⟩, rfl, rfl, ?_, by simp [fetching, EntryOp.start],
    by decide⟩ <;> exact List.not_mem_nil

/-- A probe for outline {#} in slot 0, taken, its walk begun. -/
def seeking : Probe := ⟨0, 0, [1], false, some (Walk.start job [1] true)⟩

/-- The probe at work in slot 0, the upkeep engine waiting for its next grant in slot 1, L after `run` lookup
grants. -/
def bothReady (run : Nat) : State :=
  { base with
    dict := { memMiB := 8, slots := #v[job, { job with base := 0x10000 }, Slot.reset 2, Slot.reset 3] }
    mp := { share := 3, lookupRun := run, probes := [seeking], gates := #v[⟨some (.probe 0), []⟩,
      ⟨some .upkeep, []⟩, ⟨none, []⟩, ⟨none, []⟩], upkeep := some (.format 1 0) } }

theorem lookup_ready (run : Nat) : lookupWaits (bothReady run) 0 114 := by
  refine ⟨0, seeking, Walk.start job [1] true, rfl, rfl, rfl, ?_,
    show 114 < 65536 / 32 ∧ 0 + 32 * 114 + 32 ≤ 8 * 2 ^ 20 by decide⟩
  show some (directoryCell (bucketOf 1024 [1])) = some 114
  rw [bucket_1]
  rfl

theorem upkeep_ready (run : Nat) : upkeepWaits (bothReady run) (.format 1 0) 0 :=
  ⟨rfl, rfl, if_pos (show 0 < 65536 / 32 by decide),
    show 0 < 65536 / 32 ∧ 0x10000 + 32 * 0 + 32 ≤ 8 * 2 ^ 20 by decide⟩

theorem no_upkeep {s : State} (h : s.mp.upkeep = none) (op : UpkeepOp) (c : Nat) : ¬upkeepWaits s op c := by
  intro w
  rw [w.1] at h
  exact absurd h (by simp)

/-- With no memory declared no cell exists, and nothing is ready. -/
theorem nothing_ready {s : State} (h : s.dict.memMiB = 0) :
    (∀ m c, ¬lookupWaits s m c) ∧ ∀ op c, ¬upkeepWaits s op c := by
  refine ⟨fun m c w => ?_, fun op c w => ?_⟩
  · obtain ⟨_, _, _, _, _, _, _, _, e⟩ := w
    rw [h] at e
    omega
  · have e := w.2.2.2.2
    rw [h] at e
    omega

theorem witness_ArbiterGrantsByItsTable :
    ((∀ m c, ¬lookupWaits base m c) ∧ ∀ op c, ¬upkeepWaits base op c) ∧
    (let s := { bothReady 3 with dict := { (bothReady 3).dict with memMiB := 0 } }
     (∀ m c, ¬lookupWaits s m c) ∧ ∀ op c, ¬upkeepWaits s op c) ∧
    (let s := { bothReady 3 with mp := { (bothReady 3).mp with upkeep := none } }
     lookupWaits s 0 114 ∧ ∀ op c, ¬upkeepWaits s op c) ∧
    (lookupWaits (bothReady 2) 0 114 ∧ (bothReady 2).mp.lookupRun < (bothReady 2).mp.share) ∧
    upkeepGranted (bothReady 3) (.format 1 0) 0 ∧ Ready base := by
  refine ⟨⟨no_lookup ?_, no_upkeep rfl⟩, nothing_ready rfl, ⟨?_, no_upkeep rfl⟩,
    ⟨lookup_ready 2, by decide⟩, ⟨upkeep_ready 3, .inr (by decide)⟩, ready_base⟩
  · decide
  · obtain ⟨tag, p, w, h⟩ := lookup_ready 3
    exact ⟨tag, p, w, h⟩

theorem witness_FormatLaysOutTheWindow :
    (Ready base ∧ 3 < (4 : Byte).toNat) ∧ (Ready base ∧ (3 : Byte).toNat = (3 : SlotNo).val ∧ gateServed base 3) ∧
    (let s := working (.format 0 2048)
     s.mp.upkeep = some (.format 0 ((s.slot 0).size / 32)) ∧ (s.gate 0).holder = some .upkeep ∧
      .upkeep ∉ (s.gate 0).waiting ∧ s.cp.restarts = 0) ∧
    ∀ c ∈ [0, 127, 128, 2047], let s := working (.format 0 c)
      Memory.wf s.sdram = true ∧ upkeepGranted s (.format 0 c) c := by
  refine ⟨⟨ready_base, by decide⟩, ⟨ready_base, by decide, fun _ => rfl⟩,
    ⟨rfl, rfl, List.not_mem_nil, rfl⟩, fun c hc => ?_⟩
  have h : c < 2048 := by
    revert c hc
    decide
  refine ⟨rfl, ⟨rfl, rfl, ?_, ?_⟩, .inl (no_lookup_working _)⟩
  · show (if c < 65536 / 32 then some c else none) = some c
    exact if_pos h
  · show c < 65536 / 32 ∧ 0 + 32 * c + 32 ≤ 8 * 2 ^ 20
    omega

/-- A probe table for outline {#} with one slot consulted, its pairs with the given results. -/
def tableWith (results : List PairResult) : ProbeTable :=
  ⟨1, 0, [0], [0, 1, 2, 3], results.map fun r => ⟨0, 0, [1], r⟩, false⟩

/-- The TE in resolution with probes outstanding on the given tags. -/
def resolving (results : List PairResult) (tags : List (Fin 32)) (gate : Gate) : State :=
  { base with
    te := { Te.reset with state := .resolving, run := true, table := some (tableWith results) }
    mp := { Mp.reset with
      probes := tags.map fun tag => ⟨tag, 0, [1], false, none⟩
      gates := Mp.reset.gates.set 0 gate } }

theorem witness_ProbeIsIssuedOnTheLowestFreeTag :
    (∀ p ∈ (tableWith [.miss, .pending 0]).pairs, p.result ≠ .unissued) ∧
    (∀ tag, ∃ p ∈ (resolving [.unissued] allTags ⟨none, []⟩).mp.probes, p.tag = tag) ∧
    (∀ tag : Fin 32, tag = 0 ∨ tag = 31 →
      let s := resolving [.miss, .unissued, .unissued] (allTags.take tag.val) ⟨none, []⟩
      s.te.table = some (tableWith [.miss, .unissued, .unissued]) ∧
      (∀ q ∈ s.mp.probes, q.tag ≠ tag) ∧ (∀ tag' < tag, ∃ q ∈ s.mp.probes, q.tag = tag') ∧
      (s.gate 0).holder = none ∧ (s.gate 0).waiting = [] ∧ (s.slot 0).access = .full) ∧
    ((resolving [.unissued] [0] ⟨some (.probe 0), []⟩).gate 0).holder = some (.probe 0) ∧
    ((resolving [.unissued, .unissued] [] ⟨none, []⟩).withSlot 0 { job with access := .maintain }).slot 0 =
      { job with access := .maintain } ∧
    undecided (tableWith [.miss, .unissued]).pairs := by
  refine ⟨by decide, by decide, ?_, rfl, rfl, [⟨0, 0, [1], .miss⟩], ⟨0, 0, [1], .unissued⟩, [], rfl, by simp, .inl rfl⟩
  rintro tag (rfl | rfl)
  · exact ⟨rfl, by decide, by decide, rfl, rfl, rfl⟩
  · exact ⟨rfl, by decide, by decide, rfl, rfl, rfl⟩

/-- A probe of tag 0 with its walk in a phase. -/
def walking (phase : WalkPhase) (withdrawn : Bool) : Probe :=
  ⟨0, 0, [1], withdrawn, some { Walk.start job [1] true with phase := phase }⟩

/-- The walking probe holds the gate of slot 0. -/
def probing (phase : WalkPhase) (withdrawn : Bool) (te : Te) (op : Option UpkeepOp) (waiting : List Claim) :
    State :=
  { base with
    te := te
    mp := { Mp.reset with
      probes := [walking phase withdrawn]
      gates := Mp.reset.gates.set 0 ⟨some (.probe 0), waiting⟩
      upkeep := op } }

theorem holds_probing (phase : WalkPhase) (withdrawn : Bool) (te : Te) :
    probeHolds (probing phase withdrawn te none []) 0 (walking phase withdrawn)
      { Walk.start job [1] true with phase := phase } := by
  refine ⟨List.mem_singleton.mpr rfl, fun _ h _ => List.mem_singleton.mp h, rfl, rfl, fun m rest h => ?_⟩
  exact absurd h (by simp [probing])

theorem holds_probing_release (phase : WalkPhase) (withdrawn : Bool) (te : Te) :
    probeHolds (probing phase withdrawn te (some (.release 0)) [.upkeep]) 0 (walking phase withdrawn)
      { Walk.start job [1] true with phase := phase } :=
  ⟨List.mem_singleton.mpr rfl, fun _ h _ => List.mem_singleton.mp h, rfl, rfl,
    fun _ _ _ h => ⟨(List.cons.inj h).2.symm, rfl⟩⟩

theorem witness_ProbeEndFreesTheTagAndTheGate :
    (probeHolds (probing .absent true Te.reset (some (.release 0)) [.upkeep]) 0 (walking .absent true)
        { Walk.start job [1] true with phase := .absent } ∧ (walking .absent true).withdrawn = true) ∧
    (let te := { Te.reset with state := .resolving, table := some (tableWith [.pending 0, .unissued]) }
      let s := probing .absent false te none []
      probeHolds s 0 (walking .absent false) { Walk.start job [1] true with phase := .absent } ∧
      walkResult { Walk.start job [1] true with phase := .absent } .miss ∧ quiet (resultIn s 0 .miss)) ∧
    probeHolds (probing .bucketHead false Te.reset none []) 0 (walking .bucketHead false)
      { Walk.start job [1] true with phase := .bucketHead } := by
  refine ⟨⟨holds_probing_release .absent true Te.reset, rfl⟩, ⟨holds_probing .absent false _, .inl ⟨rfl, rfl⟩, ?_⟩,
    holds_probing .bucketHead false Te.reset⟩
  intro t h
  obtain rfl := Option.some.inj h
  exact ⟨[⟨0, 0, [1], .miss⟩], ⟨0, 0, [1], .unissued⟩, [], rfl, by simp, .inl rfl⟩

/-! ### Witnesses: chapters 5 to 7 -/

theorem witness_CandidatesAreTheNewestRecords :
    (∀ r ∈ ([] : List Record), 1 ≤ r.data.outline.length) ∧ 0 ≤ maxCandidate [] ∧
    (let w := [plain [8] [], plain [1, 2, 3, 4, 5, 6, 7] []]
     (∀ r ∈ w, 1 ≤ r.data.outline.length) ∧ 1 ≤ maxCandidate w ∧ ¬2 ≤ maxCandidate w ∧ 2 ≤ w.length) := by
  decide

/-- A stroke record. -/
def struck (keys : Stroke) : StrokeRecord := ⟨keys, 0, .keyboard, false, false⟩

/-- The TE waiting, with the given windows, strokes and reports, over the given slots. -/
def waiting (d : Dict) (window : List Record) (strokes : List StrokeRecord) (reports : Nat) : State :=
  { State.reset with
    dict := d
    strokeQueue := strokes
    te := { Te.reset with state := .waiting, run := true, window := window }
    cp := { Cp.reset with reports := List.replicate reports (.settled .raw [1] [] false) } }

theorem order_base : ranksDiffer base ∧ consultedInRankOrder base [0] := by
  unfold ranksDiffer consultedInRankOrder
  decide

theorem none_reset : noneConsulted State.reset := by
  unfold noneConsulted
  decide

theorem may_take (d : Dict) (window : List Record) (strokes : List StrokeRecord) :
    strokeMayBeTaken (waiting d window strokes 47) ∧ ¬strokeMayBeTaken (waiting d window strokes 48) :=
  ⟨⟨rfl, rfl, rfl, by simp [waiting]⟩, fun h => absurd h.2.2.2 (by simp [waiting])⟩

theorem witness_StrokeIsTakenIntoResolution :
    (base.strokeQueue = [] ∧ ¬strokeMayBeTaken (waiting base.dict [] [struck 1] 48)) ∧
    (let s := waiting base.dict [plain [2] []] [struck 8388607, struck 1024] 47
     s.strokeQueue = struck 8388607 :: [struck 1024] ∧ strokeMayBeTaken s ∧
      (struck 8388607).keys.toNat ≠ 1024 ∧ ranksDiffer s ∧ consultedInRankOrder s [0] ∧ ([0] : List SlotNo) ≠ []) ∧
    (let s := waiting Dict.reset [] [struck 1] 0
     s.strokeQueue = struck 1 :: [] ∧ strokeMayBeTaken s ∧ noneConsulted s) :=
  ⟨⟨rfl, (may_take _ _ _).2⟩, ⟨rfl, (may_take _ _ _).1, by decide, order_base.1, order_base.2, by simp⟩,
    rfl, ⟨rfl, rfl, rfl, by decide⟩, none_reset⟩

theorem witness_DecisionFormsTheNewRecord :
    0 ≤ [plain [1] []].length ∧ 1 ≤ [plain [1] []].length ∧ isNumberStroke 517 = true ∧
      isNumberStroke 262148 = false := by
  decide

theorem not_undecided {pairs : List Pair}
    (h : ∀ p ∈ pairs, p.result ≠ .unissued ∧ ∀ tag, p.result ≠ .pending tag) : ¬undecided pairs := by
  rintro ⟨before, p, after, rfl, -, r | ⟨tag, r⟩⟩
  · exact (h p (by simp)).1 r
  · exact (h p (by simp)).2 tag r

/-- The TE in resolution of {#}, the result of the only pair pending on tag 0. -/
def deciding (replay : Option Replay) : Te :=
  { Te.reset with
    state := if replay.isSome then .rescanning else .resolving
    run := true
    window := [plain [1] [], plain [2] []]
    table := some (tableWith [.pending 0])
    replay := replay }

/-- The table of `asking` with both pairs missed. -/
def bothMissed : ProbeTable :=
  ⟨1, 1, [0], [0, 1, 2, 3], [⟨1, 0, [1, 1], .miss⟩, ⟨0, 0, [1], .miss⟩], true⟩

theorem bothMissed_decides : ¬undecided bothMissed.pairs := not_undecided (by simp [bothMissed])

theorem asked_decides (replay : Option Replay) :
    stopsConsulting (asking .miss replay) 0 0 0 (askedNoMore .miss replay .shut) ∧
      (askedNoMore .miss replay .shut).te.table = some bothMissed :=
  ⟨(stops_asking _ _).1, rfl⟩

/-- The TE with one pair to issue, in a slot that is no longer consulted. -/
def unconsulted (replay : Option Replay) : State :=
  (holding { job with access := .maintain }).withTe
    { deciding replay with table := some (tableWith [.miss, .unissued]) }

theorem miss_unconsulted (replay : Option Replay) :
    missIssued (unconsulted replay) (tableWith [.miss, .miss]) ∧
      ¬undecided (tableWith [.miss, .miss]).pairs :=
  ⟨⟨tableWith [.miss, .unissued], [⟨0, 0, [1], .miss⟩], ⟨0, 0, [1], .unissued⟩, [], 0, rfl, rfl, by simp, rfl,
    by show ∀ q ∈ ([] : List Probe), q.tag ≠ 0; simp, .inr rfl, rfl⟩,
    not_undecided (by simp [tableWith])⟩

theorem witness_ResolutionEndsAtItsDecision :
    (let w := { Walk.start job [1] true with phase := .absent }
     let s := probing .absent false (deciding none) none []
     probeHolds s 0 (walking .absent false) w ∧ walkResult w .miss ∧ s.te.replay = none ∧
      (resultIn s 0 .miss).te.table = some (tableWith [.miss]) ∧ ¬undecided (tableWith [.miss]).pairs) ∧
    (let w := { Walk.start job [1] true with phase := .found }
     let s := probing .found false (deciding none) none []
     probeHolds s 0 (walking .found false) w ∧ walkResult w (.hit 0 []) ∧
      (resultIn s 0 (.hit 0 [])).te.table = some (tableWith [.hit 0 []]) ∧
      ¬undecided (tableWith [.hit 0 []]).pairs) ∧
    ((unconsulted none).te.replay = none ∧ missIssued (unconsulted none) (tableWith [.miss, .miss]) ∧
      ¬undecided (tableWith [.miss, .miss]).pairs) ∧
    (asking .miss none).te.replay = none ∧
      stopsConsulting (asking .miss none) 0 0 0 (askedNoMore .miss none .shut) ∧
      (askedNoMore .miss none .shut).te.table = some bothMissed ∧ ¬undecided bothMissed.pairs := by
  refine ⟨⟨holds_probing _ _ _, .inl ⟨rfl, rfl⟩, rfl, rfl, not_undecided ?_⟩,
    ⟨holds_probing _ _ _, .inr ⟨rfl, rfl⟩, rfl, not_undecided ?_⟩, ⟨rfl, miss_unconsulted none⟩,
    rfl, (asked_decides none).1, (asked_decides none).2, bothMissed_decides⟩ <;> simp [tableWith]

/-- The TE stopped with a rescan pending. -/
def pendingRescan (d : Dict) (window : List Record) (reports : Nat) : State :=
  { waiting d window [] reports with te := { Te.reset with window := window, rescanPending := true } }

theorem witness_RescanReplaysTheWindow :
    ¬rescanMayBegin base ∧ ¬rescanMayBegin (pendingRescan base.dict [] 49) ∧
    rescanMayBegin (pendingRescan base.dict [] 48) ∧
    (let s := pendingRescan base.dict [plain [8388607, 2] []] 48
     rescanMayBegin s ∧ s.te.window ≠ [] ∧ strokesOf s.te.window = 8388607 :: [2] ∧ ranksDiffer s ∧
      consultedInRankOrder s [0]) ∧
    (let s := pendingRescan Dict.reset [plain [1] []] 0
     rescanMayBegin s ∧ s.te.window ≠ [] ∧ noneConsulted s) ∧
    (∀ replay : Replay,
      ((unconsulted (some replay)).te.replay = some replay ∧
        missIssued (unconsulted (some replay)) (tableWith [.miss, .miss]) ∧
        ¬undecided (tableWith [.miss, .miss]).pairs ∧ noneConsulted (unconsulted (some replay))) ∧
      (asking .miss (some replay)).te.replay = some replay ∧
        stopsConsulting (asking .miss (some replay)) 0 0 0 (askedNoMore .miss (some replay) .shut) ∧
        (askedNoMore .miss (some replay) .shut).te.table = some bothMissed ∧
        ¬undecided bothMissed.pairs ∧ noneConsulted (askedNoMore .miss (some replay) .shut)) ∧
    ∀ remaining : List Stroke, remaining = [] ∨ remaining = [2] →
      let w := { Walk.start job [1] true with phase := .absent }
      let s := probing .absent false (deciding (some ⟨remaining, []⟩)) none []
      let u := viewTested (probesWithdrawn (probeGone s 0 (walking .absent false))
        (tagsPending (tableWith [.miss]))) (tableWith [.miss])
      probeHolds s 0 (walking .absent false) w ∧ walkResult w .miss ∧
        s.te.replay = some ⟨remaining, []⟩ ∧
        (resultIn s 0 .miss).te.table = some (tableWith [.miss]) ∧
        ¬undecided (tableWith [.miss]).pairs ∧ ranksDiffer u ∧ consultedInRankOrder u [0] := by
  refine ⟨fun h => absurd h.2.1 (by decide), fun h => absurd h.2.2 (by decide), ⟨.inr rfl, rfl, by decide⟩,
    ⟨⟨.inr rfl, rfl, by decide⟩, by simp [pendingRescan], rfl, order_base.1, order_base.2⟩,
    ⟨⟨.inr rfl, rfl, by decide⟩, by simp [pendingRescan], none_reset⟩,
    fun replay => ⟨⟨rfl, (miss_unconsulted _).1, (miss_unconsulted (some replay)).2, ?_⟩, rfl,
      (asked_decides _).1, (asked_decides _).2, bothMissed_decides, ?_⟩, fun remaining _ => ?_⟩
  · show ∀ n, ((holding { job with access := .maintain }).slot n).access = .shut ∨
      ((holding { job with access := .maintain }).slot n).access = .maintain
    decide
  · show ∀ n, ((holding { job with access := .shut }).slot n).access = .shut ∨
      ((holding { job with access := .shut }).slot n).access = .maintain
    decide
  exact ⟨holds_probing _ _ _, .inl ⟨rfl, rfl⟩, rfl, rfl, not_undecided (by simp [tableWith]),
    order_base.1, order_base.2⟩

theorem witness_UndoTakesBackOneStroke :
    (let s := waiting base.dict [plain [1] [], plain [2] []] [struck 1024] 47
     s.strokeQueue = struck 1024 :: [] ∧ strokeMayBeTaken s ∧ (struck 1024).keys.toNat = 1024 ∧
      s.te.window = [plain [1] []] ++ [plain [2] []]) ∧
    (let s := waiting base.dict [] [struck 1024, struck 1] 47
     s.strokeQueue = struck 1024 :: [struck 1] ∧ strokeMayBeTaken s ∧ s.te.window = []) :=
  ⟨⟨rfl, (may_take _ _ _).1, by decide, rfl⟩, rfl, (may_take _ _ _).1, rfl⟩

theorem witness_WindowIsReadWithoutChange :
    let s := waiting base.dict [plain [1, 2, 3, 4, 5, 6, 7, 8] [0x41]] [] 0
    Ready s ∧ (17 : Byte) ≠ 0 ∧ 16 < (17 : Byte).toNat ∧
    ((16 : Byte).toNat ≤ 16 ∧ s.te.window.length < (16 : Byte).toNat) ∧
    (1 : Byte).toNat ≤ 16 ∧ s.te.window = [] ++ plain [1, 2, 3, 4, 5, 6, 7, 8] [0x41] :: [] ∧
      (1 : Byte).toNat = ([] : List Record).length + 1 ∧
      (plain [1, 2, 3, 4, 5, 6, 7, 8] [0x41]).displaced.records.length ≤ 7 := by
  refine ⟨⟨rfl, rfl, by decide, rfl⟩, ?_⟩
  decide

theorem witness_LiteralsTakeSpaceAndCase :
    (([0x31] : List Byte) ≠ [] ∧ (∀ b ∈ ([0x20, 0x7E] : List Byte), printable b ∧ ¬letter b)) ∧
    (∀ b ∈ ([0x31, 0x41, 0x7A] : List Byte), printable b) ∧
      ([0x31, 0x41, 0x7A] : List Byte) = [0x31] ++ 0x41 :: [0x7A] ∧ ¬letter 0x31 ∧ letter 0x41 := by
  unfold printable letter
  decide

theorem witness_LastCaseItemDecides :
    caseItem 0x01 .upper ∧ caseItem 0x02 .lower ∧ letter 0x7A ∧
      ([] : List Byte) = [] ∧ ([0x7A, 0x41] : List Byte) = 0x7A :: [0x41] := by
  unfold caseItem letter
  decide

theorem witness_BreaksBeginALineOrATurn :
    (∀ x ∈ ([0x01, 0x02] : List Byte), ∃ m, caseItem x m) ∧ qAndA[(0 : Fin 16)] = [] ∧
      qAndA[(1 : Fin 16)] ≠ [] := by
  refine ⟨?_, by decide, by decide⟩
  intro x h
  obtain rfl | rfl : x = 0x01 ∨ x = 0x02 := by simpa using h
  · exact ⟨.upper, .inl ⟨rfl, rfl⟩⟩
  · exact ⟨.lower, .inr ⟨rfl, rfl⟩⟩

theorem witness_StrokesAreRenderedInStenoOrder :
    (8388607 : Stroke).toNat ≠ 0 ∧ (8388607 : Stroke).toNat ≤ 8388607 ∧ (1 : Stroke).toNat ≠ 0 := by
  decide

theorem witness_WindowChangeSettlesAndReports :
    let w := [plain [1] [], plain [1, 2, 3, 4, 5, 6, 7, 8] [], plain [1, 2, 3, 4, 5, 6, 7, 8] []]
    w ≠ [] ∧ (∀ r ∈ w, 1 ≤ r.data.outline.length ∧ r.data.outline.length ≤ 8 ∧ r.data.text.length ≤ 200) ∧
      (strokesOf w).length ≤ 17 ∧ (immediateSettle w).1 = [plain [1] []] ∧
      (immediateSettle w).2 = w.drop 1 := by
  decide

theorem witness_TranslationIsSteeredByItsCommands :
    (Ready base ∧ base.te.state = .stopped) ∧
    (Ready (waiting base.dict [] [] 0) ∧ (waiting base.dict [] [] 0).te.state ≠ .stopped) ∧
    (let u (s : State) := s.withTe { s.te with run := true, state := .waiting }
     rescanMayBegin (u (pendingRescan base.dict [] 48)) ∧
     (¬rescanMayBegin (u (base.withTe { Te.reset with settleDue := true })) ∧
      (u (base.withTe { Te.reset with settleDue := true })).te.settleDue = true) ∧
     ¬rescanMayBegin (u base) ∧ (u base).te.settleDue = false) ∧
    (15 < (16 : Byte).toNat ∧ (15 : Byte).toNat = (15 : Fin 16).val) ∧
    (base.withTe { Te.reset with settleTimer := some 200 }).te.settleTimer.isSome = true ∧
      base.te.settleTimer = none := by
  refine ⟨⟨ready_base, rfl⟩, ⟨⟨rfl, rfl, by decide, rfl⟩, by decide⟩,
    ⟨⟨.inl rfl, rfl, by decide⟩, ⟨fun h => absurd h.2.1 (by decide), rfl⟩, fun h => absurd h.2.1 (by decide), rfl⟩,
    by decide, rfl, rfl⟩

/-- The TE waiting with settle-due set. -/
def settling (window : List Record) (reports : Nat) : State :=
  { waiting base.dict window [] reports with
    te := { Te.reset with state := .waiting, run := true, window := window, settleDue := true } }

theorem witness_SettleDueSettlesRecordByRecord :
    ¬(teIdle base ∧ base.te.settleDue = true ∧ ¬rescanMayBegin base) ∧
    (∀ window reports, teIdle (settling window reports) ∧ (settling window reports).te.settleDue = true ∧
      ¬rescanMayBegin (settling window reports)) ∧
    (settling [] 0).te.window = [] ∧
    (64 ≤ (settling [plain [1] []] 64).cp.reports.length ∧ (settling [plain [1] []] 64).te.window ≠ []) ∧
    (settling [plain [1] [], plain [2] []] 63).te.window = plain [1] [] :: [plain [2] []] ∧
      (settling [plain [1] [], plain [2] []] 63).cp.reports.length < 64 := by
  refine ⟨fun h => absurd h.2.1 (by decide), fun w n => ⟨.inl rfl, rfl, fun h => ?_⟩, rfl,
    ⟨by decide, by decide⟩, rfl, by decide⟩
  have := h.2.1
  exact absurd this (by show ¬false = true; decide)

theorem witness_RunTestFindsAContiguousRun :
    ([2] : List Stroke) ≠ [] ∧
    strokesOf [plain [1, 2] [], plain [3] []] = strokesOf [plain [1] []] ++ 2 :: [3] := by
  decide

theorem witness_UpdatesTurnTheOldTextIntoTheNew :
    (there ++ [0x41] = [there].flatten ++ [0x41] ∧ ([] : List Byte) = ([] : List (List Byte)).flatten ++ []) ∧
    ∀ left : List Byte, ([0x41, 0x42] : List Byte) ≠ [[0x41, 0x43]].flatten ++ left := by
  refine ⟨by decide, fun left => ?_⟩
  simp

/-! ### Witnesses: chapters 8 and 9 -/

theorem witness_ChannelIsSetOpenedClosedAndRead :
    Ready base ∧ 3 < (4 : Byte).toNat ∧ 2 < (3 : Byte).toNat ∧ (3 : Byte).toNat = (3 : ChanNo).val ∧
      [(0, ChanMode.live), (1, .framed), (2, .final)].lookup (2 : Byte).toNat = some .final ∧
      [(0, FlowSetting.none), (1, .xonxoff), (2, .line)].lookup (0 : Byte).toNat = some .none :=
  ⟨ready_base, by decide⟩

/-- The part with channel 3 as given. -/
def feeding (c : Channel) : State := base.withChan 3 c

theorem witness_TransmitterSendsTheHeadByte :
    (∀ state, state = ChanState.sending ∨ state = .lapsed →
      let c := { fc0 with state := state, fifo := [charByte 0x41] }
      c = (feeding c).chan 3 ∧ c.fifo = charByte 0x41 :: [] ∧ (c.state = .sending ∨ c.state = .lapsed) ∧
        c.stopped = false ∧ c.wire = none ∧ c.keep = none) ∧
    (fc0 = (feeding fc0).chan 3 ∧ fc0.fifo = []) ∧
    ({ fc0 with keep := some 5 } : Channel) = (feeding { fc0 with keep := some 5 }).chan 3 ∧
      ({ fc0 with keep := some 5 } : Channel).keep.isSome = true :=
  ⟨fun _ h => ⟨rfl, rfl, h, rfl, rfl, rfl⟩, ⟨rfl, rfl⟩, rfl, rfl⟩

theorem witness_EquipmentStopsReleasesAndLapsesAChannel :
    (Channel.reset true = (feeding (Channel.reset true)).chan 3 ∧ (Channel.reset true).state = .down ∧
      ((0x11 : Byte) ++ 1#1).getLsbD 0 = true) ∧
    (fc0 = (feeding fc0).chan 3 ∧ fc0.state ≠ .down ∧ opened fc0 ∧ revises fc0 ∧ fc0.breakSeen = false ∧
      fc0.state ≠ .held ∧ fc0.settings.flow ≠ .xonxoff ∧ (0x13 : Byte) ≠ 0x12) ∧
    (let c := { fc1 with settings := ⟨.final, .xonxoff, 1, 0, 1, 0⟩, stall := some 1, breakSeen := true }
     c = (feeding c).chan 3 ∧ c.state ≠ .down ∧ ¬revises c ∧ c.settings.flow = .xonxoff ∧
      (0x10 : Byte) ≠ 0x12 ∧ (0x10 : Byte) ≠ 0x11 ∧ (0x10 : Byte) ≠ 0x13 ∧ c.breakSeen = true ∧
      c.state = .held ∧ c.stall.isSome = true) ∧
    ({ fc0 with state := .lapsed } : Channel) = (feeding { fc0 with state := .lapsed }).chan 3 ∧
      ({ fc0 with state := .lapsed } : Channel).state ≠ .down ∧
      ({ fc0 with state := .lapsed } : Channel).breakSeen = false := by
  unfold opened revises
  refine ⟨⟨rfl, rfl, by decide⟩, ⟨rfl, by decide⟩, ⟨rfl, by decide⟩, rfl, by decide⟩

/-- A channel with `level` control bytes in its FIFO and six characters of open text displayed. -/
def filled (mode : ChanMode) (level : Nat) : Channel :=
  { fc0 with
    settings := { fc0.settings with mode := mode }
    fifo := List.replicate level (controlByte 0x0A)
    shown := if mode = .final then 0 else 6 }

theorem level_filled (mode : ChanMode) (level : Nat) : (filled mode level).fifo.length = level :=
  List.length_replicate

/-- The update of 8.13: five characters kept, "apist" after them. -/
def therapistUpdate : Update := ⟨[], 5, [0x61, 0x70, 0x69, 0x73, 0x74]⟩

theorem witness_UpdateIsTakenWholeOrTheChannelLapses :
    (¬opened (Channel.reset false) ∧ ¬opened { fc0 with state := .lapsed }) ∧
    (∀ level, opened (filled .live level) ∧ revises (filled .live level) ∧
      min ((chunksOff therapistUpdate.chunks (filled .live level)).shown - therapistUpdate.kept)
        (chunksOff therapistUpdate.chunks (filled .live level)).trimmable = 0 ∧
      (eraseOf .live 1).length + therapistUpdate.fresh.length = 6) ∧
    (6 ≤ 1024 - (filled .live 1018).fifo.length + 0 ∧ 1024 - (filled .live 1019).fifo.length + 0 < 6) ∧
    (∀ level, opened (filled .final level) ∧ (filled .final level).settings.mode = .final) ∧
      3 ≤ 1024 - (filled .final 1021).fifo.length ∧ 1024 - (filled .final 1022).fifo.length < 3 := by
  simp only [level_filled]
  refine ⟨?_, fun level => ⟨.inl rfl, .inl rfl, rfl, rfl⟩, by decide, fun level => ⟨.inl rfl, rfl⟩, by decide⟩
  unfold opened
  decide

theorem witness_CorrectionShowsTheNewText :
    let c := { fc1 with state := .sending, stopped := false, fifo := there.drop 2 |>.map charByte, trimmable := 4 }
    let shows : List Byte := [0x41, 0x20, 0x74]
    c.settings.mode = .live ∧ opened c ∧ (∀ b ∈ therapistUpdate.fresh, b ≠ 0x08) ∧
    (screen shows c.fifo = [0x41] ++ therapistUpdate.chunks.flatten ++ there ∧
      c.shown = therapistUpdate.chunks.flatten.length + there.length) ∧
    c.trimmable ≤ c.shown ∧ c.trimmable ≤ c.fifo.length ∧ therapistUpdate.kept ≤ there.length ∧
    (∀ x ∈ c.fifo.drop (c.fifo.length - c.trimmable), x.char = true ∧ x.byte ≠ 0x08) ∧
    (c.applyUpdate therapistUpdate).state ≠ .lapsed := by
  unfold opened
  decide

/-- The upkeep engine with a command in execution, its claim waiting behind a probe. -/
def queued (op : UpkeepOp) : State :=
  { base with
    mp := { Mp.reset with
      probes := [seeking]
      gates := Mp.reset.gates.set 0 ⟨some (.probe 0), [.upkeep]⟩
      upkeep := some op }
    cp := busyCp }

/-- R26, R61, R66, R68: a FORMAT waits behind a TAKEN probe, a RESTART abandons it and a SET_WINDOW lays the
slot out anew: the probe's next access is granted in the window it was taken with. -/
theorem test_restart_walkGoesOn :
    let s := (queued (.format 0 0)).withSlot 0 { job with state := .formatting, access := .shut }
    let t := after (.setWindow 0 0x100000 0x100000) (after .restart s)
    let u := after (.arbiterGrant 0) t
    (t.slot 0).base = 0x100000 ∧ u.mp.lookupRun = 1 ∧
      u.mp.probes.map (fun p => (p.withdrawn, p.walk.map (·.base), p.walk.map (·.size))) =
        [(true, some 0, some 65536)] := by
  decide

theorem witness_RestartIsTakenAtOnce :
    (base.cp.restarts = 0 ∧ base.mp.upkeep = none) ∧
    (let s := (queued (.format 0 0)).withSlot 0 { job with state := .formatting }
     s.cp.restarts = 0 ∧ s.mp.upkeep = some (.format 0 0) ∧ gateServed s 0 ∧
      (s.gate 0).holder ≠ some .upkeep) ∧
    (let s := working (.format 0 7)
     s.cp.restarts = 0 ∧ s.mp.upkeep = some (.format 0 7) ∧ gateServed s 0 ∧ .upkeep ∉ (s.gate 0).waiting) ∧
    (let s := queued (.entry fetching)
     s.cp.restarts = 0 ∧ s.mp.upkeep = some (.entry fetching) ∧ (∀ n k, UpkeepOp.entry fetching ≠ .format n k) ∧
      gateServed s 0 ∧ (s.gate 0).holder ≠ some .upkeep) ∧
    (let s := { working (.entry fetching) with cp := busyCp }
     s.cp.restarts = 0 ∧ s.mp.upkeep = some (.entry fetching) ∧ (s.gate 0).holder = some .upkeep ∧
      s.cp.executing.isSome = true) ∧
    (let s (n : Nat) := { base with cp := { Cp.reset with restarts := n } }
     let t (n : Nat) := { base with cp := { busyCp with restarts := n } }
     (1 ≤ (s 1).cp.restarts ∧ (s 7).cp.restarts < 8 ∧ ∀ n, (s n).cp.executing = none) ∧
     (1 ≤ (t 1).cp.restarts ∧ (t 7).cp.restarts < 8 ∧ ∀ n, (t n).cp.executing.isSome = true) ∧
     8 ≤ (s 8).cp.restarts) :=
  ⟨⟨rfl, rfl⟩, ⟨rfl, rfl, fun h => absurd h (by decide), by decide⟩,
    ⟨rfl, rfl, fun _ => rfl, List.not_mem_nil⟩,
    ⟨rfl, rfl, fun _ _ h => UpkeepOp.noConfusion h, fun h => absurd h (by decide), by decide⟩,
    ⟨rfl, rfl, rfl, rfl⟩, ⟨by decide, by decide, fun _ => rfl⟩, ⟨by decide, by decide, fun _ => rfl⟩, by decide⟩

theorem witness_RestartTakesEffectInEveryBlock :
    base.cp.restarts = 0 ∧ ({ base with cp := busyCp } : State).cp.executing.isSome = true ∧
    (let s := { feeding fc1 with
       cp := { Cp.reset with restarts := 8 }
       spi := .busy ⟨4, some .reportRead, [0], true⟩ }
     s.cp.restarts ≠ 0 ∧ s.cp.executing = none ∧ (s.chan 0).state = .down ∧ (s.chan 3).state ≠ .down ∧
      fixedDiscarded .reportRead s.spi = .busy ⟨4, some .reportRead, [0], false⟩) :=
  ⟨rfl, rfl, by decide, rfl, rfl, by decide, rfl⟩

theorem witness_NoticesAreReadAndCleared :
    Ready base ∧ (0x88 : Byte).getLsbD (7 : Fin 8).val = true ∧ (0x88 : Byte).getLsbD (3 : Fin 8).val = true ∧
    ({ base with cp := waitingCp (List.replicate 4 ⟨[0], false⟩) } : State).spi = .idle ∧
    4 ≤ ({ base with cp := waitingCp (List.replicate 4 ⟨[0], false⟩) } : State).cp.queue.length ∧
      ([0x01] : List Byte) ≠ [] ∧ ([0x01] : List Byte) ≠ [0x01, 0x2E] :=
  ⟨ready_base, by decide⟩

theorem witness_HardResetGivesEveryResetValue :
    base.spi = .idle ∧ (selecting (some .responseRead) [0] false).spi ≠ .idle ∧ (base.withSpi .ignored).spi ≠ .idle :=
  ⟨rfl, by decide, by decide⟩

/-! ### Witnesses: the invariants -/

/-- A state with work in every block: a stroke in resolution over " there", its two probes in slot 0, a
FETCH_ENTRY behind them, FC0 sending and FC1 held. -/
def orderly : State :=
  { base with
    sdram := store
    mp := { Mp.reset with
      lookupRun := 3
      probes := [⟨0, 0, [1, 1], false, some (Walk.start job [1, 1] true)⟩, ⟨1, 0, [1], false, none⟩]
      gates := #v[⟨some (.probe 0), [.probe 1, .upkeep]⟩, ⟨none, []⟩, ⟨none, []⟩, ⟨none, []⟩]
      upkeep := some (.entry fetching) }
    te := { Te.reset with
      state := .resolving
      run := true
      window := [plain [1] there]
      table := some ⟨1, 1, [0], [0, 1, 2, 3],
        [⟨1, 0, [1, 1], .pending 0⟩, ⟨0, 0, [1], .pending 1⟩], false⟩ }
    chans := #v[fc0, fc1, Channel.reset false, Channel.reset true]
    cp := { Cp.reset with executing := some 0x22, reports := [.settled .raw [1] [0x41] false] }
    spi := .busy ⟨0x14, some .reportRead, [9, 2, 5, 0, 1, 0, 0, 1, 1, 0x41], true⟩
    pending := [.probeEnd 0] }

theorem orderly_steps : ∃ t, step orderly = .next t := ⟨_, rfl⟩

/-- T- held and accepted, its release on the way, with a jammed -D in the stuck mask. -/
def midStroke : State :=
  { base with
    ksu := { inStroke .chord with
      accepted := dropKey (dropKey (BitVec.allOnes 23) 2) 21
      line := dropKey (BitVec.allOnes 23) 21
      debounce := (Vector.replicate 23 none).set 2 (some 10)
      hold := (Vector.replicate 23 none).set 2 (some 15)
      stuckMask := keyBit 21 }
    pending := [.debounceExpiry 2] }

theorem keys_midStroke : assemblyInOrder midStroke.ksu := by
  constructor <;> (try unfold someStrokeKeyDown) <;> (try unfold strokeKeyDown) <;> (try unfold isDown) <;> decide

theorem witness_StrokeAssemblyStaysInOrder :
    assemblyInOrder midStroke.ksu ∧ ∃ t, step midStroke = .next t := ⟨keys_midStroke, _, rfl⟩

theorem witness_StoreStaysInOrder : storeInOrder orderly ∧ ∃ t, step orderly = .next t :=
  ⟨⟨by decide, by decide, by decide⟩, orderly_steps⟩

theorem queues_orderly : queuesInBounds orderly := by
  constructor <;> first | decide | skip
  intro t h _
  obtain rfl := Spi.busy.inj h
  exact .inr ⟨rfl, by decide⟩

theorem witness_QueuesStayInBounds : queuesInBounds orderly ∧ ∃ t, step orderly = .next t :=
  ⟨queues_orderly, orderly_steps⟩

theorem gates_orderly : gatesInOrder orderly where
  tags := by decide
  served := by unfold gateServed; decide
  once := by decide
  taken := by decide
  waiting := by decide
  upkeep := by
    have h : ∀ n, (∃ op, orderly.mp.upkeep = some op ∧ op.slot = n) ↔ n = 0 := fun n =>
      ⟨fun ⟨_, h, e⟩ => by rw [← e, ← Option.some.inj h]; rfl, fun e => ⟨_, rfl, e.symm⟩⟩
    simp only [h]
    decide
  notBoth := by decide

theorem witness_GatesStayTrueToTheirClaims :
    queuesInBounds orderly ∧ gatesInOrder orderly ∧ ∃ t, step orderly = .next t :=
  ⟨queues_orderly, gates_orderly, orderly_steps⟩

/-- A walk of the job slot begins inside its window, at the directory cell of its bucket. -/
theorem inside_start (outline : List Stroke) (wantText : Bool) :
    walkInside orderly (Walk.start job outline wantText) := by
  refine ⟨by show 0 + 65536 ≤ 8 * 2 ^ 20; decide, fun c h => ?_⟩
  have hb : bucketOf 1024 outline < 1024 := Nat.mod_lt _ (by decide)
  have : directoryCell (bucketOf 1024 outline) = c := Option.some.inj h
  show c < 65536 / 32
  simp only [directoryCell] at this
  omega

theorem slots_orderly : slotsInOrder orderly where
  memory := by decide
  shut := by decide
  vacant := by decide
  window := by
    intro n h
    obtain rfl : n = 0 := by
      revert n
      decide
    exact ⟨⟨16, by decide, by decide, rfl⟩, ⟨0, rfl⟩, by decide⟩
  apart := by
    have h : ∀ n, n ≠ 0 → (orderly.slot n).size = 0 := by decide
    rintro a b hab ⟨x, h1, h2, h3, h4⟩
    by_cases ha : a = 0
    · rw [h b (fun hb => hab (ha.trans hb.symm))] at h4
      omega
    · rw [h a ha] at h2
      omega
  buckets := by
    intro n h
    obtain rfl : n = 0 := by
      revert n
      decide
    exact ⟨⟨10, by decide, by decide, rfl⟩, by decide⟩
  ranks := by unfold ranksDiffer; decide
  formatting := fun n k h => absurd h (by simp [orderly])
  releasing := fun n h => absurd h (by simp [orderly])
  waiting := by
    intro p h hw
    simp only [orderly, List.mem_cons, List.not_mem_nil, or_false] at h
    obtain rfl | rfl := h
    · exact absurd hw (by simp)
    · exact .inr rfl
  walking := by
    intro p h w hw
    simp only [orderly, List.mem_cons, List.not_mem_nil, or_false] at h
    obtain rfl | rfl := h
    · obtain rfl := Option.some.inj hw
      exact ⟨by decide, inside_start [1, 1] true⟩
    · exact absurd hw (by simp)
  operating := by
    intro e h
    obtain rfl : fetching = e := by simpa [orderly] using h
    exact ⟨rfl, rfl, rfl, inside_start [18500] true, fun n h => absurd h List.not_mem_nil⟩

theorem witness_SlotsStayLegalAndApart :
    queuesInBounds orderly ∧ gatesInOrder orderly ∧ slotsInOrder orderly ∧ ∃ t, step orderly = .next t :=
  ⟨queues_orderly, gates_orderly, slots_orderly, orderly_steps⟩

theorem window_orderly : windowInOrder orderly where
  chain := ⟨rfl, ⟨by decide, by decide, by decide⟩, rfl, trivial⟩
  strokes := by decide
  text := by decide
  reports := by decide
  reserved := fun _ => by decide
  table := ⟨fun _ => rfl, fun _ => .inl rfl⟩
  replay := by decide
  pairs := by
    intro t w ht hw
    obtain rfl := Option.some.inj ht
    subst hw
    decide
  replayed := fun t r _ h => absurd h (by simp [orderly, Te.reset])

theorem witness_WindowStaysInOneChain : windowInOrder orderly ∧ ∃ t, step orderly = .next t :=
  ⟨window_orderly, orderly_steps⟩

theorem witness_ChannelsKeepCountOfTheOpenText :
    windowInOrder orderly ∧ (∀ n, channelInOrder (openTextOf orderly.te.window) (orderly.chan n)) ∧
      ∃ t, step orderly = .next t := by
  refine ⟨window_orderly, fun n => ?_, orderly_steps⟩
  constructor <;> (try unfold opened) <;> (try unfold revises) <;> revert n <;> decide

theorem witness_ResetMeetsEveryInvariant : Memory.wf orderly.sdram = true ∧ Memory.wf [] = true := by decide

end Sys2Proof.Tests
end

section
/-!
SUPPORT. Key sets and key timers: what membership of a key says after each operation, and the keys that
are down and still down in the words of the statements.
-/

namespace Sys2Proof.Machine

open Sys2Proof Sys2Proof.Rules

/-! ### Key sets -/

@[simp] theorem hasKey_zero (k : Key) : hasKey 0#23 k = false := by simp [hasKey]

@[simp] theorem hasKey_and (a b : KeySet) (k : Key) :
    hasKey (a &&& b) k = (hasKey a k && hasKey b k) := by simp [hasKey]

@[simp] theorem hasKey_or (a b : KeySet) (k : Key) :
    hasKey (a ||| b) k = (hasKey a k || hasKey b k) := by simp [hasKey]

@[simp] theorem hasKey_xor (a b : KeySet) (k : Key) :
    hasKey (a ^^^ b) k = (hasKey a k ^^ hasKey b k) := by simp [hasKey]

@[simp] theorem hasKey_not (a : KeySet) (k : Key) : hasKey (~~~a) k = !hasKey a k := by
  simp [hasKey, k.isLt]

theorem hasKey_allOnes (k : Key) : hasKey (BitVec.allOnes 23) k = true := by
  rw [hasKey, BitVec.getLsbD_allOnes, decide_eq_true k.isLt]

@[simp] theorem hasKey_keyBit (k j : Key) : hasKey (keyBit k) j = decide (j = k) := by
  simp [hasKey, keyBit, Fin.ext_iff, eq_comm]

@[simp] theorem hasKey_addKey (a : KeySet) (k j : Key) :
    hasKey (addKey a k) j = (hasKey a j || decide (j = k)) := by simp [addKey]

@[simp] theorem hasKey_dropKey (a : KeySet) (k j : Key) :
    hasKey (dropKey a k) j = (hasKey a j && !decide (j = k)) := by simp [dropKey]

theorem hasKey_putKey (a : KeySet) (k j : Key) (b : Bool) :
    hasKey (putKey a k b) j = if j = k then b else hasKey a j := by
  unfold putKey
  cases b <;> by_cases h : j = k <;> simp [h]

/-- A set is known by its keys. -/
theorem keySet_ext {a b : KeySet} (h : ∀ k, hasKey a k = hasKey b k) : a = b :=
  BitVec.eq_of_getLsbD_eq fun i hi => h ⟨i, hi⟩

theorem keySet_eq_zero_iff (a : KeySet) : a = 0#23 ↔ ∀ k, hasKey a k = false :=
  ⟨fun h k => by simp [h], fun h => keySet_ext fun k => by simp [h k]⟩

/-- Taking out a key that is not in the set changes nothing. -/
theorem dropKey_eq_self {a : KeySet} {k : Key} (h : hasKey a k = false) : dropKey a k = a :=
  keySet_ext fun j => by by_cases hj : j = k <;> simp [hj, h]

theorem mem_allKeys (k : Key) : k ∈ allKeys := by revert k; decide

theorem nodup_allKeys : allKeys.Nodup := by decide

/-! ### Key timers -/

/-- A timer reads as it was set, and every other one as before. -/
theorem getElem_setTimer (t : Vector (Option Nat) 23) (k j : Key) (v : Option Nat) :
    (setTimer t k v)[j] = if j = k then v else t[j] := by
  by_cases h : j = k
  · simp [setTimer, h]
  · have : k.val ≠ j.val := fun e => h (Fin.ext e.symm)
    simp [setTimer, h, this]

/-! ### The keys that are down -/

@[simp] theorem hasKey_down (u : Ksu) (k : Key) : hasKey u.down k = true ↔ isDown u k := by
  simp [Ksu.down, isDown]

@[simp] theorem hasKey_down_eq_false (u : Ksu) (k : Key) : hasKey u.down k = false ↔ ¬isDown u k := by
  rw [← hasKey_down, Bool.not_eq_true]

theorem hasKey_stillDown (u : Ksu) (k : Key) : hasKey u.stillDown k = true ↔ strokeKeyDown u k := by
  simp [Ksu.stillDown, strokeKeyDown, and_assoc]

theorem hasKey_downUnmasked (u : Ksu) (k : Key) :
    hasKey u.downUnmasked k = true ↔
      isDown u k ∧ hasKey u.hostMask k = false ∧ hasKey u.stuckMask k = false := by
  simp [Ksu.downUnmasked, and_assoc]

/-- The stroke goes on exactly while some stroke key is still down (R7). -/
theorem stillDown_eq_zero_iff (u : Ksu) : u.stillDown = 0#23 ↔ ¬someStrokeKeyDown u := by
  simp only [keySet_eq_zero_iff, someStrokeKeyDown, ← hasKey_stillDown, not_exists,
    Bool.not_eq_true]

end Sys2Proof.Machine
end

section
/-!
SUPPORT. Stroke assembly: what closing and releasing do, in the words of the statements; how each
operation on keys commutes with the command in execution; and what ends a command.
-/

namespace Sys2Proof.Machine

open Sys2Proof Sys2Proof.Rules

/-! ### The end of a command -/

theorem hostCommand_of_ready {s : State} (h : Ready s) (c : Command) (f : State → State) :
    hostCommand c f s = f (s.beginExecution c.code) := by
  obtain ⟨hcommand, hrestart, hroom, hframe⟩ := h
  simp [hostCommand, State.canBegin, hcommand, hrestart, hroom, hframe]

/-- A command that began with none in execution and no restart in progress ends with its response. -/
theorem respond_beginExecution {s : State} (hcommand : s.cp.executing = none)
    (hrestart : s.cp.restarts = 0) (c : Byte) (st : Status) (d : List Byte) :
    (s.beginExecution c).respond st d = answered s st c d := by
  simp [State.respond, State.beginExecution, answered, State.withCp, hrestart, ← hcommand]

/-- A command row, where the Command Port is ready, whose command leads to `t` and then answers. -/
theorem hostCommand_answers {s : State} (h : Ready s) (c : Command) (cmd : State → State) (t : State)
    (st : Status) (d : List Byte) (hcommand : t.cp.executing = s.cp.executing)
    (hrestart : t.cp.restarts = s.cp.restarts)
    (hcmd : cmd (s.beginExecution c.code) = (t.beginExecution c.code).respond st d) :
    hostCommand c cmd s = answered t st c.code d := by
  rw [hostCommand_of_ready h, hcmd, respond_beginExecution (hcommand.trans h.noCommand)
    (hrestart.trans h.noRestart)]

/-! ### Closing a stroke (R9, R16) -/

theorem closeStroke_eq_closed {s : State} {c r : BitVec 32} (hc : s.ksu.chordStart = some c)
    (hr : s.ksu.firstRelease = some r) (split : Bool) :
    s.closeStroke split = closed s c r split s.ksu.cutFlag := by
  simp only [State.closeStroke, closed, Ksu.duration, Ksu.strokeRecord, hc, hr, Option.getD_some]
  rfl

/-- A stroke shorter than the ghost minimum is discarded and counted. -/
theorem closeStroke_of_ghost {s : State} (h : s.ksu.duration.toNat < s.ksu.ghostMin) (split : Bool) :
    s.closeStroke split =
      s.withKsu { s.ksu.toIdle with ghostCount := satInc s.ksu.ghostCount } := if_pos h

/-- Any other stroke is offered to the stroke queue: it is placed there where there is room. -/
theorem closeStroke_of_room {s : State} (h : ¬s.ksu.duration.toNat < s.ksu.ghostMin)
    (hroom : s.strokeQueue.length < Config.strokeQueuePlaces) (split : Bool) :
    s.closeStroke split = (s.withKsu s.ksu.toIdle).withStrokeQueue
      (s.strokeQueue ++ [s.ksu.strokeRecord split]) := (if_neg h).trans (if_pos hroom)

/-- In a full queue it is lost and counted. -/
theorem closeStroke_of_full {s : State} (h : ¬s.ksu.duration.toNat < s.ksu.ghostMin)
    (hfull : ¬s.strokeQueue.length < Config.strokeQueuePlaces) (split : Bool) :
    s.closeStroke split = (s.withKsu { s.ksu.toIdle with
      lostCount := satInc s.ksu.lostCount }).setNotices strokeLost := (if_neg h).trans (if_neg hfull)

/-- A stroke that closes leaves stroke assembly idle, and of the rest of the KSU only a count changed. -/
theorem closeStroke_ksu (s : State) (split : Bool) :
    ∃ g l, (s.closeStroke split).ksu = { s.ksu.toIdle with ghostCount := g, lostCount := l } := by
  by_cases h : s.ksu.duration.toNat < s.ksu.ghostMin
  · exact ⟨_, _, congrArg State.ksu (closeStroke_of_ghost h split)⟩
  by_cases hroom : s.strokeQueue.length < Config.strokeQueuePlaces
  · exact ⟨_, _, congrArg State.ksu (closeStroke_of_room h hroom split)⟩
  · exact ⟨_, _, congrArg State.ksu (closeStroke_of_full h hroom split)⟩

/-- What a change of the state that stroke assembly does not look at has to do with a closing: nothing,
where it commutes with each of the three ways to close. -/
theorem closeStroke_comm (f : State → State) (s : State) (split : Bool)
    (hduration : (f s).ksu.duration = s.ksu.duration) (hghost : (f s).ksu.ghostMin = s.ksu.ghostMin)
    (hqueue : (f s).strokeQueue = s.strokeQueue)
    (hcounted : (f s).withKsu { (f s).ksu.toIdle with ghostCount := satInc (f s).ksu.ghostCount } =
      f (s.withKsu { s.ksu.toIdle with ghostCount := satInc s.ksu.ghostCount }))
    (hplaced : ((f s).withKsu (f s).ksu.toIdle).withStrokeQueue
        (s.strokeQueue ++ [(f s).ksu.strokeRecord split]) =
      f ((s.withKsu s.ksu.toIdle).withStrokeQueue (s.strokeQueue ++ [s.ksu.strokeRecord split])))
    (hlost : ((f s).withKsu { (f s).ksu.toIdle with
        lostCount := satInc (f s).ksu.lostCount }).setNotices strokeLost =
      f ((s.withKsu { s.ksu.toIdle with
        lostCount := satInc s.ksu.lostCount }).setNotices strokeLost)) :
    (f s).closeStroke split = f (s.closeStroke split) := by
  by_cases h : s.ksu.duration.toNat < s.ksu.ghostMin
  · rw [closeStroke_of_ghost h, closeStroke_of_ghost (by rwa [hduration, hghost]), hcounted]
  have h' : ¬(f s).ksu.duration.toNat < (f s).ksu.ghostMin := by rwa [hduration, hghost]
  by_cases hroom : s.strokeQueue.length < Config.strokeQueuePlaces
  · rw [closeStroke_of_room h hroom, closeStroke_of_room h' (by rwa [hqueue]), hqueue, hplaced]
  · rw [closeStroke_of_full h hroom, closeStroke_of_full h' (by rwa [hqueue]), hlost]

theorem closeStroke_beginExecution (s : State) (split : Bool) (c : Byte) :
    (s.beginExecution c).closeStroke split = (s.closeStroke split).beginExecution c :=
  closeStroke_comm (·.beginExecution c) s split rfl rfl rfl rfl rfl rfl

/-- `s` with other hold timers, another carried set and another stuck mask. -/
def State.withHolds (s : State) (carried stuck : KeySet) (hold : Vector (Option Nat) 23) : State :=
  s.withKsu { s.ksu with carried := carried, stuckMask := stuck, hold := hold }

theorem closeStroke_withHolds (s : State) (split : Bool) (c m : KeySet)
    (h : Vector (Option Nat) 23) :
    (s.withHolds c m h).closeStroke split = (s.closeStroke split).withHolds c m h :=
  closeStroke_comm (·.withHolds c m h) s split rfl rfl rfl rfl rfl rfl

/-! ### Releasing stroke keys (R7) -/

/-- `s` with the first-release time that a release in its present state gives (R7). -/
def State.timed (s : State) : State := s.withKsu { s.ksu with firstRelease := s.ksu.releaseTime }

/-- `s` with its stroke going on in RELEASE (R7). -/
def State.toRelease (s : State) : State :=
  s.withKsu { s.ksu with assembly := .release, firstRelease := s.ksu.releaseTime }

/-- Stroke keys that no longer count as down are released for stroke assembly at one time (R7). -/
def State.releaseStroke (s : State) : State := s.timed.afterRelease

/-- A release of `k` for stroke assembly, by its case (R7). -/
theorem releaseKey_eq (s : State) (k : Key) :
    s.releaseKey k =
      if hasKey s.ksu.carried k then
        s.withKsu { s.ksu with
          carried := dropKey s.ksu.carried k, hold := setTimer s.ksu.hold k none }
      else if hasKey s.ksu.strokeSet k then (s.stopHold k).releaseStroke
      else s := rfl

/-- With a stroke key still down the stroke goes on in RELEASE. -/
theorem releaseStroke_of_down {s : State} (h : someStrokeKeyDown s.ksu) :
    s.releaseStroke = s.toRelease :=
  if_neg (c := s.ksu.stillDown = 0#23) (by rwa [stillDown_eq_zero_iff, not_not])

/-- With no stroke key still down the stroke closes. -/
theorem releaseStroke_of_up {s : State} (h : ¬someStrokeKeyDown s.ksu) :
    s.releaseStroke = s.timed.closeStroke false :=
  if_pos (c := s.ksu.stillDown = 0#23) ((stillDown_eq_zero_iff _).mpr h)

/-- The KSU after a release of stroke keys: in RELEASE, or idle with a count changed. -/
theorem releaseStroke_ksu (s : State) :
    (someStrokeKeyDown s.ksu ∧ s.releaseStroke.ksu = s.toRelease.ksu) ∨
    (¬someStrokeKeyDown s.ksu ∧ ∃ g l, s.releaseStroke.ksu =
      { s.ksu.toIdle with ghostCount := g, lostCount := l }) := by
  by_cases h : someStrokeKeyDown s.ksu
  · exact .inl ⟨h, congrArg State.ksu (releaseStroke_of_down h)⟩
  · obtain ⟨g, l, hksu⟩ := closeStroke_ksu s.timed false
    exact .inr ⟨h, g, l, by rw [releaseStroke_of_up h, hksu]; rfl⟩

/-- `s` with the mark that a stuck key is being cut out of the stroke set or clear (R12). -/
def State.withCut (s : State) (cut : Bool) : State := s.withKsu { s.ksu with cutFlag := cut }

theorem State.withCut_self {s : State} {cut : Bool} (h : s.ksu.cutFlag = cut) : s.withCut cut = s := by
  subst h; rfl

theorem closed_withCut (s : State) (c r : BitVec 32) (split stuckCut cut : Bool) :
    closed (s.withCut cut) c r split stuckCut = closed s c r split stuckCut := rfl

theorem closed_withCut_false (s : State) (c r : BitVec 32) (split stuckCut : Bool) :
    (closed s c r split stuckCut).withCut false = closed s c r split stuckCut := by
  refine State.withCut_self ?_
  simp only [closed, offered]
  split
  · rfl
  · split <;> rfl

/-- A release of stroke keys in the words of the statements; `cut` is set while a stuck key is cut out
of the stroke, and at no other time (R7, R9, R12). -/
theorem releaseStroke_keyUp {s : State} {c : BitVec 32} (cut : Bool) (h : assembling s.ksu c) :
    strokeKeyUp s c cut ((s.withCut cut).releaseStroke.withCut false) := by
  obtain ⟨hstart, hcut, hstate⟩ := h
  have htime : ∃ r, s.ksu.releaseTime = some r ∧ ∀ t : State,
      (someStrokeKeyDown s.ksu →
          t = s.withKsu { s.ksu with assembly := .release, firstRelease := some r }) →
      (¬someStrokeKeyDown s.ksu →
          t = closed (s.withKsu { s.ksu with firstRelease := some r }) c r false cut) →
      strokeKeyUp s c cut t := by
    rcases hstate with ⟨hchord, -⟩ | ⟨hrelease, hfirst⟩
    · exact ⟨s.ksu.clock, by simp [Ksu.releaseTime, hchord],
        fun t hd hu => by simpa only [strokeKeyUp, hchord] using ⟨hd, hu⟩⟩
    · obtain ⟨r, hr⟩ := Option.isSome_iff_exists.mp hfirst
      exact ⟨r, by simp [Ksu.releaseTime, hrelease, hr],
        fun t hd hu => by simpa only [strokeKeyUp, hrelease, hr, Option.getD_some] using ⟨hd, hu⟩⟩
  obtain ⟨r, hr, hkeyUp⟩ := htime
  refine hkeyUp _ (fun hdown => ?_) (fun hup => ?_)
  · rw [releaseStroke_of_down (s := s.withCut cut) hdown, ← hr]
    exact State.withCut_self (s := s.toRelease) hcut
  · rw [releaseStroke_of_up (s := s.withCut cut) hup,
      closeStroke_eq_closed (s := (s.withCut cut).timed) hstart hr, closed_withCut_false, ← hr]
    exact closed_withCut s.timed c r false cut cut

theorem releaseStroke_cutFlag {s : State} (h : s.ksu.cutFlag = false) :
    s.releaseStroke.ksu.cutFlag = false := by
  rcases releaseStroke_ksu s with ⟨-, hksu⟩ | ⟨-, g, l, hksu⟩
  · rw [hksu]; exact h
  · rw [hksu]; rfl

/-- Where no stuck key is being cut, a release of stroke keys is as the statements say. -/
theorem releaseStroke_keyUp_uncut {s : State} {c : BitVec 32} (h : assembling s.ksu c) :
    strokeKeyUp s c false s.releaseStroke := by
  have hkeyUp := releaseStroke_keyUp false h
  obtain ⟨-, hcut, -⟩ := h
  rwa [State.withCut_self hcut, State.withCut_self (releaseStroke_cutFlag hcut)] at hkeyUp

theorem releaseStroke_beginExecution (s : State) (c : Byte) :
    (s.beginExecution c).releaseStroke = s.releaseStroke.beginExecution c := by
  by_cases h : someStrokeKeyDown s.ksu
  · rw [releaseStroke_of_down h, releaseStroke_of_down (s := s.beginExecution c) h]; rfl
  · rw [releaseStroke_of_up h, releaseStroke_of_up (s := s.beginExecution c) h,
      ← closeStroke_beginExecution]; rfl

/-- The carried set, the stuck mask and the hold timers have a part in a release only through the
stroke keys that are still down. -/
theorem releaseStroke_withHolds (s : State) (c m : KeySet) (h : Vector (Option Nat) 23)
    (hdown : ∀ k, strokeKeyDown (s.withHolds c m h).ksu k ↔ strokeKeyDown s.ksu k) :
    (s.withHolds c m h).releaseStroke = s.releaseStroke.withHolds c m h := by
  have hsome : someStrokeKeyDown (s.withHolds c m h).ksu ↔ someStrokeKeyDown s.ksu :=
    exists_congr hdown
  by_cases hs : someStrokeKeyDown s.ksu
  · rw [releaseStroke_of_down hs, releaseStroke_of_down (hsome.mpr hs)]; rfl
  · rw [releaseStroke_of_up hs, releaseStroke_of_up (mt hsome.mp hs), ← closeStroke_withHolds]; rfl

/-- Stroke keys released again at the same time leave the stroke in progress as it is. -/
theorem releaseStroke_again (s : State) (h : s.releaseStroke.ksu.strokeSet ≠ 0#23) :
    s.releaseStroke.releaseStroke = s.releaseStroke := by
  by_cases hs : someStrokeKeyDown s.ksu
  · rw [releaseStroke_of_down hs, releaseStroke_of_down (s := s.toRelease) hs]
    rfl
  · rcases releaseStroke_ksu s with ⟨hdown, -⟩ | ⟨-, g, l, hksu⟩
    · exact absurd hdown hs
    · exact absurd (congrArg Ksu.strokeSet hksu) h

end Sys2Proof.Machine
end

section
/-!
SUPPORT. Stroke assembly in order, key by key; what keeps it in order: a release, a press, a cut.
-/

namespace Sys2Proof.Machine

open Sys2Proof Sys2Proof.Rules

/-- What `assemblyInOrder` says of one key. -/
structure keyInOrder (u : Ksu) (k : Key) : Prop where
  carried : hasKey u.carried k = true →
    isDown u k ∧ hasKey u.hostMask k = false ∧ hasKey u.stuckMask k = false
  stuck : hasKey u.stuckMask k = true → isDown u k
  held : u.hold[k].isSome = true ↔
    isDown u k ∧ hasKey u.hostMask k = false ∧ hasKey u.stuckMask k = false
  accounted : u.hold[k].isSome = true → hasKey u.carried k = true ∨ hasKey u.strokeSet k = true
  debounce : u.debounce[k] = none ↔ hasKey u.line k = hasKey u.accepted k

theorem keyInOrder_of_assemblyInOrder {u : Ksu} (h : assemblyInOrder u) (k : Key) : keyInOrder u k :=
  ⟨h.carried k, h.stuck k, h.held k, h.accounted k, h.debounce k⟩

/-- Two KSUs have one stroke in progress. -/
def sameStroke (b u : Ksu) : Prop :=
  u.assembly = b.assembly ∧ u.strokeSet = b.strokeSet ∧ u.chordStart = b.chordStart ∧
    u.firstRelease = b.firstRelease

/-- With every key in order and no stroke key down, stroke assembly is in order once it is idle. -/
theorem toIdle_inOrder {u : Ksu} (keys : ∀ k, keyInOrder u k) (hup : ¬someStrokeKeyDown u)
    (g l : Nat) : assemblyInOrder { u.toIdle with ghostCount := g, lostCount := l } where
  cut := rfl
  idle := fun _ => ⟨rfl, rfl, rfl⟩
  chord := nofun
  release := nofun
  inProgress := fun h => absurd rfl h
  carried := fun k => (keys k).carried
  stuck := fun k => (keys k).stuck
  held := fun k => (keys k).held
  accounted := fun k hk => by
    cases hcarried : hasKey u.carried k with
    | true => exact .inl hcarried
    | false =>
        have hstroke := ((keys k).accounted hk).resolve_left (by simp [hcarried])
        obtain ⟨hdown, hhost, hstuck⟩ := (keys k).held.mp hk
        exact absurd ⟨k, hstroke, hdown, hhost, hstuck, hcarried⟩ hup
  debounce := fun k => (keys k).debounce

/-- With every key in order and no stroke key lost, stroke assembly stays in order. -/
theorem kept_inOrder {b u : Ksu} (h : assemblyInOrder b) (hsame : sameStroke b u)
    (hcut : u.cutFlag = false) (keys : ∀ k, keyInOrder u k)
    (kept : ∀ k, strokeKeyDown b k → strokeKeyDown u k) : assemblyInOrder u := by
  obtain ⟨hassembly, hset, hstart, hfirst⟩ := hsame
  exact {
    cut := hcut
    idle := by rw [hassembly, hset, hstart, hfirst]; exact h.idle
    chord := by
      rw [hassembly, hset, hstart, hfirst]
      intro hchord
      obtain ⟨hc, hf, hall⟩ := h.chord hchord
      exact ⟨hc, hf, fun k hk => kept k (hall k hk)⟩
    release := by rw [hassembly, hstart, hfirst]; exact h.release
    inProgress := by
      rw [hassembly]
      exact fun hbusy => (h.inProgress hbusy).imp kept
    carried := fun k => (keys k).carried
    stuck := fun k => (keys k).stuck
    held := fun k => (keys k).held
    accounted := fun k => (keys k).accounted
    debounce := fun k => (keys k).debounce }

/-- Once the stuck key, if any, is cut, the first-release time and the chord start are there in a stroke
whose key is released. -/
theorem releaseTime_isSome {b u : Ksu} (h : assemblyInOrder b) (hsame : sameStroke b u)
    (hbusy : b.assembly ≠ .idle) :
    u.chordStart.isSome = true ∧ u.releaseTime.isSome = true := by
  obtain ⟨hassembly, -, hstart, hfirst⟩ := hsame
  cases hstate : b.assembly with
  | idle => exact absurd hstate hbusy
  | chord => exact ⟨hstart ▸ (h.chord hstate).1, by simp [Ksu.releaseTime, hassembly, hstate]⟩
  | release =>
      obtain ⟨hc, hf⟩ := h.release hstate
      exact ⟨hstart ▸ hc, by simp [Ksu.releaseTime, hassembly, hstate, hfirst, hf]⟩

/-- With every key in order, a release of stroke keys leaves stroke assembly in order. -/
theorem releaseStroke_inOrder {b : Ksu} {s : State} (h : assemblyInOrder b)
    (hsame : sameStroke b s.ksu) (hbusy : b.assembly ≠ .idle) (keys : ∀ k, keyInOrder s.ksu k) :
    assemblyInOrder (s.releaseStroke.withCut false).ksu := by
  obtain ⟨hstart, hfirst⟩ := releaseTime_isSome h hsame hbusy
  rcases releaseStroke_ksu s with ⟨hdown, hksu⟩ | ⟨hup, g, l, hksu⟩
  · simp only [State.withCut, State.withKsu_ksu, hksu]
    exact {
      cut := rfl
      idle := nofun
      chord := nofun
      release := fun _ => ⟨hstart, hfirst⟩
      inProgress := fun _ => hdown
      carried := fun k => (keys k).carried
      stuck := fun k => (keys k).stuck
      held := fun k => (keys k).held
      accounted := fun k => (keys k).accounted
      debounce := fun k => (keys k).debounce }
  · simp only [State.withCut, State.withKsu_ksu, hksu]
    exact toIdle_inOrder keys hup g l

/-- In order, a stroke key down means a stroke in progress. -/
theorem busy_of_strokeKey {b : Ksu} (h : assemblyInOrder b) {k : Key}
    (hk : hasKey b.strokeSet k = true) : b.assembly ≠ .idle := fun hidle => by
  simp [(h.idle hidle).1] at hk

/-! ### Changes of one key -/

/-- Two KSUs hold the same of key `k`. -/
structure sameKey (b u : Ksu) (k : Key) : Prop where
  line : hasKey u.line k = hasKey b.line k
  accepted : hasKey u.accepted k = hasKey b.accepted k
  polarity : hasKey u.polarity k = hasKey b.polarity k
  hostMask : hasKey u.hostMask k = hasKey b.hostMask k
  stuckMask : hasKey u.stuckMask k = hasKey b.stuckMask k
  carried : hasKey u.carried k = hasKey b.carried k
  strokeSet : hasKey u.strokeSet k = hasKey b.strokeSet k
  hold : u.hold[k] = b.hold[k]
  debounce : u.debounce[k] = b.debounce[k]

theorem sameKey.isDown {b u : Ksu} {k : Key} (h : sameKey b u k) : isDown u k ↔ isDown b k := by
  rw [Rules.isDown, Rules.isDown, h.accepted, h.polarity]

theorem sameKey.strokeKeyDown {b u : Ksu} {k : Key} (h : sameKey b u k) :
    strokeKeyDown u k ↔ strokeKeyDown b k := by
  rw [Rules.strokeKeyDown, Rules.strokeKeyDown, h.isDown, h.strokeSet, h.hostMask, h.stuckMask,
    h.carried]

theorem sameKey.inOrder {b u : Ksu} {k : Key} (h : sameKey b u k) (hb : keyInOrder b k) :
    keyInOrder u k where
  carried := by rw [h.isDown, h.carried, h.hostMask, h.stuckMask]; exact hb.carried
  stuck := by rw [h.isDown, h.stuckMask]; exact hb.stuck
  held := by rw [h.isDown, h.hold, h.hostMask, h.stuckMask]; exact hb.held
  accounted := by rw [h.hold, h.carried, h.strokeSet]; exact hb.accounted
  debounce := by rw [h.debounce, h.line, h.accepted]; exact hb.debounce

/-- `u` is `b` but for what they hold of key `k`, which is in order in `u`. -/
theorem keysInOrder_of_one {b u : Ksu} {k : Key} (h : assemblyInOrder b)
    (others : ∀ j, j ≠ k → sameKey b u j) (hk : keyInOrder u k) : ∀ j, keyInOrder u j := fun j => by
  by_cases hj : j = k
  · exact hj ▸ hk
  · exact (others j hj).inOrder (keyInOrder_of_assemblyInOrder h j)

theorem kept_of_one {b u : Ksu} {k : Key} (others : ∀ j, j ≠ k → sameKey b u j)
    (hk : strokeKeyDown b k → strokeKeyDown u k) : ∀ j, strokeKeyDown b j → strokeKeyDown u j :=
  fun j => by
  by_cases hj : j = k
  · exact hj ▸ hk
  · exact (others j hj).strokeKeyDown.mpr

/-- A stroke that has just begun with key `k`. -/
theorem begun_inOrder {u : Ksu} {k : Key} (keys : ∀ j, keyInOrder u j) (hcut : u.cutFlag = false)
    (hchord : u.assembly = .chord) (hstart : u.chordStart.isSome = true)
    (hfirst : u.firstRelease = none) (hset : u.strokeSet = keyBit k) (hk : strokeKeyDown u k) :
    assemblyInOrder u where
  cut := hcut
  idle := by simp [hchord]
  chord := fun _ => ⟨hstart, hfirst, fun j hj => by
    rw [hset, hasKey_keyBit, decide_eq_true_iff] at hj
    exact hj ▸ hk⟩
  release := by simp [hchord]
  inProgress := fun _ => ⟨k, hk⟩
  carried := fun j => (keys j).carried
  stuck := fun j => (keys j).stuck
  held := fun j => (keys j).held
  accounted := fun j => (keys j).accounted
  debounce := fun j => (keys j).debounce

/-- A stroke in progress that key `k` has joined. -/
theorem joined_inOrder {b u : Ksu} {k : Key} (h : assemblyInOrder b) (keys : ∀ j, keyInOrder u j)
    (hcut : u.cutFlag = false) (hbusy : b.assembly ≠ .idle) (hassembly : u.assembly = b.assembly)
    (hstart : u.chordStart = b.chordStart) (hfirst : u.firstRelease = b.firstRelease)
    (hset : u.strokeSet = addKey b.strokeSet k) (hk : strokeKeyDown u k)
    (kept : ∀ j, strokeKeyDown b j → strokeKeyDown u j) : assemblyInOrder u where
  cut := hcut
  idle := fun hidle => absurd (hassembly ▸ hidle) hbusy
  chord := fun hchord => by
    obtain ⟨hc, hf, hall⟩ := h.chord (hassembly ▸ hchord)
    refine ⟨hstart ▸ hc, hfirst ▸ hf, fun j hj => ?_⟩
    by_cases hjk : j = k
    · exact hjk ▸ hk
    · exact kept j (hall j (by simpa [hset, hjk] using hj))
  release := by rw [hassembly, hstart, hfirst]; exact h.release
  inProgress := fun _ => ⟨k, hk⟩
  carried := fun j => (keys j).carried
  stuck := fun j => (keys j).stuck
  held := fun j => (keys j).held
  accounted := fun j => (keys j).accounted
  debounce := fun j => (keys j).debounce

/-! ### The operations on one key -/

/-- The line's level accepted, the other keys are as they were. -/
theorem accept_sameKey (b : Ksu) {k j : Key} (hj : j ≠ k) : sameKey b (b.accept k) j := by
  constructor <;> simp [Ksu.accept, hasKey_putKey, getElem_setTimer, hj, -Fin.getElem_fin]

theorem accept_debounce (b : Ksu) (k : Key) :
    (b.accept k).debounce[k] = none ∧ hasKey (b.accept k).line k = hasKey (b.accept k).accepted k := by
  simp [Ksu.accept, hasKey_putKey, getElem_setTimer, -Fin.getElem_fin]

/-- A KSU in which key `k`, held before, is to be let go: it is up or masked now, and all else is as
before. -/
structure lettingGo (b u : Ksu) (k : Key) : Prop where
  others : ∀ j, j ≠ k → sameKey b u j
  stroke : sameStroke b u
  carried : hasKey u.carried k = hasKey b.carried k
  gone : ¬(isDown u k ∧ hasKey u.hostMask k = false ∧ hasKey u.stuckMask k = false)
  stuck : hasKey u.stuckMask k = true → isDown u k
  debounce : u.debounce[k] = none ↔ hasKey u.line k = hasKey u.accepted k

/-- A key that is let go is in order once it is not carried and its hold timer has stopped. -/
theorem lettingGo.inOrder {b u : Ksu} {k : Key} (h : lettingGo b u k) (hb : assemblyInOrder b)
    (cut : Bool) : ∀ j, keyInOrder { u with
      carried := dropKey u.carried k, hold := setTimer u.hold k none, cutFlag := cut } j := by
  refine keysInOrder_of_one hb (k := k) (fun j hj => ?_) ?_
  · obtain ⟨hl, ha, hp, hm, hs, hc, ht, hh, hd⟩ := h.others j hj
    constructor <;> simp_all [getElem_setTimer, -Fin.getElem_fin]
  · exact {
      carried := by simp
      stuck := h.stuck
      held := iff_of_false (by simp [getElem_setTimer, -Fin.getElem_fin]) h.gone
      accounted := by simp [getElem_setTimer, -Fin.getElem_fin]
      debounce := h.debounce }

/-- A release of a key that was held leaves stroke assembly in order. -/
theorem releaseKey_inOrder {b : Ksu} {s : State} {k : Key} (hb : assemblyInOrder b)
    (h : lettingGo b s.ksu k) (hheld : b.hold[k].isSome = true) :
    assemblyInOrder ((s.releaseKey k).withCut false).ksu := by
  rw [releaseKey_eq]
  split
  · next hcarried =>
    have hbcarried : hasKey b.carried k = true := h.carried ▸ hcarried
    refine kept_inOrder hb h.stroke rfl (h.inOrder hb false) (kept_of_one (k := k) ?_ ?_)
    · intro j hj
      obtain ⟨hl, ha, hp, hm, hs, hc, ht, hh, hd⟩ := h.others j hj
      constructor <;> simp_all [getElem_setTimer, State.withCut, -Fin.getElem_fin]
    · rintro ⟨-, -, -, -, hnot⟩
      simp [hbcarried] at hnot
  · next hcarried =>
    have hbcarried : hasKey b.carried k ≠ true := h.carried ▸ hcarried
    have hset : hasKey b.strokeSet k = true := (hb.accounted k hheld).resolve_left hbcarried
    rw [if_pos (by rw [h.stroke.2.1]; exact hset)]
    have hkeys := h.inOrder hb s.ksu.cutFlag
    rw [dropKey_eq_self (Bool.not_eq_true _ ▸ hcarried)] at hkeys
    exact releaseStroke_inOrder hb h.stroke (busy_of_strokeKey hb hset) hkeys

end Sys2Proof.Machine
end

section
/-!
SUPPORT. What accepting a level and reaching the stuck limit do, case by case, and that both leave stroke
assembly in order.
-/

namespace Sys2Proof.Machine

open Sys2Proof Sys2Proof.Rules

/-! ### Accepting a level (R2, R14) -/

/-- `s` with the level of line `k` accepted, before stroke assembly takes the change. -/
def State.accepted (s : State) (k : Key) : State := s.withKsu (s.ksu.accept k)

/-- The acceptance of a level, by what it means for the key. -/
theorem acceptLevel_eq (s : State) (k : Key) :
    s.acceptLevel k =
      if hasKey (s.ksu.accept k).down k = hasKey s.ksu.down k then s.accepted k
      else if hasKey s.ksu.stuckMask k then
        (if hasKey (s.ksu.accept k).down k then s.accepted k
         else (s.accepted k).withKsu { s.ksu.accept k with stuckMask := dropKey s.ksu.stuckMask k })
      else if hasKey s.ksu.hostMask k then s.accepted k
      else if hasKey (s.ksu.accept k).down k then (s.accepted k).pressKey k
      else (s.accepted k).releaseKey k := rfl

/-- The key has the same meaning as before: no event. -/
theorem acceptLevel_of_unchanged {s : State} {k : Key}
    (h : isDown (s.ksu.accept k) k ↔ isDown s.ksu k) : s.acceptLevel k = s.accepted k := by
  rw [acceptLevel_eq, if_pos (Bool.eq_iff_iff.mpr (by rwa [hasKey_down, hasKey_down]))]

section

variable {s : State} {k : Key} (hchange : isDown s.ksu k ↔ ¬isDown (s.ksu.accept k) k)
include hchange

theorem accept_down_ne : ¬hasKey (s.ksu.accept k).down k = hasKey s.ksu.down k := fun h => by
  rw [Bool.eq_iff_iff, hasKey_down, hasKey_down] at h
  exact iff_not_self (h.trans hchange)

/-- A key in the stuck mask that becomes up leaves it. -/
theorem acceptLevel_of_stuck (hdown : isDown s.ksu k) (hstuck : hasKey s.ksu.stuckMask k = true) :
    s.acceptLevel k =
      s.withKsu { s.ksu.accept k with stuckMask := dropKey s.ksu.stuckMask k } := by
  rw [acceptLevel_eq, if_neg (accept_down_ne hchange), if_pos hstuck,
    if_neg (by rw [hasKey_down]; exact hchange.mp hdown)]
  rfl

/-- A change of a key in the host mask makes no event. -/
theorem acceptLevel_of_host (hstuck : hasKey s.ksu.stuckMask k = false)
    (hhost : hasKey s.ksu.hostMask k = true) : s.acceptLevel k = s.accepted k := by
  rw [acceptLevel_eq, if_neg (accept_down_ne hchange), if_neg (by simp [hstuck]), if_pos hhost]

variable (hstuck : hasKey s.ksu.stuckMask k = false) (hhost : hasKey s.ksu.hostMask k = false)
include hstuck hhost

/-- An unmasked key that becomes down is pressed. -/
theorem acceptLevel_of_press (hup : ¬isDown s.ksu k) :
    s.acceptLevel k = (s.accepted k).pressKey k := by
  rw [acceptLevel_eq, if_neg (accept_down_ne hchange), if_neg (by simp [hstuck]),
    if_neg (by simp [hhost]), if_pos ((hasKey_down _ _).mpr (not_not.mp (mt hchange.mpr hup)))]

/-- An unmasked key that becomes up is released. -/
theorem acceptLevel_of_release (hdown : isDown s.ksu k) :
    s.acceptLevel k = (s.accepted k).releaseKey k := by
  rw [acceptLevel_eq, if_neg (accept_down_ne hchange), if_neg (by simp [hstuck]),
    if_neg (by simp [hhost]), if_neg (by rw [hasKey_down]; exact hchange.mp hdown)]

end

/-! ### A press (R6, R8, R10) -/

theorem pressKey_of_idle {s : State} (k : Key) (h : s.ksu.assembly = .idle) :
    s.pressKey k = s.withKsu { s.ksu with
      assembly := .chord
      strokeSet := keyBit k
      chordStart := some s.ksu.clock
      firstRelease := none
      hold := setTimer s.ksu.hold k (some 0) } := by
  simp only [State.pressKey, h]; rfl

theorem pressKey_of_joining {s : State} (k : Key)
    (h : s.ksu.assembly = .chord ∨ (s.ksu.assembly = .release ∧ s.ksu.stacking = false)) :
    s.pressKey k = s.withKsu { s.ksu with
      strokeSet := addKey s.ksu.strokeSet k
      hold := setTimer s.ksu.hold k (some 0) } := by
  rcases h with h | ⟨h, hstacking⟩
  · simp only [State.pressKey, h]; rfl
  · simp only [State.pressKey, h, hstacking]; rfl

/-- The carried set after key `k` splits the stroke in progress: with the stroke keys still down, but not
the key pressed (R8; notes/assumptions/8.md). -/
def Ksu.carriedBySplit (u : Ksu) (k : Key) : KeySet := u.carried ||| dropKey u.stillDown k

theorem hasKey_carriedBySplit (u : Ksu) (k j : Key) :
    hasKey (u.carriedBySplit k) j = true ↔
      hasKey u.carried j = true ∨ (j ≠ k ∧ strokeKeyDown u j) := by
  rw [Ksu.carriedBySplit, hasKey_or, Bool.or_eq_true, hasKey_dropKey, Bool.and_eq_true,
    hasKey_stillDown]
  simp [and_comm]

theorem hasKey_carriedBySplit_self (u : Ksu) (k : Key) :
    hasKey (u.carriedBySplit k) k = hasKey u.carried k := by simp [Ksu.carriedBySplit]

theorem pressKey_of_splitting {s : State} (k : Key) (h : s.ksu.assembly = .release)
    (hstacking : s.ksu.stacking = true) :
    s.pressKey k = (s.closeStroke true).withKsu { (s.closeStroke true).ksu with
      carried := s.ksu.carriedBySplit k
      assembly := .chord
      strokeSet := keyBit k
      chordStart := some s.ksu.clock
      firstRelease := none
      hold := setTimer s.ksu.hold k (some 0) } := by
  obtain ⟨g, l, hksu⟩ := closeStroke_ksu s true
  simp only [State.pressKey, h, hstacking, if_true, State.splitStroke, State.beginStroke,
    State.startHold, State.withKsu_withKsu, State.withKsu_ksu, hksu]
  rfl

/-- A key that stroke assembly has just taken. -/
structure pressed (u : Ksu) (k : Key) : Prop where
  down : isDown u k
  hostMask : hasKey u.hostMask k = false
  stuckMask : hasKey u.stuckMask k = false
  carried : hasKey u.carried k = false
  strokeSet : hasKey u.strokeSet k = true
  hold : u.hold[k] = some 0
  debounce : u.debounce[k] = none
  line : hasKey u.line k = hasKey u.accepted k

theorem pressed.inOrder {u : Ksu} {k : Key} (h : pressed u k) : keyInOrder u k where
  carried := fun _ => ⟨h.down, h.hostMask, h.stuckMask⟩
  stuck := fun _ => h.down
  held := iff_of_true (by rw [h.hold]; rfl) ⟨h.down, h.hostMask, h.stuckMask⟩
  accounted := fun _ => .inr h.strokeSet
  debounce := iff_of_true h.debounce h.line

theorem pressed.strokeKeyDown {u : Ksu} {k : Key} (h : pressed u k) : strokeKeyDown u k :=
  ⟨h.strokeSet, h.down, h.hostMask, h.stuckMask, h.carried⟩

section

variable {b : Ksu} {s : State} {k : Key} (hb : assemblyInOrder b) (hs : s.ksu = b.accept k)
  (hdown : isDown s.ksu k) (hhost : hasKey b.hostMask k = false)
  (hstuck : hasKey b.stuckMask k = false) (hcarried : hasKey b.carried k = false)
include hb hs hdown hhost hstuck hcarried

theorem pressKey_inOrder_of_idle (hidle : b.assembly = .idle) :
    assemblyInOrder (s.pressKey k).ksu := by
  rw [pressKey_of_idle k (by rw [hs]; exact hidle)]
  have hset : b.strokeSet = 0#23 := (hb.idle hidle).1
  have hk : pressed (s.withKsu { s.ksu with
      assembly := .chord
      strokeSet := keyBit k
      chordStart := some s.ksu.clock
      firstRelease := none
      hold := setTimer s.ksu.hold k (some 0) }).ksu k := by
    constructor <;> simp_all [Ksu.accept, hasKey_putKey, getElem_setTimer, -Fin.getElem_fin]
    exact hdown
  refine begun_inOrder (keysInOrder_of_one hb (fun j hj => ?_) hk.inOrder) ?_ rfl rfl rfl rfl
    hk.strokeKeyDown
  · constructor <;> simp [hs, hset, Ksu.accept, hasKey_putKey, getElem_setTimer, hj, -Fin.getElem_fin]
  · rw [hs]; exact hb.cut

theorem pressKey_inOrder_of_joining
    (hjoin : b.assembly = .chord ∨ (b.assembly = .release ∧ b.stacking = false)) :
    assemblyInOrder (s.pressKey k).ksu := by
  rw [pressKey_of_joining k (by rw [hs]; exact hjoin)]
  have hk : pressed (s.withKsu { s.ksu with
      strokeSet := addKey s.ksu.strokeSet k
      hold := setTimer s.ksu.hold k (some 0) }).ksu k := by
    constructor <;> simp_all [Ksu.accept, hasKey_putKey, getElem_setTimer, -Fin.getElem_fin]
    exact hdown
  have others : ∀ j, j ≠ k → sameKey b (s.withKsu { s.ksu with
      strokeSet := addKey s.ksu.strokeSet k
      hold := setTimer s.ksu.hold k (some 0) }).ksu j := fun j hj => by
    constructor <;> simp [hs, Ksu.accept, hasKey_putKey, getElem_setTimer, hj, -Fin.getElem_fin]
  refine joined_inOrder hb (keysInOrder_of_one hb others hk.inOrder) ?_ ?_ ?_ ?_ ?_ ?_
    hk.strokeKeyDown (kept_of_one others fun _ => hk.strokeKeyDown)
  · rw [hs]; exact hb.cut
  · rcases hjoin with h | ⟨h, -⟩ <;> simp [h]
  all_goals rw [hs]; rfl

theorem pressKey_inOrder_of_splitting (hrelease : b.assembly = .release) (hstacking : b.stacking = true) :
    assemblyInOrder (s.pressKey k).ksu := by
  obtain ⟨g, l, hksu⟩ := closeStroke_ksu s true
  rw [pressKey_of_splitting k (by rw [hs]; exact hrelease) (by rw [hs]; exact hstacking), hksu]
  have hk : pressed (s.withKsu { s.ksu.toIdle with
      ghostCount := g
      lostCount := l
      carried := s.ksu.carriedBySplit k
      assembly := .chord
      strokeSet := keyBit k
      chordStart := some s.ksu.clock
      firstRelease := none
      hold := setTimer s.ksu.hold k (some 0) }).ksu k := by
    constructor <;>
      simp_all [Ksu.accept, Ksu.toIdle, hasKey_carriedBySplit_self, hasKey_putKey,
        getElem_setTimer, -Fin.getElem_fin]
    exact hdown
  refine begun_inOrder (fun j => ?_) rfl rfl rfl rfl rfl hk.strokeKeyDown
  by_cases hj : j = k
  · exact hj ▸ hk.inOrder
  · have hsame : sameKey b s.ksu j := hs ▸ accept_sameKey b hj
    obtain ⟨hcarry, hstk, hheld, haccount, hdeb⟩ :=
      hsame.inOrder (keyInOrder_of_assemblyInOrder hb j)
    have hhold : (setTimer s.ksu.hold k (some 0))[j].isSome = true ↔ s.ksu.hold[j].isSome = true := by
      rw [getElem_setTimer, if_neg hj]
    exact {
      carried := fun h => by
        rcases (hasKey_carriedBySplit _ _ _).mp h with h | ⟨-, h⟩
        · exact hcarry h
        · exact ⟨h.2.1, h.2.2.1, h.2.2.2.1⟩
      stuck := hstk
      held := hhold.trans hheld
      accounted := fun h => by
        have h := hhold.mp h
        obtain ⟨hjdown, hjhost, hjstuck⟩ := hheld.mp h
        refine .inl ((hasKey_carriedBySplit _ _ _).mpr ?_)
        cases hc : hasKey s.ksu.carried j with
        | true => exact .inl rfl
        | false =>
            exact .inr ⟨hj, (haccount h).resolve_left (by simp [hc]), hjdown, hjhost, hjstuck, hc⟩
      debounce := hdeb }

end

/-- A press of a key that was up leaves stroke assembly in order. -/
theorem pressKey_inOrder {b : Ksu} {s : State} {k : Key} (hb : assemblyInOrder b)
    (hs : s.ksu = b.accept k) (hup : ¬isDown b k) (hdown : isDown s.ksu k)
    (hhost : hasKey b.hostMask k = false) (hstuck : hasKey b.stuckMask k = false) :
    assemblyInOrder (s.pressKey k).ksu := by
  have hcarried : hasKey b.carried k = false :=
    Bool.eq_false_iff.mpr fun h => hup (hb.carried k h).1
  cases hassembly : b.assembly with
  | idle => exact pressKey_inOrder_of_idle hb hs hdown hhost hstuck hcarried hassembly
  | chord => exact pressKey_inOrder_of_joining hb hs hdown hhost hstuck hcarried (.inl hassembly)
  | release =>
      cases hstacking : b.stacking with
      | true =>
          exact pressKey_inOrder_of_splitting hb hs hdown hhost hstuck hcarried hassembly hstacking
      | false =>
          exact pressKey_inOrder_of_joining hb hs hdown hhost hstuck hcarried
            (.inr ⟨hassembly, hstacking⟩)

/-! ### Accepting a level keeps stroke assembly in order -/

theorem releaseKey_cutFlag {s : State} (k : Key) (h : s.ksu.cutFlag = false) :
    (s.releaseKey k).ksu.cutFlag = false := by
  rw [releaseKey_eq]
  split
  · exact h
  · split
    · exact releaseStroke_cutFlag h
    · exact h

/-- A key whose acceptance stroke assembly does not see: it stays in order, and no stroke key is lost. -/
theorem accept_inOrder {b u : Ksu} {k : Key} (hb : assemblyInOrder b)
    (hu : u = { b.accept k with stuckMask := u.stuckMask })
    (others : ∀ j, j ≠ k → hasKey u.stuckMask j = hasKey b.stuckMask j)
    (hk : keyInOrder u k) (kept : strokeKeyDown b k → strokeKeyDown u k) : assemblyInOrder u := by
  have hsame : ∀ j, j ≠ k → sameKey b u j := fun j hj => by
    have ⟨hl, ha, hp, hm, hs, hc, ht, hh, hd⟩ := accept_sameKey b hj
    have := others j hj
    rw [hu]
    constructor <;> assumption
  exact kept_inOrder hb (by rw [hu]; exact ⟨rfl, rfl, rfl, rfl⟩) (by rw [hu]; exact hb.cut)
    (keysInOrder_of_one hb hsame hk) (kept_of_one hsame kept)

theorem acceptLevel_inOrder {s : State} (k : Key) (h : assemblyInOrder s.ksu) :
    assemblyInOrder (s.acceptLevel k).ksu := by
  obtain ⟨hcarried, hstuck, hheld, haccount, -⟩ := keyInOrder_of_assemblyInOrder h k
  have hdebounce := iff_of_true (accept_debounce s.ksu k).1 (accept_debounce s.ksu k).2
  by_cases hsame : isDown (s.ksu.accept k) k ↔ isDown s.ksu k
  · rw [acceptLevel_of_unchanged hsame]
    refine accept_inOrder h rfl (fun _ _ => rfl) ⟨?_, ?_, ?_, haccount, hdebounce⟩ ?_
    · exact fun hc => (hcarried hc).imp_left hsame.mpr
    · exact fun hs => hsame.mpr (hstuck hs)
    · exact hheld.trans (and_congr_left fun _ => hsame.symm)
    · exact fun hk => ⟨hk.1, hsame.mpr hk.2.1, hk.2.2⟩
  have hchange : isDown s.ksu k ↔ ¬isDown (s.ksu.accept k) k := (not_iff.mp hsame).symm
  cases hst : hasKey s.ksu.stuckMask k with
  | true =>
      have hup := hchange.mp (hstuck hst)
      rw [acceptLevel_of_stuck hchange (hstuck hst) hst]
      refine accept_inOrder h rfl (fun j hj => ?_) ⟨?_, ?_, ?_, haccount, hdebounce⟩ ?_
      · exact (hasKey_dropKey _ _ _).trans (by simp [hj])
      · intro hc; simp [(hcarried hc).2.2] at hst
      · simp
      · exact iff_of_false (fun hh => by simp [(hheld.mp hh).2.2] at hst) fun hd => hup hd.1
      · rintro ⟨-, -, -, hns, -⟩; simp [hns] at hst
  | false =>
      cases hho : hasKey s.ksu.hostMask k with
      | true =>
          rw [acceptLevel_of_host hchange hst hho]
          refine accept_inOrder h rfl (fun _ _ => rfl) ⟨?_, ?_, ?_, haccount, hdebounce⟩ ?_
          · intro hc; simp [(hcarried hc).2.1] at hho
          · intro hs; exact absurd (hst.symm.trans hs) (by simp)
          · exact iff_of_false (fun hh => by simp [(hheld.mp hh).2.1] at hho)
              fun hd => absurd (hho.symm.trans hd.2.1) (by simp)
          · rintro ⟨-, -, hnh, -, -⟩; simp [hnh] at hho
      | false =>
          by_cases hdown : isDown s.ksu k
          · rw [acceptLevel_of_release hchange hst hho hdown,
              ← State.withCut_self (releaseKey_cutFlag k (s := s.accepted k) h.cut)]
            refine releaseKey_inOrder h ⟨fun j => accept_sameKey s.ksu, ⟨rfl, rfl, rfl, rfl⟩, rfl,
              fun hd => hchange.mp hdown hd.1, fun hs => ?_, hdebounce⟩
              (hheld.mpr ⟨hdown, hho, hst⟩)
            exact absurd (hst.symm.trans hs) (by simp)
          · rw [acceptLevel_of_press hchange hst hho hdown]
            exact pressKey_inOrder h rfl hdown (not_not.mp (mt hchange.mpr hdown)) hho hst

/-! ### Reaching the stuck limit (R12) -/

/-- `s` with key `k` in the stuck mask, its hold timer stopped and KEY_STUCK set. -/
def State.stuckKey (s : State) (k : Key) : State :=
  (s.withKsu { s.ksu with
    stuckMask := addKey s.ksu.stuckMask k
    hold := setTimer s.ksu.hold k none }).setNotices keyStuck

/-- The cut of a key, by whether stroke assembly has the key. -/
theorem cutKey_eq (s : State) (k : Key) :
    s.cutKey k =
      (if hasKey s.ksu.carried k || hasKey s.ksu.stillDown k then
        ((s.stuckKey k).withCut true).releaseKey k
      else (s.stuckKey k).withCut true).withCut false := rfl

theorem cutKey_inOrder {s : State} {k : Key} (h : assemblyInOrder s.ksu)
    (hheld : s.ksu.hold[k].isSome = true) : assemblyInOrder (s.cutKey k).ksu := by
  obtain ⟨hdown, hhost, hstuck⟩ := (h.held k).mp hheld
  have htakes : (hasKey s.ksu.carried k || hasKey s.ksu.stillDown k) = true := by
    rw [Bool.or_eq_true, hasKey_stillDown]
    cases hc : hasKey s.ksu.carried k with
    | true => exact .inl rfl
    | false =>
        exact .inr ⟨(h.accounted k hheld).resolve_left (by simp [hc]), hdown, hhost, hstuck, hc⟩
  rw [cutKey_eq, if_pos htakes]
  refine releaseKey_inOrder h ⟨fun j hj => ?_, ⟨rfl, rfl, rfl, rfl⟩, rfl, ?_, fun _ => hdown,
    h.debounce k⟩ hheld
  · constructor <;> simp [State.withCut, State.stuckKey, getElem_setTimer, hj, -Fin.getElem_fin]
  · rintro ⟨-, -, hs⟩
    simp [State.withCut, State.stuckKey] at hs

end Sys2Proof.Machine
end

section
/-!
SUPPORT. Several keys handled together by SET_KEY_POLARITY and SET_KEY_MASK: the keys that are taken up
into the carried set, then the keys that are let go, their stroke keys at one time (R3, R4).
-/

namespace Sys2Proof.Machine

open Sys2Proof Sys2Proof.Rules

/-! ### Keys that become carried -/

/-- The keys of a list that a rule on the host mask lets through become carried, their hold timers start,
and nothing else changes. -/
theorem foldl_carry {f : State → Key → State} {takes : KeySet → Key → Bool}
    (hf : ∀ s k, f s k = if takes s.ksu.hostMask k then s.unmaskKey k else s) :
    ∀ (l : List Key) (s : State), ∃ (c : KeySet) (h : Vector (Option Nat) 23),
      l.foldl f s = s.withHolds c s.ksu.stuckMask h ∧
      ∀ j, hasKey c j = (hasKey s.ksu.carried j || (decide (j ∈ l) && takes s.ksu.hostMask j)) ∧
        h[j] = if j ∈ l ∧ takes s.ksu.hostMask j = true then some 0 else s.ksu.hold[j]
  | [], s => ⟨s.ksu.carried, s.ksu.hold, rfl, by simp⟩
  | k :: l, s => by
      obtain ⟨c, h, hfold, hkeys⟩ := foldl_carry hf l (f s k)
      refine ⟨c, h, ?_, fun j => ?_⟩
      · rw [List.foldl_cons, hfold, hf]
        split <;> rfl
      · obtain ⟨hc, hh⟩ := hkeys j
        rw [hc, hh, hf]
        by_cases hj : j = k <;> cases ht : takes s.ksu.hostMask k <;>
          simp [hj, ht, State.unmaskKey, State.startHold, getElem_setTimer, -Fin.getElem_fin]

theorem turnKey_false (s : State) (k : Key) :
    s.turnKey k false = if !hasKey s.ksu.hostMask k then s.unmaskKey k else s := by
  simp only [State.turnKey, State.unmaskKey]
  cases hasKey s.ksu.hostMask k <;> rfl

/-! ### Keys that are let go -/

/-- `s` with key `k` in neither the carried set nor the stuck mask, its hold timer stopped. -/
def State.letGo (s : State) (k : Key) : State :=
  s.withHolds (dropKey s.ksu.carried k) (dropKey s.ksu.stuckMask k) (setTimer s.ksu.hold k none)

/-- Key `k` is let go, as a stroke key where it is `free`, that is, was in no mask, and is one. -/
def State.letGoAs (free : Key → Bool) (s : State) (k : Key) : State :=
  if free k && !hasKey s.ksu.carried k && hasKey s.ksu.strokeSet k then (s.letGo k).releaseStroke
  else s.letGo k

theorem dropKey_dropKey (a : KeySet) (k : Key) : dropKey (dropKey a k) k = dropKey a k :=
  dropKey_eq_self (by simp)

/-- A release of stroke keys has nothing to do with what is carried, stuck or timed. -/
theorem releaseStroke_holds (s : State) :
    s.releaseStroke.ksu.carried = s.ksu.carried ∧ s.releaseStroke.ksu.stuckMask = s.ksu.stuckMask ∧
      s.releaseStroke.ksu.hold = s.ksu.hold := by
  rcases releaseStroke_ksu s with ⟨-, hksu⟩ | ⟨-, g, l, hksu⟩ <;> rw [hksu] <;> exact ⟨rfl, rfl, rfl⟩

theorem stopHold_eq_letGo {s : State} {k : Key} (hc : hasKey s.ksu.carried k = false)
    (hm : hasKey s.ksu.stuckMask k = false) : s.stopHold k = s.letGo k := by
  rw [State.letGo, dropKey_eq_self hc, dropKey_eq_self hm]; rfl

theorem State.withHolds_self {s : State} {c m : KeySet} {h : Vector (Option Nat) 23}
    (hc : s.ksu.carried = c) (hm : s.ksu.stuckMask = m) (hh : s.ksu.hold = h) :
    s.withHolds c m h = s := by
  subst hc hm hh; rfl

theorem releaseStroke_letGo (s : State) (k : Key) :
    (s.letGo k).releaseStroke.letGo k = (s.letGo k).releaseStroke := by
  obtain ⟨hc, hm, hh⟩ := releaseStroke_holds (s.letGo k)
  refine State.withHolds_self ?_ ?_ ?_
  · rw [hc]; exact (dropKey_dropKey _ _).symm
  · rw [hm]; exact (dropKey_dropKey _ _).symm
  · rw [hh]; simp [State.letGo, State.withHolds, setTimer]

/-- A key that is not stuck is released and then let go as one that is free. -/
theorem releaseKey_letGo {s : State} {k : Key} (hm : hasKey s.ksu.stuckMask k = false) :
    (s.releaseKey k).letGo k = s.letGoAs (fun _ => true) k := by
  rw [releaseKey_eq, State.letGoAs]
  cases hc : hasKey s.ksu.carried k with
  | true =>
      simp only [if_true, Bool.true_and, Bool.not_true, Bool.false_and, Bool.false_eq_true, if_false]
      simp [State.letGo, State.withHolds, dropKey_dropKey, setTimer]
  | false =>
      cases ht : hasKey s.ksu.strokeSet k with
      | true =>
          simp only [Bool.false_eq_true, if_false, if_true, Bool.true_and, Bool.not_false]
          rw [stopHold_eq_letGo hc hm, releaseStroke_letGo]
      | false => simp only [Bool.false_eq_true, if_false, Bool.and_false]

theorem turnKey_true (s : State) (k : Key) :
    s.turnKey k true =
      s.letGoAs (fun k => !hasKey s.ksu.hostMask k && !hasKey s.ksu.stuckMask k) k := by
  have hturn : s.turnKey k true =
      (if hasKey s.ksu.hostMask k || hasKey s.ksu.stuckMask k then s else s.releaseKey k).letGo k := rfl
  rw [hturn]
  cases hh : hasKey s.ksu.hostMask k <;> cases hm : hasKey s.ksu.stuckMask k
  · exact (releaseKey_letGo hm).trans (by simp [State.letGoAs, hh, hm])
  all_goals simp [State.letGoAs, hh, hm]

theorem maskKey_eq (s : State) (k : Key) (h : hasKey s.ksu.stuckMask k = false) :
    s.maskKey k = s.letGoAs (fun _ => true) k := by
  rw [← releaseKey_letGo h]
  refine stopHold_eq_letGo ?_ ?_
  all_goals
    rw [releaseKey_eq]
    split
    · simp [h]
    · split
      · obtain ⟨hc, hm, -⟩ := releaseStroke_holds (s.stopHold k)
        simp_all [State.stopHold]
      · simp_all

/-- Keys let go one after another. -/
theorem foldl_letGo : ∀ (l : List Key) (s : State), ∃ (c m : KeySet) (h : Vector (Option Nat) 23),
      l.foldl State.letGo s = s.withHolds c m h ∧
      ∀ j, hasKey c j = (hasKey s.ksu.carried j && !decide (j ∈ l)) ∧
        hasKey m j = (hasKey s.ksu.stuckMask j && !decide (j ∈ l)) ∧
        h[j] = if j ∈ l then none else s.ksu.hold[j]
  | [], s => ⟨s.ksu.carried, s.ksu.stuckMask, s.ksu.hold, rfl, by simp⟩
  | k :: l, s => by
      obtain ⟨c, m, h, hfold, hkeys⟩ := foldl_letGo l (s.letGo k)
      refine ⟨c, m, h, by rw [List.foldl_cons, hfold]; rfl, fun j => ?_⟩
      obtain ⟨hc, hm, hh⟩ := hkeys j
      rw [hc, hm, hh]
      by_cases hj : j = k <;> by_cases hl : j ∈ l <;>
        simp [hj, hl, State.letGo, State.withHolds, getElem_setTimer, -Fin.getElem_fin]

/-! ### Keys let go at one time -/

/-- A key that no longer counts as down: it is up, or in the host mask. -/
def Ksu.uncounted (u : Ksu) (k : Key) : Prop := ¬isDown u k ∨ hasKey u.hostMask k = true

/-- The stroke keys still down do not depend on what is held of a key that counts no more. -/
theorem strokeKeyDown_letGo {s : State} {k : Key} (hk : s.ksu.uncounted k) (j : Key) :
    strokeKeyDown (s.letGo k).ksu j ↔ strokeKeyDown s.ksu j := by
  by_cases hj : j = k
  · subst hj
    have hnot : ∀ u : Ksu, u.uncounted j → ¬strokeKeyDown u j := fun u hu ⟨_, hd, hh, _, _⟩ =>
      hu.elim (absurd hd) fun h => by simp [hh] at h
    exact iff_of_false (hnot _ hk) (hnot _ hk)
  · exact (sameKey.strokeKeyDown (by
      constructor <;> simp [State.letGo, State.withHolds, getElem_setTimer, hj, -Fin.getElem_fin]))

/-- A release of stroke keys and the letting go of keys that count no more are in either order the
same. -/
theorem releaseStroke_foldl_letGo : ∀ {l : List Key} {s : State}, (∀ k ∈ l, s.ksu.uncounted k) →
    (l.foldl State.letGo s).releaseStroke = l.foldl State.letGo s.releaseStroke
  | [], _, _ => rfl
  | k :: l, s, hl => by
      have hone : (s.letGo k).releaseStroke = s.releaseStroke.letGo k := by
        obtain ⟨hc, hm, hh⟩ := releaseStroke_holds s
        rw [State.letGo, releaseStroke_withHolds _ _ _ _
          (strokeKeyDown_letGo (hl k List.mem_cons_self)), State.letGo, hc, hm, hh]
      rw [List.foldl_cons, List.foldl_cons, ← hone]
      exact releaseStroke_foldl_letGo fun j hj => hl j (List.mem_cons_of_mem k hj)

theorem releaseStroke_uncounted {s : State} {k : Key} (h : s.ksu.uncounted k) :
    s.releaseStroke.ksu.uncounted k := by
  rcases releaseStroke_ksu s with ⟨-, hksu⟩ | ⟨-, g, l, hksu⟩ <;> rw [hksu] <;> exact h

/-- Key `k`, let go, is lost to the stroke in progress. -/
def Ksu.loses (u : Ksu) (free : Key → Bool) (k : Key) : Prop :=
  free k = true ∧ hasKey u.carried k = false ∧ hasKey u.strokeSet k = true

theorem letGoAs_of_loses {free : Key → Bool} {s : State} {k : Key} (h : s.ksu.loses free k) :
    s.letGoAs free k = (s.letGo k).releaseStroke := if_pos (by simp [h.1, h.2.1, h.2.2])

theorem letGoAs_of_not_loses {free : Key → Bool} {s : State} {k : Key} (h : ¬s.ksu.loses free k) :
    s.letGoAs free k = s.letGo k := if_neg (by simpa [Ksu.loses, and_assoc] using h)

theorem loses_letGo {free : Key → Bool} {s : State} {k j : Key} (hj : j ≠ k) :
    (s.letGo k).ksu.loses free j ↔ s.ksu.loses free j := by
  simp [Ksu.loses, State.letGo, State.withHolds, hj]

/-- Keys none of which is lost to the stroke only go. -/
theorem foldl_letGoAs_of_none {free : Key → Bool} : ∀ {l : List Key} {s : State}, l.Nodup →
    (∀ k ∈ l, ¬s.ksu.loses free k) → l.foldl (State.letGoAs free) s = l.foldl State.letGo s
  | [], _, _, _ => rfl
  | k :: l, s, hnodup, hnone => by
      obtain ⟨hk, hl⟩ := List.nodup_cons.mp hnodup
      rw [List.foldl_cons, List.foldl_cons, letGoAs_of_not_loses (hnone k List.mem_cons_self)]
      refine foldl_letGoAs_of_none hl fun j hj => ?_
      rw [loses_letGo (ne_of_mem_of_not_mem hj hk)]
      exact hnone j (List.mem_cons_of_mem k hj)

/-- Keys some of which are lost to the stroke go, and the stroke keys among them are released at one
time. -/
theorem foldl_letGoAs_of_some {free : Key → Bool} : ∀ {l : List Key} {s : State}, l.Nodup →
    (∀ k ∈ l, s.ksu.uncounted k) → (∃ k ∈ l, s.ksu.loses free k) →
    l.foldl (State.letGoAs free) s = (l.foldl State.letGo s).releaseStroke
  | [], _, _, _, hsome => by simp at hsome
  | k :: l, s, hnodup, hcount, hsome => by
      obtain ⟨hk, hl⟩ := List.nodup_cons.mp hnodup
      have hcount' : ∀ j ∈ l, (s.letGo k).ksu.uncounted j := fun j hj =>
        hcount j (List.mem_cons_of_mem k hj)
      rw [List.foldl_cons, List.foldl_cons]
      by_cases hlost : s.ksu.loses free k
      · rw [letGoAs_of_loses hlost]
        by_cases hmore : ∃ j ∈ l, (s.letGo k).releaseStroke.ksu.loses free j
        · obtain ⟨j, -, -, -, hset⟩ := id hmore
          rw [foldl_letGoAs_of_some hl (fun j hj => releaseStroke_uncounted (hcount' j hj)) hmore,
            releaseStroke_foldl_letGo fun j hj => releaseStroke_uncounted (hcount' j hj),
            releaseStroke_again _ fun h => by simp [h] at hset, releaseStroke_foldl_letGo hcount']
        · rw [foldl_letGoAs_of_none hl fun j hj h => hmore ⟨j, hj, h⟩,
            releaseStroke_foldl_letGo hcount']
      · rw [letGoAs_of_not_loses hlost]
        refine foldl_letGoAs_of_some hl hcount' ?_
        obtain ⟨j, hj, hloses⟩ := hsome
        rcases List.mem_cons.mp hj with rfl | hj
        · exact absurd hloses hlost
        · exact ⟨j, hj, (loses_letGo (ne_of_mem_of_not_mem hj hk)).mpr hloses⟩

/-- Letting a key go changes no other key's mask. -/
theorem letGoAs_masks (free : Key → Bool) (s : State) {k j : Key} (hj : j ≠ k) :
    (s.letGoAs free k).ksu.hostMask = s.ksu.hostMask ∧
      hasKey (s.letGoAs free k).ksu.stuckMask j = hasKey s.ksu.stuckMask j := by
  have hgo : (s.letGo k).ksu.hostMask = s.ksu.hostMask ∧
      hasKey (s.letGo k).ksu.stuckMask j = hasKey s.ksu.stuckMask j :=
    ⟨rfl, by simp [State.letGo, State.withHolds, hj]⟩
  unfold State.letGoAs
  split
  · rcases releaseStroke_ksu (s.letGo k) with ⟨-, hksu⟩ | ⟨-, g, l, hksu⟩ <;> rw [hksu] <;> exact hgo
  · exact hgo

/-- The keys that a polarity change turns up go as those that were in no mask. -/
theorem foldl_turnKey_true {free : Key → Bool} : ∀ {l : List Key} {s : State}, l.Nodup →
    (∀ k ∈ l, free k = (!hasKey s.ksu.hostMask k && !hasKey s.ksu.stuckMask k)) →
    l.foldl (fun u k => u.turnKey k true) s = l.foldl (State.letGoAs free) s
  | [], _, _, _ => rfl
  | k :: l, s, hnodup, hfree => by
      obtain ⟨hk, hl⟩ := List.nodup_cons.mp hnodup
      have hfirst : s.turnKey k true = s.letGoAs free k := by
        rw [turnKey_true, State.letGoAs, State.letGoAs, hfree k List.mem_cons_self]
      rw [List.foldl_cons, List.foldl_cons, hfirst]
      refine foldl_turnKey_true hl fun j hj => ?_
      obtain ⟨hhost, hstuck⟩ := letGoAs_masks free s (ne_of_mem_of_not_mem hj hk)
      rw [hhost, hstuck, hfree j (List.mem_cons_of_mem k hj)]

/-- The keys that enter the host mask while down and not stuck go as keys in no mask. -/
theorem foldl_maskKey : ∀ {l : List Key} {s : State}, l.Nodup →
    (∀ k ∈ l, hasKey s.ksu.stuckMask k = false) →
    l.foldl State.maskKey s = l.foldl (State.letGoAs fun _ => true) s
  | [], _, _, _ => rfl
  | k :: l, s, hnodup, hstuck => by
      obtain ⟨hk, hl⟩ := List.nodup_cons.mp hnodup
      rw [List.foldl_cons, List.foldl_cons, maskKey_eq s k (hstuck k List.mem_cons_self)]
      refine foldl_maskKey hl fun j hj => ?_
      rw [(letGoAs_masks _ s (ne_of_mem_of_not_mem hj hk)).2]
      exact hstuck j (List.mem_cons_of_mem k hj)

/-- What becomes of the keys' carried set, stuck mask and hold timers where the keys of `up` become carried
and those of `gone` are let go. -/
def handled (b : Ksu) (up gone : Key → Prop) (c m : KeySet) (h : Vector (Option Nat) 23) : Prop :=
  ∀ j, (hasKey c j = true ↔ (hasKey b.carried j = true ∨ up j) ∧ ¬gone j) ∧
    (hasKey m j = true ↔ hasKey b.stuckMask j = true ∧ ¬gone j) ∧
    (gone j → h[j] = none) ∧ (¬gone j → up j → h[j] = some 0) ∧ (¬gone j → ¬up j → h[j] = b.hold[j])

theorem handled.gone {b : Ksu} {up gone : Key → Prop} {c m : KeySet} {h : Vector (Option Nat) 23}
    (hh : handled b up gone c m h) {k : Key} (hk : gone k) :
    hasKey c k = false ∧ hasKey m k = false ∧ h[k] = none := by
  obtain ⟨hc, hm, hnone, -, -⟩ := hh k
  exact ⟨Bool.eq_false_iff.mpr fun e => (hc.mp e).2 hk, Bool.eq_false_iff.mpr fun e => (hm.mp e).2 hk,
    hnone hk⟩

theorem handled.up {b : Ksu} {up gone : Key → Prop} {c m : KeySet} {h : Vector (Option Nat) 23}
    (hh : handled b up gone c m h) {k : Key} (hk : ¬gone k) (hup : up k) :
    hasKey c k = true ∧ hasKey m k = hasKey b.stuckMask k ∧ h[k] = some 0 := by
  obtain ⟨hc, hm, -, hsome, -⟩ := hh k
  exact ⟨hc.mpr ⟨.inr hup, hk⟩, Bool.eq_iff_iff.mpr (hm.trans (and_iff_left hk)), hsome hk hup⟩

theorem handled.kept {b : Ksu} {up gone : Key → Prop} {c m : KeySet} {h : Vector (Option Nat) 23}
    (hh : handled b up gone c m h) {k : Key} (hk : ¬gone k) (hup : ¬up k) :
    hasKey c k = hasKey b.carried k ∧ hasKey m k = hasKey b.stuckMask k ∧ h[k] = b.hold[k] := by
  obtain ⟨hc, hm, -, -, hkeep⟩ := hh k
  exact ⟨Bool.eq_iff_iff.mpr (hc.trans (by simp [hk, hup])),
    Bool.eq_iff_iff.mpr (hm.trans (and_iff_left hk)), hkeep hk hup⟩

/-- Keys of one list become carried; then those of another, apart from it, are let go, and the stroke
keys among these are released at one time. -/
theorem carry_then_letGo {f g : State → Key → State} {takes : KeySet → Key → Bool}
    {free : Key → Bool} {up gone : List Key} {s : State}
    (hf : ∀ s k, f s k = if takes s.ksu.hostMask k then s.unmaskKey k else s)
    (hg : ∀ c h, gone.foldl g (s.withHolds c s.ksu.stuckMask h) =
      gone.foldl (State.letGoAs free) (s.withHolds c s.ksu.stuckMask h))
    (hnodup : gone.Nodup) (hcount : ∀ k ∈ gone, s.ksu.uncounted k) (hapart : ∀ k ∈ gone, k ∉ up) :
    ∃ c m h,
      handled s.ksu (fun k => k ∈ up ∧ takes s.ksu.hostMask k = true) (· ∈ gone) c m h ∧
      ((∀ k ∈ gone, ¬s.ksu.loses free k) → gone.foldl g (up.foldl f s) = s.withHolds c m h) ∧
      ((∃ k ∈ gone, s.ksu.loses free k) →
        gone.foldl g (up.foldl f s) = (s.withHolds c m h).releaseStroke) := by
  obtain ⟨c, h, hup, hkeys⟩ := foldl_carry hf up s
  obtain ⟨c', m', h', hgone, hkeys'⟩ := foldl_letGo gone (s.withHolds c s.ksu.stuckMask h)
  have hloses : ∀ k ∈ gone, ((s.withHolds c s.ksu.stuckMask h).ksu.loses free k ↔
      s.ksu.loses free k) := fun k hk => by
    have hc : hasKey c k = hasKey s.ksu.carried k := by simp [(hkeys k).1, hapart k hk]
    simp only [Ksu.loses, State.withHolds, State.withKsu_ksu, hc]
  refine ⟨c', m', h', fun j => ?_, fun hnone => ?_, fun ⟨k, hk, hlost⟩ => ?_⟩
  · obtain ⟨hc, hh⟩ := hkeys j
    obtain ⟨hc', hm', hh'⟩ := hkeys' j
    rw [hc', hm', hh']
    simp only [State.withHolds, State.withKsu_ksu, hc, hh]
    refine ⟨by simp, by simp, fun hj => if_pos hj, fun hj hu => ?_, fun hj hu => ?_⟩
    · rw [if_neg hj, if_pos hu]
    · rw [if_neg hj, if_neg hu]
  · rw [hup, hg, foldl_letGoAs_of_none hnodup fun k hk => (hloses k hk).not.mpr (hnone k hk), hgone]
    rfl
  · rw [hup, hg, foldl_letGoAs_of_some (s := s.withHolds c s.ksu.stuckMask h) hnodup hcount
      ⟨k, hk, (hloses k hk).mpr hlost⟩, hgone]
    rfl

end Sys2Proof.Machine
end

section
/-!
SUPPORT. SET_KEY_POLARITY and SET_KEY_MASK as one change of the keys and one release of the stroke keys
lost (R3, R4), and that both leave stroke assembly in order.
-/

namespace Sys2Proof.Machine

open Sys2Proof Sys2Proof.Rules

/-- The change of the keys takes `s`, and the stroke keys that `gone` names are released at one time. -/
def takenTogether (before : Ksu) (gone : Key → Prop) (s t : State) : Prop :=
  ((∀ k, ¬(strokeKeyDown before k ∧ gone k)) → t = s) ∧
  ∀ k, strokeKeyDown before k → gone k → t = s.releaseStroke

theorem takenTogether.cases {before : Ksu} {gone : Key → Prop} {s t : State}
    (h : takenTogether before gone s t) :
    ((∀ k, strokeKeyDown before k → ¬gone k) ∧ t = s) ∨
      (∃ k, strokeKeyDown before k ∧ gone k) ∧ t = s.releaseStroke := by
  by_cases hlost : ∃ k, strokeKeyDown before k ∧ gone k
  · obtain ⟨k, hk, hgone⟩ := hlost
    exact .inr ⟨⟨k, hk, hgone⟩, h.2 k hk hgone⟩
  · have hnone := not_exists.mp hlost
    exact .inl ⟨fun k hk hgone => hnone k ⟨hk, hgone⟩, h.1 hnone⟩

/-- With the stroke in progress as its state tells, it is the release together of the statements. -/
theorem takenTogether.released {before : Ksu} {gone : Key → Prop} {s t : State}
    (h : takenTogether before gone s t) (hsame : sameStroke before s.ksu)
    (hcut : s.ksu.cutFlag = before.cutFlag) : releasedTogether before gone s t := by
  refine ⟨h.1, fun k c hk hgone hassembling => ?_⟩
  rw [h.2 k hk hgone]
  refine releaseStroke_keyUp_uncut ?_
  obtain ⟨hassembly, -, hstart, hfirst⟩ := hsame
  rwa [assembling, hassembly, hstart, hfirst, hcut]

/-- Keys let go at one time leave stroke assembly in order. -/
theorem takenTogether.inOrder {before : Ksu} {gone : Key → Prop} {s t : State}
    (h : takenTogether before gone s t) (hbefore : assemblyInOrder before)
    (hsame : sameStroke before s.ksu) (hcut : s.ksu.cutFlag = before.cutFlag)
    (keys : ∀ k, keyInOrder s.ksu k)
    (kept : ∀ k, strokeKeyDown before k → ¬gone k → strokeKeyDown s.ksu k) :
    assemblyInOrder t.ksu := by
  have hcut' : s.ksu.cutFlag = false := hcut.trans hbefore.cut
  rcases h.cases with ⟨hnone, rfl⟩ | ⟨⟨k, ⟨hset, -⟩, -⟩, rfl⟩
  · exact kept_inOrder hbefore hsame hcut' keys fun k hk => kept k hk (hnone k hk)
  · rw [← State.withCut_self (releaseStroke_cutFlag hcut')]
    exact releaseStroke_inOrder hbefore hsame (busy_of_strokeKey hbefore hset) keys

/-- The command in execution has no part in it. -/
theorem takenTogether.beginExecution {before : Ksu} {gone : Key → Prop} {s t : State} {c : Byte}
    (h : takenTogether before gone (s.beginExecution c) t) :
    ∃ t', t = t'.beginExecution c ∧ takenTogether before gone s t' := by
  rcases h.cases with ⟨hnone, rfl⟩ | ⟨⟨k, hk, hgone⟩, rfl⟩
  · exact ⟨s, rfl, fun _ => rfl, fun k hk hgone => absurd hgone (hnone k hk)⟩
  · exact ⟨s.releaseStroke, releaseStroke_beginExecution s c,
      fun hnone => absurd ⟨hk, hgone⟩ (hnone k), fun _ _ _ => rfl⟩

/-! ### SET_KEY_POLARITY (R3) -/

theorem keySetOf_of_le {v : Stroke} (hv : v.toNat ≤ 8388607) : keySetOf v = some (v.setWidth 23) :=
  if_pos hv

theorem setWidth_keySet {v : Stroke} (hv : v.toNat ≤ 8388607) :
    (v.setWidth 23 : KeySet).setWidth 24 = v := by
  apply BitVec.eq_of_toNat_eq
  simp only [BitVec.toNat_setWidth]
  omega

/-- What a polarity change does to one key, by what becomes of the key. -/
def turned (b u : Ksu) (k : Key) : Prop :=
  (isDown b k → ¬isDown u k → hasKey u.carried k = false ∧ u.hold[k] = none ∧
    hasKey u.stuckMask k = false) ∧
  (¬isDown b k → isDown u k → hasKey b.hostMask k = false →
    hasKey u.carried k = true ∧ u.hold[k] = some 0 ∧
    hasKey u.stuckMask k = hasKey b.stuckMask k) ∧
  ((isDown b k ↔ isDown u k) ∨ (¬isDown b k ∧ hasKey b.hostMask k = true) →
    u.hold[k] = b.hold[k] ∧ hasKey u.carried k = hasKey b.carried k ∧
    hasKey u.stuckMask k = hasKey b.stuckMask k)

/-- A KSU that differs from `b` only where a polarity change does. -/
def onlyPolarity (b u : Ksu) : Prop :=
  u = { b with
    polarity := u.polarity, carried := u.carried, hold := u.hold, stuckMask := u.stuckMask }

theorem mem_filter_allKeys (set : KeySet) (k : Key) :
    k ∈ allKeys.filter (hasKey set) ↔ hasKey set k = true := by simp [mem_allKeys]

/-- The keys whose meaning a new polarity changes, those that were up and those that were down. -/
theorem turning_iff (b : Ksu) (high : KeySet) (k : Key) :
    (hasKey ((b.polarity ^^^ high) &&& ~~~b.down) k = true ↔
      ¬isDown b k ∧ isDown { b with polarity := high } k) ∧
    (hasKey ((b.polarity ^^^ high) &&& b.down) k = true ↔
      isDown b k ∧ ¬isDown { b with polarity := high } k) := by
  simp only [hasKey_and, hasKey_xor, hasKey_not, Bool.and_eq_true, Bool.not_eq_true', hasKey_down,
    hasKey_down_eq_false]
  simp only [isDown]
  cases hasKey b.accepted k <;> cases hasKey b.polarity k <;> cases hasKey high k <;> decide

theorem cmdSetKeyPolarity_handles (s : State) {v : Stroke} (hv : v.toNat ≤ 8388607) :
    ∃ u t, cmdSetKeyPolarity v s = t.done ∧ onlyPolarity s.ksu u ∧ u.polarity.setWidth 24 = v ∧
      (∀ k, turned s.ksu u k) ∧
      takenTogether s.ksu (fun k => ¬isDown u k) (s.withKsu u) t := by
  obtain ⟨high, hhigh⟩ : ∃ high, high = (v.setWidth 23 : KeySet) := ⟨_, rfl⟩
  obtain ⟨up, hup⟩ : ∃ l, l = allKeys.filter
    (hasKey ((s.ksu.polarity ^^^ high) &&& ~~~s.ksu.down)) := ⟨_, rfl⟩
  obtain ⟨gone, hgone⟩ : ∃ l, l = allKeys.filter
    (hasKey ((s.ksu.polarity ^^^ high) &&& s.ksu.down)) := ⟨_, rfl⟩
  have mem_up : ∀ k, k ∈ up ↔ ¬isDown s.ksu k ∧ isDown { s.ksu with polarity := high } k := by
    intro k; rw [hup, mem_filter_allKeys]; exact (turning_iff s.ksu high k).1
  have mem_gone : ∀ k, k ∈ gone ↔ isDown s.ksu k ∧ ¬isDown { s.ksu with polarity := high } k := by
    intro k; rw [hgone, mem_filter_allKeys]; exact (turning_iff s.ksu high k).2
  have hnodup : gone.Nodup := hgone ▸ nodup_allKeys.filter _
  obtain ⟨c, m, h, hkeys, hnone, hsome⟩ := carry_then_letGo
    (f := fun u k => u.turnKey k false) (g := fun u k => u.turnKey k true)
    (takes := fun host k => !hasKey host k)
    (free := fun k => !hasKey s.ksu.hostMask k && !hasKey s.ksu.stuckMask k)
    (s := s.withKsu { s.ksu with polarity := high }) (up := up) turnKey_false
    (fun c h => foldl_turnKey_true hnodup fun _ _ => rfl) hnodup
    (fun k hk => .inl ((mem_gone k).mp hk).2)
    (fun k hk hk' => ((mem_up k).mp hk').1 ((mem_gone k).mp hk).1)
  have hloses : ∀ k ∈ gone, ({ s.ksu with polarity := high } : Ksu).loses
      (fun k => !hasKey s.ksu.hostMask k && !hasKey s.ksu.stuckMask k) k ↔ strokeKeyDown s.ksu k := by
    intro k hk
    have hdown := ((mem_gone k).mp hk).1
    simp only [Ksu.loses, strokeKeyDown, hdown, Bool.and_eq_true, Bool.not_eq_true']
    tauto
  refine ⟨{ s.ksu with polarity := high, carried := c, stuckMask := m, hold := h },
    gone.foldl (fun u k => u.turnKey k true) (up.foldl (fun u k => u.turnKey k false)
      (s.withKsu { s.ksu with polarity := high })), ?_, rfl,
    hhigh ▸ setWidth_keySet hv, fun k => ?_, fun hkept => ?_, fun k hk hgone => ?_⟩
  · rw [cmdSetKeyPolarity, keySetOf_of_le hv]
    exact congrArg State.done (by rw [hup, hgone, hhigh])
  · refine ⟨fun hd hu => ?_, fun hd hu hhost => ?_, fun hsame => ?_⟩
    · obtain ⟨hc, hm, hh⟩ := hkeys.gone ((mem_gone k).mpr ⟨hd, hu⟩)
      exact ⟨hc, hh, hm⟩
    · obtain ⟨hc, hm, hh⟩ := hkeys.up (fun hk => hd ((mem_gone k).mp hk).1)
        ⟨(mem_up k).mpr ⟨hd, hu⟩, by simp [hhost]⟩
      exact ⟨hc, hh, hm⟩
    · have hnot : k ∉ gone ∧ ¬(k ∈ up ∧ (!hasKey s.ksu.hostMask k) = true) := by
        rw [mem_gone, mem_up]
        rcases hsame with hsame | ⟨hd, hhost⟩
        · exact ⟨fun hk => hk.2 (hsame.mp hk.1), fun hk => hk.1.1 (hsame.mpr hk.1.2)⟩
        · exact ⟨fun hk => hd hk.1, fun hk => by simp [hhost] at hk⟩
      obtain ⟨hc, hm, hh⟩ := hkeys.kept hnot.1 hnot.2
      exact ⟨hh, hc, hm⟩
  · exact hnone fun k hk hlost => hkept k ⟨(hloses k hk).mp hlost, ((mem_gone k).mp hk).2⟩
  · have hk' : k ∈ gone := (mem_gone k).mpr ⟨hk.2.1, hgone⟩
    exact hsome ⟨k, hk', (hloses k hk').mpr hk⟩

/-! ### SET_KEY_MASK (R4) -/

/-- What a change of the host mask does to one key, by what becomes of the key. -/
def remasked (b u : Ksu) (k : Key) : Prop :=
  (isDown b k → hasKey b.stuckMask k = false → hasKey b.hostMask k = false →
    hasKey u.hostMask k = true → hasKey u.carried k = false ∧ u.hold[k] = none) ∧
  (isDown b k → hasKey b.stuckMask k = false → hasKey b.hostMask k = true →
    hasKey u.hostMask k = false → hasKey u.carried k = true ∧ u.hold[k] = some 0) ∧
  (¬isDown b k ∨ hasKey b.stuckMask k = true ∨ hasKey u.hostMask k = hasKey b.hostMask k →
    hasKey u.carried k = hasKey b.carried k ∧ u.hold[k] = b.hold[k])

/-- A KSU that differs from `b` only where a change of the host mask does. -/
def onlyHostMask (b u : Ksu) : Prop :=
  u = { b with hostMask := u.hostMask, carried := u.carried, hold := u.hold }

/-- The keys, down and not stuck, that enter a new host mask, and those that leave it. -/
theorem masking_iff (b : Ksu) (mask : KeySet) (k : Key) :
    (hasKey (mask &&& ~~~b.hostMask &&& (b.down &&& ~~~b.stuckMask)) k = true ↔
      (isDown b k ∧ hasKey b.stuckMask k = false) ∧ hasKey b.hostMask k = false ∧
        hasKey mask k = true) ∧
    (hasKey (b.hostMask &&& ~~~mask &&& (b.down &&& ~~~b.stuckMask)) k = true ↔
      (isDown b k ∧ hasKey b.stuckMask k = false) ∧ hasKey b.hostMask k = true ∧
        hasKey mask k = false) := by
  simp only [hasKey_and, hasKey_not, Bool.and_eq_true, Bool.not_eq_true', hasKey_down]
  exact ⟨⟨fun ⟨⟨hm, hh⟩, hd, hs⟩ => ⟨⟨hd, hs⟩, hh, hm⟩, fun ⟨⟨hd, hs⟩, hh, hm⟩ => ⟨⟨hm, hh⟩, hd, hs⟩⟩,
    ⟨fun ⟨⟨hh, hm⟩, hd, hs⟩ => ⟨⟨hd, hs⟩, hh, hm⟩, fun ⟨⟨hd, hs⟩, hh, hm⟩ => ⟨⟨hh, hm⟩, hd, hs⟩⟩⟩

theorem cmdSetKeyMask_handles (s : State) {v : Stroke} (hv : v.toNat ≤ 8388607) :
    ∃ u t, cmdSetKeyMask v s = t.done ∧ onlyHostMask s.ksu u ∧ u.hostMask.setWidth 24 = v ∧
      (∀ k, remasked s.ksu u k) ∧
      takenTogether s.ksu (fun k => hasKey u.hostMask k = true) (s.withKsu u) t := by
  obtain ⟨mask, hmask⟩ : ∃ mask, mask = (v.setWidth 23 : KeySet) := ⟨_, rfl⟩
  obtain ⟨up, hup⟩ : ∃ l, l = allKeys.filter
    (hasKey (s.ksu.hostMask &&& ~~~mask &&& (s.ksu.down &&& ~~~s.ksu.stuckMask))) := ⟨_, rfl⟩
  obtain ⟨gone, hgone⟩ : ∃ l, l = allKeys.filter
    (hasKey (mask &&& ~~~s.ksu.hostMask &&& (s.ksu.down &&& ~~~s.ksu.stuckMask))) := ⟨_, rfl⟩
  have mem_up : ∀ k, k ∈ up ↔ (isDown s.ksu k ∧ hasKey s.ksu.stuckMask k = false) ∧
      hasKey s.ksu.hostMask k = true ∧ hasKey mask k = false := by
    intro k; rw [hup, mem_filter_allKeys]; exact (masking_iff s.ksu mask k).2
  have mem_gone : ∀ k, k ∈ gone ↔ (isDown s.ksu k ∧ hasKey s.ksu.stuckMask k = false) ∧
      hasKey s.ksu.hostMask k = false ∧ hasKey mask k = true := by
    intro k; rw [hgone, mem_filter_allKeys]; exact (masking_iff s.ksu mask k).1
  have hnodup : gone.Nodup := hgone ▸ nodup_allKeys.filter _
  obtain ⟨c, m, h, hkeys, hnone, hsome⟩ := carry_then_letGo
    (f := State.unmaskKey) (g := State.maskKey) (takes := fun _ _ => true) (free := fun _ => true)
    (s := s.withKsu { s.ksu with hostMask := mask }) (up := up) (fun _ _ => rfl)
    (fun c h => foldl_maskKey hnodup fun k hk => ((mem_gone k).mp hk).1.2) hnodup
    (fun k hk => .inr ((mem_gone k).mp hk).2.2)
    (fun k hk hk' => absurd (((mem_gone k).mp hk).2.1.symm.trans ((mem_up k).mp hk').2.1) (by simp))
  have hloses : ∀ k ∈ gone, ({ s.ksu with hostMask := mask } : Ksu).loses (fun _ => true) k ↔
      strokeKeyDown s.ksu k := by
    intro k hk
    obtain ⟨⟨hdown, hstuck⟩, hhost, -⟩ := (mem_gone k).mp hk
    simp only [Ksu.loses, strokeKeyDown, hdown, hstuck, hhost, true_and]
    exact and_comm
  have hm : m = s.ksu.stuckMask := keySet_ext fun k => by
    by_cases hk : k ∈ gone
    · rw [(hkeys.gone hk).2.1, ((mem_gone k).mp hk).1.2]
    · by_cases hu : k ∈ up ∧ true = true
      · exact (hkeys.up hk hu).2.1
      · exact (hkeys.kept hk hu).2.1
  subst hm
  refine ⟨{ s.ksu with hostMask := mask, carried := c, hold := h },
    gone.foldl State.maskKey (up.foldl State.unmaskKey
      (s.withKsu { s.ksu with hostMask := mask })), ?_, rfl,
    hmask ▸ setWidth_keySet hv, fun k => ?_, fun hkept => ?_, fun k hk hmasked => ?_⟩
  · rw [cmdSetKeyMask, keySetOf_of_le hv]
    exact congrArg State.done (by rw [hup, hgone, hmask])
  · refine ⟨fun hd hs hh hu => ?_, fun hd hs hh hu => ?_, fun hsame => ?_⟩
    · obtain ⟨hc, -, hhold⟩ := hkeys.gone ((mem_gone k).mpr ⟨⟨hd, hs⟩, hh, hu⟩)
      exact ⟨hc, hhold⟩
    · obtain ⟨hc, -, hhold⟩ := hkeys.up (fun hk => absurd (((mem_gone k).mp hk).2.1.symm.trans hh) (by simp))
        ⟨(mem_up k).mpr ⟨⟨hd, hs⟩, hh, hu⟩, rfl⟩
      exact ⟨hc, hhold⟩
    · have hnot : k ∉ gone ∧ ¬(k ∈ up ∧ true = true) := by
        rw [mem_gone, mem_up]
        rcases hsame with hd | hs | hh
        · exact ⟨fun hk => hd hk.1.1, fun hk => hd hk.1.1.1⟩
        · exact ⟨fun hk => absurd (hk.1.2.symm.trans hs) (by simp),
            fun hk => absurd (hk.1.1.2.symm.trans hs) (by simp)⟩
        · exact ⟨fun hk => absurd (hk.2.1.symm.trans (hh.symm.trans hk.2.2)) (by simp),
            fun hk => absurd (hk.1.2.2.symm.trans (hh.trans hk.1.2.1)) (by simp)⟩
      obtain ⟨hc, -, hhold⟩ := hkeys.kept hnot.1 hnot.2
      exact ⟨hc, hhold⟩
  · exact hnone fun k hk hlost => hkept k ⟨(hloses k hk).mp hlost, ((mem_gone k).mp hk).2.2⟩
  · have hk' : k ∈ gone := (mem_gone k).mpr ⟨⟨hk.2.1, hk.2.2.2.1⟩, hk.2.2.1, hmasked⟩
    exact hsome ⟨k, hk', (hloses k hk').mpr hk⟩

/-! ### Both keep stroke assembly in order -/

theorem turned_inOrder {b u : Ksu} {k : Key} (hb : assemblyInOrder b) (hu : onlyPolarity b u)
    (h : turned b u k) : keyInOrder u k := by
  obtain ⟨hcarried, hstuck, hheld, haccount, hdebounce⟩ := keyInOrder_of_assemblyInOrder hb k
  obtain ⟨hup, hdown, hsame⟩ := h
  have hhost : u.hostMask = b.hostMask := by rw [hu]
  have hset : u.strokeSet = b.strokeSet := by rw [hu]
  have hdeb : u.debounce[k] = none ↔ hasKey u.line k = hasKey u.accepted k := by rw [hu]; exact hdebounce
  by_cases hbd : isDown b k <;> by_cases hud : isDown u k
  · obtain ⟨hh, hc, hm⟩ := hsame (.inl (iff_of_true hbd hud))
    refine ⟨?_, fun _ => hud, ?_, ?_, hdeb⟩
    · rw [hc, hm, hhost]; exact fun e => ⟨hud, (hcarried e).2⟩
    · rw [hh, hm, hhost, hheld]; exact and_congr_left fun _ => iff_of_true hbd hud
    · rw [hh, hc, hset]; exact haccount
  · obtain ⟨hc, hh, hm⟩ := hup hbd hud
    exact ⟨by simp [hc], by simp [hm], iff_of_false (by simp [hh]) fun e => hud e.1, by simp [hh], hdeb⟩
  · have hnostuck : hasKey b.stuckMask k = false := Bool.eq_false_iff.mpr fun e => hbd (hstuck e)
    cases hho : hasKey b.hostMask k with
    | true =>
        obtain ⟨hh, hc, hm⟩ := hsame (.inr ⟨hbd, hho⟩)
        have hnone : ¬u.hold[k].isSome = true := by rw [hh, hheld]; exact fun e => hbd e.1
        refine ⟨?_, fun _ => hud, iff_of_false hnone ?_, fun e => absurd e hnone, hdeb⟩
        · rw [hc]; exact fun e => absurd (hcarried e).1 hbd
        · rw [hhost]; exact fun e => absurd (hho.symm.trans e.2.1) (by simp)
    | false =>
        obtain ⟨hc, hh, hm⟩ := hdown hbd hud hho
        have hall : isDown u k ∧ hasKey u.hostMask k = false ∧ hasKey u.stuckMask k = false :=
          ⟨hud, hhost ▸ hho, hm.trans hnostuck⟩
        exact ⟨fun _ => hall, fun _ => hud, iff_of_true (by simp [hh]) hall, fun _ => .inl hc, hdeb⟩
  · obtain ⟨hh, hc, hm⟩ := hsame (.inl (iff_of_false hbd hud))
    refine ⟨?_, ?_, ?_, ?_, hdeb⟩
    · rw [hc]; exact fun e => absurd (hcarried e).1 hbd
    · rw [hm]; exact fun e => absurd (hstuck e) hbd
    · rw [hh, hheld]; exact iff_of_false (fun e => hbd e.1) fun e => hud e.1
    · rw [hh, hc, hset]; exact haccount

/-- A stroke key that does not turn up stays one. -/
theorem turned_kept {b u : Ksu} {k : Key} (hu : onlyPolarity b u) (h : turned b u k)
    (hk : strokeKeyDown b k) (hud : isDown u k) : strokeKeyDown u k := by
  obtain ⟨hset, hbd, hhost, hstuck, hcarried⟩ := hk
  obtain ⟨-, hc, hm⟩ := h.2.2 (.inl (iff_of_true hbd hud))
  refine ⟨?_, hud, ?_, hm.trans hstuck, hc.trans hcarried⟩
  · rw [hu]; exact hset
  · rw [hu]; exact hhost

theorem cmdSetKeyPolarity_inOrder {s : State} (v : Stroke) (h : assemblyInOrder s.ksu) :
    assemblyInOrder (cmdSetKeyPolarity v s).ksu := by
  by_cases hv : v.toNat ≤ 8388607
  · obtain ⟨u, t, hcmd, honly, -, hkeys, htogether⟩ := cmdSetKeyPolarity_handles s hv
    rw [hcmd, (State.done_frame t).1]
    refine htogether.inOrder h ?_ ?_ (fun k => turned_inOrder h honly (hkeys k))
      fun k hk hud => turned_kept honly (hkeys k) hk (not_not.mp hud)
    · rw [honly]; exact ⟨rfl, rfl, rfl, rfl⟩
    · rw [honly]; rfl
  · simpa [cmdSetKeyPolarity, keySetOf, maxKeySet, hv] using h

theorem remasked_inOrder {b u : Ksu} {k : Key} (hb : assemblyInOrder b) (hu : onlyHostMask b u)
    (h : remasked b u k) : keyInOrder u k := by
  obtain ⟨hcarried, hstuck, hheld, haccount, hdebounce⟩ := keyInOrder_of_assemblyInOrder hb k
  obtain ⟨henter, hleave, hsame⟩ := h
  have hdown : isDown u k ↔ isDown b k := by rw [hu]; rfl
  have hm : u.stuckMask = b.stuckMask := by rw [hu]
  have hset : u.strokeSet = b.strokeSet := by rw [hu]
  have hdeb : u.debounce[k] = none ↔ hasKey u.line k = hasKey u.accepted k := by rw [hu]; exact hdebounce
  have hstk : hasKey u.stuckMask k = true → isDown u k := by rw [hm, hdown]; exact hstuck
  by_cases hkeep : ¬isDown b k ∨ hasKey b.stuckMask k = true ∨ hasKey u.hostMask k = hasKey b.hostMask k
  · obtain ⟨hc, hh⟩ := hsame hkeep
    have hcond : (isDown u k ∧ hasKey u.hostMask k = false ∧ hasKey u.stuckMask k = false) ↔
        (isDown b k ∧ hasKey b.hostMask k = false ∧ hasKey b.stuckMask k = false) := by
      rw [hdown, hm]
      rcases hkeep with hd | hs | hho
      · exact iff_of_false (fun e => hd e.1) fun e => hd e.1
      · exact iff_of_false (fun e => absurd (hs.symm.trans e.2.2) (by simp))
          fun e => absurd (hs.symm.trans e.2.2) (by simp)
      · rw [hho]
    refine ⟨?_, hstk, ?_, ?_, hdeb⟩
    · rw [hc, hcond]; exact hcarried
    · rw [hh, hcond]; exact hheld
    · rw [hh, hc, hset]; exact haccount
  · obtain ⟨hbd, hs, hho⟩ : isDown b k ∧ hasKey b.stuckMask k = false ∧
        hasKey u.hostMask k ≠ hasKey b.hostMask k := by simpa [not_or] using hkeep
    cases hbh : hasKey b.hostMask k with
    | false =>
        have huh : hasKey u.hostMask k = true := by simpa [hbh] using hho
        obtain ⟨hc, hh⟩ := henter hbd hs hbh huh
        exact ⟨by simp [hc], hstk, iff_of_false (by simp [hh]) fun e =>
          absurd (huh.symm.trans e.2.1) (by simp), by simp [hh], hdeb⟩
    | true =>
        have huh : hasKey u.hostMask k = false := by simpa [hbh] using hho
        obtain ⟨hc, hh⟩ := hleave hbd hs hbh huh
        have hall : isDown u k ∧ hasKey u.hostMask k = false ∧ hasKey u.stuckMask k = false :=
          ⟨hdown.mpr hbd, huh, hm ▸ hs⟩
        exact ⟨fun _ => hall, hstk, iff_of_true (by simp [hh]) hall, fun _ => .inl hc, hdeb⟩

/-- A stroke key that does not enter the host mask stays one. -/
theorem remasked_kept {b u : Ksu} {k : Key} (hu : onlyHostMask b u) (h : remasked b u k)
    (hk : strokeKeyDown b k) (huh : hasKey u.hostMask k = false) : strokeKeyDown u k := by
  obtain ⟨hset, hbd, hhost, hstuck, hcarried⟩ := hk
  obtain ⟨hc, -⟩ := h.2.2 (.inr (.inr (huh.trans hhost.symm)))
  refine ⟨?_, ?_, huh, ?_, hc.trans hcarried⟩
  · rw [hu]; exact hset
  · rw [hu]; exact hbd
  · rw [hu]; exact hstuck

theorem cmdSetKeyMask_inOrder {s : State} (v : Stroke) (h : assemblyInOrder s.ksu) :
    assemblyInOrder (cmdSetKeyMask v s).ksu := by
  by_cases hv : v.toNat ≤ 8388607
  · obtain ⟨u, t, hcmd, honly, -, hkeys, htogether⟩ := cmdSetKeyMask_handles s hv
    rw [hcmd, (State.done_frame t).1]
    refine htogether.inOrder h ?_ ?_ (fun k => remasked_inOrder h honly (hkeys k))
      fun k hk huh => remasked_kept honly (hkeys k) hk (Bool.not_eq_true _ ▸ huh)
    · rw [honly]; exact ⟨rfl, rfl, rfl, rfl⟩
    · rw [honly]; rfl
  · simpa [cmdSetKeyMask, keySetOf, maxKeySet, hv] using h

end Sys2Proof.Machine
end

section
/-!
SUPPORT. What the operations of the other blocks leave as it was: the keys, the queues and the command in
execution. Once for each operation, so that a statement about the keys or the queues need not look into
it again; and how a command of the other chapters ends.
-/

namespace Sys2Proof.Machine

open Sys2Proof Sys2Proof.Rules

/-- `t` is `s` with nothing done to the keys, to the queues or to the command in execution, but for
strokes taken from the stroke queue, reports put at the tail of theirs, and notices. -/
structure Aside (s t : State) : Prop where
  ksu : t.ksu = s.ksu
  strokes : t.strokeQueue.length ≤ s.strokeQueue.length
  queue : t.cp.queue = s.cp.queue
  executing : t.cp.executing = s.cp.executing
  responses : t.cp.responses = s.cp.responses
  restarts : t.cp.restarts = s.cp.restarts
  reports : s.cp.reports <+: t.cp.reports
  trigger : 1 ≤ s.cp.trigger ∧ s.cp.trigger ≤ 64 → 1 ≤ t.cp.trigger ∧ t.cp.trigger ≤ 64
  spi : t.spi = s.spi
  upkeep : t.mp.upkeep.isSome = s.mp.upkeep.isSome

namespace Aside

theorem refl (s : State) : Aside s s := ⟨rfl, le_rfl, rfl, rfl, rfl, rfl, List.prefix_rfl, id, rfl, rfl⟩

theorem trans {s t u : State} (h : Aside s t) (k : Aside t u) : Aside s u :=
  ⟨k.ksu.trans h.ksu, k.strokes.trans h.strokes, k.queue.trans h.queue,
    k.executing.trans h.executing, k.responses.trans h.responses, k.restarts.trans h.restarts,
    h.reports.trans k.reports, fun e => k.trigger (h.trigger e), k.spi.trans h.spi,
    k.upkeep.trans h.upkeep⟩

/-- An operation that leaves the keys' block, both ports' blocks and the stroke queue alone. -/
theorem of_blocks {s t : State} (hksu : t.ksu = s.ksu) (hqueue : t.strokeQueue = s.strokeQueue)
    (hcp : t.cp = s.cp) (hspi : t.spi = s.spi) (hupkeep : t.mp.upkeep = s.mp.upkeep) : Aside s t := by
  refine ⟨hksu, hqueue ▸ le_rfl, ?_, ?_, ?_, ?_, ?_, ?_, hspi, hupkeep ▸ rfl⟩ <;> simp [hcp]

end Aside

theorem setNotices_aside (s : State) (m : Byte) : Aside s (s.setNotices m) :=
  ⟨rfl, le_rfl, rfl, rfl, rfl, rfl, List.prefix_rfl, id, rfl, rfl⟩

theorem pushReport_aside (s : State) (r : Report) : Aside s (s.pushReport r) :=
  ⟨rfl, le_rfl, rfl, rfl, rfl, rfl, List.prefix_append _ _, id, rfl, rfl⟩

theorem withDict_aside (s : State) (d : Dict) : Aside s (s.withDict d) := .of_blocks rfl rfl rfl rfl rfl

theorem withSlot_aside (s : State) (n : SlotNo) (d : Slot) : Aside s (s.withSlot n d) :=
  .of_blocks rfl rfl rfl rfl rfl

theorem withTe_aside (s : State) (t : Te) : Aside s (s.withTe t) := .of_blocks rfl rfl rfl rfl rfl

theorem withSpeakers_aside (s : State) (v : Vector (List Byte) 16) : Aside s (s.withSpeakers v) :=
  .of_blocks rfl rfl rfl rfl rfl

theorem withChan_aside (s : State) (n : ChanNo) (c : Channel) : Aside s (s.withChan n c) :=
  .of_blocks rfl rfl rfl rfl rfl

theorem withGate_aside (s : State) (n : SlotNo) (g : Gate) : Aside s (s.withGate n g) :=
  .of_blocks rfl rfl rfl rfl rfl

theorem withMp_aside (s : State) (m : Mp) (h : m.upkeep.isSome = s.mp.upkeep.isSome) :
    Aside s (s.withMp m) :=
  ⟨rfl, le_rfl, rfl, rfl, rfl, rfl, List.prefix_rfl, id, rfl, h⟩

/-! ### Changes of the window -/

theorem sendUpdates_aside (s : State) (u : List Update) : Aside s (s.sendUpdates u) :=
  ⟨rfl, le_rfl, rfl, rfl, rfl, rfl, List.prefix_rfl, id, rfl, rfl⟩

theorem settleRecords_aside (s : State) (gone : List Record) : Aside s (s.settleRecords gone) := by
  have hreports : Aside s
      (s.withCp { s.cp with reports := s.cp.reports ++ gone.map Record.settledReport }) :=
    ⟨rfl, le_rfl, rfl, rfl, rfl, rfl, List.prefix_append _ _, id, rfl, rfl⟩
  unfold State.settleRecords
  dsimp only
  split
  · exact hreports.trans (withTe_aside _ _)
  · exact hreports

theorem changeWindow_aside (s : State) (w : List Record) : Aside s (s.changeWindow w) :=
  ((withTe_aside s _).trans (settleRecords_aside _ _)).trans (sendUpdates_aside _ _)

theorem settleOldest_aside (s : State) (r : Record) (w : List Record) : Aside s (s.settleOldest r w) :=
  ((withTe_aside s _).trans (settleRecords_aside _ _)).trans (sendUpdates_aside _ _)

theorem serveSettleDue_aside : ∀ (w : List Record) (s : State), Aside s (serveSettleDue w s)
  | [], s => withTe_aside s _
  | r :: w, s => by
      unfold serveSettleDue
      split
      · exact (settleOldest_aside s r w).trans (serveSettleDue_aside w _)
      · exact .refl s

theorem setRescanPending_aside (s : State) : Aside s s.setRescanPending := withTe_aside s _

theorem signalRescan_aside (s : State) : Aside s s.signalRescan := by
  unfold State.signalRescan
  split
  · exact .refl s
  · exact setRescanPending_aside s

theorem changeNotice_aside (s : State) (o : List Stroke) : Aside s (s.changeNotice o) := by
  unfold State.changeNotice
  split
  · exact setRescanPending_aside s
  · exact .refl s

theorem becomeIdle_aside (s : State) : Aside s s.becomeIdle := withTe_aside s _

theorem completeRescan_aside (s : State) (w : List Record) : Aside s (s.completeRescan w) :=
  (changeWindow_aside s w).trans (becomeIdle_aside _)

/-! ### Resolution and replay -/

theorem replayFrom_aside : ∀ (v : List Stroke) (w : List Record) (s : State), Aside s (replayFrom v w s)
  | [], w, s => completeRescan_aside s w
  | v :: rest, w, s => by
      unfold replayFrom
      split
      · exact withTe_aside s _
      · exact replayFrom_aside rest _ s

theorem testView_aside (s : State) (t : ProbeTable) : Aside s (s.testView t) := by
  unfold State.testView
  split
  · exact setRescanPending_aside s
  · exact .refl s

theorem clearTable_aside (s : State) (t : ProbeTable) : Aside s (s.clearTable t) :=
  (withMp_aside s (s.mp.withdraw (pendingTags t.pairs)) rfl).trans (withTe_aside _ _)

theorem completeResolution_aside (s : State) (t : ProbeTable) (d : Decision) :
    Aside s (s.completeResolution t d) :=
  (((clearTable_aside s t).trans (changeWindow_aside _ _)).trans (testView_aside _ t)).trans
    (becomeIdle_aside _)

theorem completeReplayed_aside (s : State) (t : ProbeTable) (r : Replay) (d : Decision) :
    Aside s (s.completeReplayed t r d) :=
  ((clearTable_aside s t).trans (testView_aside _ t)).trans (replayFrom_aside _ _ _)

theorem tryDecide_aside (s : State) : Aside s s.tryDecide := by
  unfold State.tryDecide
  split
  · exact .refl s
  · split
    · exact .refl s
    · split
      · exact completeResolution_aside s _ _
      · exact completeReplayed_aside s _ _ _

theorem deliver_aside (s : State) (tags : List (Fin 32)) (r : PairResult) : Aside s (s.deliver tags r) :=
  (withTe_aside s _).trans (tryDecide_aside _)

theorem undo_aside (s : State) : Aside s s.undo := (changeWindow_aside s _).trans (becomeIdle_aside _)

theorem resolve_aside (s : State) (v : Stroke) : Aside s (s.resolve v) :=
  (withTe_aside s _).trans (tryDecide_aside _)

theorem takeStroke_aside (s : State) (r : StrokeRecord) (rest : List StrokeRecord)
    (h : s.strokeQueue = r :: rest) : Aside s (s.takeStroke r rest) := by
  have htaken : Aside s (s.withStrokeQueue rest) :=
    ⟨rfl, by simp [h], rfl, rfl, rfl, rfl, List.prefix_rfl, id, rfl, rfl⟩
  have hreported := (htaken.trans (pushReport_aside _ (s.strokeReport r))).trans
    (withTe_aside _ s.te.restartTimer)
  unfold State.takeStroke
  dsimp only
  split
  · split
    · exact hreported
    · exact hreported.trans (undo_aside _)
  · exact hreported.trans (resolve_aside _ _)

theorem serviceStroke_aside (s : State) : Aside s s.serviceStroke := by
  unfold State.serviceStroke
  split
  · exact .refl s
  · next r rest h =>
    split
    · exact takeStroke_aside s r rest h
    · exact .refl s

theorem beginRescan_aside (s : State) : Aside s s.beginRescan := by
  unfold State.beginRescan
  dsimp only
  split
  · exact withTe_aside s _
  · exact ((withTe_aside s _).trans (withTe_aside _ _)).trans (replayFrom_aside _ _ _)

theorem serviceOrder_aside (s : State) : Aside s s.serviceOrder := by
  unfold State.serviceOrder
  split
  · exact beginRescan_aside s
  · split
    · exact serveSettleDue_aside _ s
    · exact serviceStroke_aside s

/-! ### Slots and access -/

theorem noteViewChange_aside (s : State) : Aside s s.noteViewChange := withTe_aside s _

theorem answerMiss_aside (s : State) (n : SlotNo) : Aside s (s.answerMiss n) :=
  (withMp_aside s (s.mp.withdraw (s.mp.waitingInto n)) rfl).trans (deliver_aside _ _ _)

theorem giveAccess_aside (s : State) (n : SlotNo) (a : Access) : Aside s (s.giveAccess n a) := by
  have hslot := withSlot_aside s n { s.slot n with access := a }
  have hview := (hslot.trans (signalRescan_aside _)).trans (noteViewChange_aside _)
  unfold State.giveAccess
  dsimp only
  split
  · exact hslot
  · split
    · exact hview
    · exact hview.trans (answerMiss_aside _ n)

/-! ### How a command ends -/

/-- A command that has changed `s` as `R` says ends: it answers, or its operation claims a gate (R166). -/
def commandEnds (R : State → State → Prop) (s t : State) : Prop :=
  ∃ u, R s u ∧ ((∃ st d, t = u.respond st d) ∨ ∃ n op, t = u.beginUpkeep n op)

theorem commandEnds.respond {R : State → State → Prop} {s u : State} (h : R s u) (st : Status)
    (d : List Byte) : commandEnds R s (u.respond st d) := ⟨u, h, .inl ⟨st, d, rfl⟩⟩

theorem commandEnds.done {R : State → State → Prop} {s u : State} (h : R s u) :
    commandEnds R s u.done := .respond h _ _

theorem commandEnds.refuse (s : State) (st : Status) : commandEnds Aside s (s.refuse st) :=
  .respond (Aside.refl s) _ _

theorem commandEnds.claim {R : State → State → Prop} {s u : State} (h : R s u) (n : SlotNo)
    (op : UpkeepOp) : commandEnds R s (u.beginUpkeep n op) := ⟨u, h, .inr ⟨n, op, rfl⟩⟩

/-- The commands of chapter 1. -/
def ofKeyboard : Command → Bool
  | .setKeyTiming .. | .setKeyPolarity .. | .setKeyMask .. | .setStacking .. | .injectStroke ..
  | .setClock .. | .keyInfo .. => true
  | _ => false

theorem cmdSetMemory_ends (mib : Byte) (s : State) : commandEnds Aside s (cmdSetMemory mib s) := by
  unfold cmdSetMemory
  split
  · exact .refuse s _
  · split
    · exact .refuse s _
    · exact .done (withDict_aside s _)

theorem cmdSetWindow_ends (n : Byte) (b z : BitVec 32) (s : State) :
    commandEnds Aside s (cmdSetWindow n b z s) := by
  unfold cmdSetWindow
  repeat' split
  any_goals exact .refuse s _
  exact .done (withSlot_aside s _ _)

theorem cmdFormat_ends (n : Byte) (b : BitVec 32) (s : State) :
    commandEnds Aside s (cmdFormat n b s) := by
  unfold cmdFormat
  repeat' split
  any_goals exact .refuse s _
  exact .claim (withSlot_aside s _ _) _ _

theorem cmdReleaseSlot_ends (n : Byte) (s : State) : commandEnds Aside s (cmdReleaseSlot n s) := by
  unfold cmdReleaseSlot
  repeat' split
  any_goals exact .refuse s _
  exact .claim (.refl s) _ _

theorem cmdSetAccess_ends (n a : Byte) (s : State) : commandEnds Aside s (cmdSetAccess n a s) := by
  unfold cmdSetAccess
  repeat' split
  any_goals exact .refuse s _
  exact .done (giveAccess_aside s _ _)

theorem cmdSetRanks_ends (a b c d : Byte) (s : State) :
    commandEnds Aside s (cmdSetRanks a b c d s) := by
  unfold cmdSetRanks
  split
  · exact .refuse s _
  · exact .done (((withDict_aside s _).trans (signalRescan_aside _)).trans (noteViewChange_aside _))

theorem cmdLockSlot_ends (n : Byte) (s : State) : commandEnds Aside s (cmdLockSlot n s) := by
  unfold cmdLockSlot
  repeat' split
  any_goals exact .refuse s _
  exact .done (withSlot_aside s _ _)

theorem cmdSlotInfo_ends (n : Byte) (s : State) : commandEnds Aside s (cmdSlotInfo n s) := by
  unfold cmdSlotInfo
  split
  · exact .refuse s _
  · exact .respond (.refl s) _ _

theorem cmdEntryWrite_ends (k : EntryKind) (n : Byte) (o : List Stroke) (f : Byte) (t : List Byte)
    (s : State) : commandEnds Aside s (cmdEntryWrite k n o f t s) := by
  unfold cmdEntryWrite
  repeat' split
  any_goals exact .refuse s _
  · exact .respond (setNotices_aside s _) _ _
  · exact .claim (.refl s) _ _

theorem cmdFetchEntry_ends (n : Byte) (o : List Stroke) (s : State) :
    commandEnds Aside s (cmdFetchEntry n o s) := by
  unfold cmdFetchEntry cmdFetchAny cmdFetchNamed
  repeat' split
  any_goals exact .refuse s _
  all_goals exact .claim (.refl s) _ _

theorem cmdSetMaintShare_ends (v : Byte) (s : State) : commandEnds Aside s (cmdSetMaintShare v s) := by
  unfold cmdSetMaintShare
  split
  · exact .done (withMp_aside s _ rfl)
  · exact .refuse s _

theorem cmdStart_ends (s : State) : commandEnds Aside s (cmdStart s) := by
  unfold cmdStart
  dsimp only
  split
  · exact .done (((withTe_aside s _).trans (withTe_aside _ _)).trans (serviceOrder_aside _))
  · exact .done (withTe_aside s _)

theorem cmdWindowInfo_ends (r : Byte) (s : State) : commandEnds Aside s (cmdWindowInfo r s) := by
  unfold cmdWindowInfo
  repeat' split
  any_goals exact .refuse s _
  all_goals exact .respond (.refl s) _ _

theorem cmdSetSpeaker_ends (n : Byte) (l : List Byte) (s : State) :
    commandEnds Aside s (cmdSetSpeaker n l s) := by
  unfold cmdSetSpeaker
  repeat' split
  any_goals exact .refuse s _
  exact .done ((withSpeakers_aside s _).trans (signalRescan_aside _))

theorem cmdSetChannel_ends (ch m f : Byte) (d r : BitVec 16) (st ka : Byte) (s : State) :
    commandEnds Aside s (cmdSetChannel ch m f d r st ka s) := by
  unfold cmdSetChannel
  repeat' split
  any_goals exact .refuse s _
  exact .done (withChan_aside s _ _)

theorem cmdChannelOn_ends (ch : Byte) (s : State) : commandEnds Aside s (cmdChannelOn ch s) := by
  unfold cmdChannelOn
  repeat' split
  any_goals exact .refuse s _
  exact .done (withChan_aside s _ _)

theorem cmdChannelOff_ends (ch : Byte) (s : State) : commandEnds Aside s (cmdChannelOff ch s) := by
  unfold cmdChannelOff
  repeat' split
  · exact .refuse s _
  · exact .done (.refl s)
  · exact .done (withChan_aside s _ _)

theorem cmdChannelInfo_ends (ch : Byte) (s : State) : commandEnds Aside s (cmdChannelInfo ch s) := by
  unfold cmdChannelInfo
  split
  · exact .refuse s _
  · exact .respond (.refl s) _ _

/-- A command of another chapter than the keyboard's touches neither keys nor queues before it ends. -/
theorem runCommand_ends (c : Command) (h : ofKeyboard c = false) (s : State) :
    commandEnds Aside s (runCommand c s) := by
  cases c with
  | setKeyTiming | setKeyPolarity | setKeyMask | setStacking | injectStroke | setClock | keyInfo =>
      simp [ofKeyboard] at h
  | setMemory mib => exact cmdSetMemory_ends mib s
  | setWindow n b z => exact cmdSetWindow_ends n b z s
  | format n b => exact cmdFormat_ends n b s
  | releaseSlot n => exact cmdReleaseSlot_ends n s
  | setAccess n a => exact cmdSetAccess_ends n a s
  | setRanks a b c d => exact cmdSetRanks_ends a b c d s
  | lockSlot n => exact cmdLockSlot_ends n s
  | slotInfo n => exact cmdSlotInfo_ends n s
  | addEntry n o f t => exact cmdEntryWrite_ends .add n o f t s
  | replaceEntry n o f t => exact cmdEntryWrite_ends .replace n o f t s
  | retireEntry n o => exact cmdEntryWrite_ends .retire n o 0 [] s
  | fetchEntry n o => exact cmdFetchEntry_ends n o s
  | setMaintShare v => exact cmdSetMaintShare_ends v s
  | start => exact cmdStart_ends s
  | stop => exact .done (withTe_aside s _)
  | windowInfo r => exact cmdWindowInfo_ends r s
  | setSpeaker n l => exact cmdSetSpeaker_ends n l s
  | setSettleTime v => exact .done (withTe_aside s _)
  | flush => exact .done (withTe_aside s _)
  | setChannel ch m f d r st ka => exact cmdSetChannel_ends ch m f d r st ka s
  | channelOn ch => exact cmdChannelOn_ends ch s
  | channelOff ch => exact cmdChannelOff_ends ch s
  | channelInfo ch => exact cmdChannelInfo_ends ch s
  | clearNotices m =>
      exact .respond ⟨rfl, le_rfl, rfl, rfl, rfl, rfl, List.prefix_rfl, id, rfl, rfl⟩ _ _
  | setInterrupts r p m t =>
      refine .done ⟨rfl, le_rfl, rfl, rfl, rfl, rfl, List.prefix_rfl, fun _ => ?_, rfl, rfl⟩
      simp only [State.withCp_cp, clamp]
      omega

/-! ### The moves of the part that end no command -/

theorem grantLookup_aside (s : State) (n : SlotNo) (c : Nat) : Aside s (s.grantLookup n c) :=
  withMp_aside s _ rfl

theorem grantUpkeep_aside {s : State} {op : UpkeepOp} (h : s.mp.upkeep = some op) (c : Nat) :
    Aside s (s.grantUpkeep op c) :=
  ⟨rfl, le_rfl, rfl, rfl, rfl, rfl, List.prefix_rfl, id, rfl, by rw [h]; rfl⟩

/-- The access that the upkeep engine has ready is its operation's. -/
theorem upkeepAccess_upkeep {s : State} {op : UpkeepOp} {c : Nat} (h : s.upkeepAccess = some (op, c)) :
    s.mp.upkeep = some op := by
  unfold State.upkeepAccess at h
  split at h
  · cases h
  · next o ho =>
    split at h
    · obtain ⟨_, _, he⟩ := Option.map_eq_some_iff.mp h
      rw [ho, (Prod.mk.inj he).1]
    · cases h

theorem noteLapse_aside (s : State) (n : ChanNo) (b : Bool) : Aside s (s.noteLapse n b) := by
  unfold State.noteLapse
  split
  · exact setNotices_aside s _
  · exact .refl s

/-- The moves of the arbiter, the TE and the channels that take no claim at a gate. -/
def movesAside : Instr → Bool
  | .arbiterGrant _ | .takeStroke | .settleDueService | .settleTimerExpiry | .rescan
  | .transmitByte _ | .byteComplete _ | .inboundByte .. | .fclrChange .. | .breakReceived _
  | .stallTimerExpiry _ | .keepaliveTimerExpiry _ | .returnToMark _ => true
  | _ => false

theorem exec_aside {i : Instr} (h : movesAside i = true) {s t : State} (hexec : exec i s = .next t) :
    Aside s t := by
  cases i with
  | arbiterGrant n =>
      cases hexec
      split
      · exact .refl s
      · exact grantLookup_aside s _ _
      · next hup => exact grantUpkeep_aside (upkeepAccess_upkeep hup) _
      · next hup =>
        split
        · exact grantLookup_aside s _ _
        · exact grantUpkeep_aside (upkeepAccess_upkeep hup) _
  | takeStroke => cases hexec; exact serviceStroke_aside s
  | settleDueService =>
      cases hexec
      split
      · exact serveSettleDue_aside _ s
      · exact .refl s
  | settleTimerExpiry =>
      cases hexec
      split
      · exact (withTe_aside s _).trans (withTe_aside _ _)
      · exact .refl s
  | rescan =>
      cases hexec
      split
      · exact beginRescan_aside s
      · exact .refl s
  | inboundByte n sampled stopBit =>
      cases hexec
      split
      · exact withChan_aside s _ _
      · exact .refl s
  | breakReceived n => cases hexec; exact (withChan_aside s _ _).trans (noteLapse_aside _ _ _)
  | stallTimerExpiry n =>
      cases hexec
      split
      · exact (withChan_aside s _ _).trans (noteLapse_aside _ _ _)
      · exact .refl s
  | transmitByte | byteComplete | fclrChange | keepaliveTimerExpiry | returnToMark =>
      cases hexec; exact withChan_aside s _ _
  | _ => cases h

end Sys2Proof.Machine
end

section
/-!
PROOF. Every step keeps stroke assembly in order (R2, R6 to R10, R12, R14, R19, R20): each operation on keys
keeps it, and every other operation leaves the keys alone.
-/

namespace Sys2Proof.Machine

open Sys2Proof Sys2Proof.Rules

/-! ### The operations on keys -/

/-- The debounce timers after a change of level, by whether the line returns to its key's accepted level,
and whether the timer is running (R2). -/
theorem lineTo_debounce_of_accepted {u : Ksu} {k : Key} {high : Bool}
    (h : high = hasKey u.accepted k) : (u.lineTo k high).debounce = setTimer u.debounce k none :=
  if_pos h

theorem lineTo_debounce_of_idle {u : Ksu} {k : Key} {high : Bool} (h : high ≠ hasKey u.accepted k)
    (hidle : u.debounce[k] = none) :
    (u.lineTo k high).debounce = setTimer u.debounce k (some u.debounceTime) := by
  simp only [Ksu.lineTo, if_neg h, hidle]

theorem lineTo_debounce_of_running {u : Ksu} {k : Key} {high : Bool} (h : high ≠ hasKey u.accepted k)
    (hrunning : u.debounce[k].isSome = true) : (u.lineTo k high).debounce = u.debounce := by
  obtain ⟨n, hn⟩ := Option.isSome_iff_exists.mp hrunning
  simp only [Ksu.lineTo, if_neg h, hn]

/-- A change of one line's level leaves the other lines' timers as they were. -/
theorem lineTo_debounce_other (u : Ksu) {k j : Key} (high : Bool) (hj : j ≠ k) :
    (u.lineTo k high).debounce[j] = u.debounce[j] := by
  by_cases h : high = hasKey u.accepted k
  · rw [lineTo_debounce_of_accepted h, getElem_setTimer, if_neg hj]
  · cases hd : u.debounce[k] with
    | none => rw [lineTo_debounce_of_idle h hd, getElem_setTimer, if_neg hj]
    | some n => rw [lineTo_debounce_of_running h (by simp [hd])]

theorem lineTo_inOrder {u : Ksu} (k : Key) (high : Bool) (h : assemblyInOrder u) :
    assemblyInOrder (u.lineTo k high) := by
  refine { h with debounce := fun j => ?_ }
  have hline : hasKey (u.lineTo k high).line j = if j = k then high else hasKey u.line j :=
    hasKey_putKey _ _ _ _
  rw [hline]
  by_cases hj : j = k
  · subst hj
    rw [if_pos rfl]
    by_cases ha : high = hasKey u.accepted j
    · rw [lineTo_debounce_of_accepted ha, getElem_setTimer, if_pos rfl]
      exact iff_of_true rfl ha
    · refine iff_of_false ?_ ha
      cases hd : u.debounce[j] with
      | none => simp [lineTo_debounce_of_idle ha hd, getElem_setTimer, -Fin.getElem_fin]
      | some n => simp [lineTo_debounce_of_running ha (by simp [hd]), hd, -Fin.getElem_fin]
  · rw [lineTo_debounce_other u high hj, if_neg hj]
    exact h.debounce j

/-- The stroke clock and what running hold timers have measured have no part in the order. -/
theorem inOrder_of_hold {u : Ksu} (h : assemblyInOrder u) (clock : BitVec 32)
    {hold : Vector (Option Nat) 23} (hh : ∀ k : Key, hold[k].isSome = u.hold[k].isSome) :
    assemblyInOrder { u with clock := clock, hold := hold } :=
  { h with
    held := fun k => (by rw [hh k] : hold[k].isSome = true ↔ u.hold[k].isSome = true).trans (h.held k)
    accounted := fun k hk => h.accounted k ((hh k).symm.trans hk) }

theorem tick_hold (t : Vector (Option Nat) 23) (k : Key) :
    (Vector.ofFn fun k : Key => t[k].map (· + 1))[k] = t[k].map (· + 1) := by simp

/-- A hard reset starts a debounce timer on every line that is low (R2, R20). -/
theorem hardReset_debounce (u : Ksu) (k : Key) :
    u.hardReset.debounce[k] = if hasKey u.line k then none else some 10 := by
  simp [Ksu.hardReset, Ksu.reset]

theorem hardReset_inOrder (u : Ksu) : assemblyInOrder u.hardReset where
  cut := rfl
  idle := fun _ => ⟨rfl, rfl, rfl⟩
  chord := nofun
  release := nofun
  inProgress := fun h => absurd rfl h
  carried := fun k h => by simp [Ksu.hardReset, Ksu.reset] at h
  stuck := fun k h => by simp [Ksu.hardReset, Ksu.reset] at h
  held := fun k => iff_of_false (by simp [Ksu.hardReset, Ksu.reset]) fun hd => by
    have hdown : hasKey (BitVec.allOnes 23) k = hasKey 0#23 k := hd.1
    rw [hasKey_allOnes, hasKey_zero] at hdown
    cases hdown
  accounted := fun k h => by simp [Ksu.hardReset, Ksu.reset] at h
  debounce := fun k => by
    rw [hardReset_debounce]
    change _ ↔ hasKey u.line k = hasKey (BitVec.allOnes 23) k
    rw [hasKey_allOnes]
    cases hasKey u.line k <;> simp

theorem restartKeys_inOrder {s : State} (h : assemblyInOrder s.ksu) :
    assemblyInOrder s.restartKeys.ksu where
  cut := rfl
  idle := fun _ => ⟨rfl, rfl, rfl⟩
  chord := nofun
  release := nofun
  inProgress := fun h => absurd rfl h
  carried := fun k hk => (hasKey_downUnmasked s.ksu k).mp hk
  stuck := h.stuck
  held := h.held
  accounted := fun k hk => .inl ((hasKey_downUnmasked s.ksu k).mpr ((h.held k).mp hk))
  debounce := h.debounce

/-- SET_CLOCK moves the times of the stroke in progress and leaves them there (R15). -/
theorem cmdSetClock_inOrder {s : State} (v : BitVec 32) (h : assemblyInOrder s.ksu) :
    assemblyInOrder (cmdSetClock v s).ksu := by
  have hset : assemblyInOrder { s.ksu with
      clock := v
      chordStart := s.ksu.chordStart.map (· + (v - s.ksu.clock))
      firstRelease := s.ksu.firstRelease.map (· + (v - s.ksu.clock)) } :=
    { h with
      idle := fun hi => by
        obtain ⟨hs, hc, hf⟩ := h.idle hi
        exact ⟨hs, by rw [hc]; rfl, by rw [hf]; rfl⟩
      chord := fun hc => by
        obtain ⟨hs, hf, hall⟩ := h.chord hc
        exact ⟨by simpa using hs, by rw [hf]; rfl, hall⟩
      release := fun hr => by simpa using h.release hr }
  simpa [cmdSetClock] using hset

theorem releaseKey_hold (s : State) (k : Key) :
    (s.releaseKey k).ksu.hold = setTimer s.ksu.hold k none ∨ (s.releaseKey k).ksu.hold = s.ksu.hold := by
  rw [releaseKey_eq]
  split
  · exact .inl rfl
  · split
    · exact .inl (releaseStroke_holds _).2.2
    · exact .inr rfl

/-- A cut changes no other key's hold timer. -/
theorem cutKey_hold (s : State) {k j : Key} (hj : j ≠ k) : (s.cutKey k).ksu.hold[j] = s.ksu.hold[j] := by
  have hstop : (setTimer s.ksu.hold k none)[j] = s.ksu.hold[j] := by rw [getElem_setTimer, if_neg hj]
  have hrelease : ∀ u : State, (u.releaseKey k).ksu.hold[j] = u.ksu.hold[j] := fun u => by
    rcases releaseKey_hold u k with h | h
    · rw [h, getElem_setTimer, if_neg hj]
    · rw [h]
  rw [cutKey_eq]
  split
  · exact (hrelease _).trans hstop
  · exact hstop

/-- Keys whose hold timers run are cut one after another. -/
theorem foldl_cutKey_inOrder : ∀ (l : List Key) (s : State), l.Nodup →
    (∀ k ∈ l, s.ksu.hold[k].isSome = true) → assemblyInOrder s.ksu →
    assemblyInOrder (l.foldl State.cutKey s).ksu
  | [], _, _, _, h => h
  | k :: l, s, hnodup, hheld, h => by
      obtain ⟨hk, hl⟩ := List.nodup_cons.mp hnodup
      refine foldl_cutKey_inOrder l (s.cutKey k) hl (fun j hj => ?_)
        (cutKey_inOrder h (hheld k List.mem_cons_self))
      rw [cutKey_hold s (ne_of_mem_of_not_mem hj hk)]
      exact hheld j (List.mem_cons_of_mem k hj)

theorem overdue_eq (u : Ksu) :
    u.overdue = allKeys.filter fun k => u.hold[k].any fun run => decide (u.stuckLimit ≤ run) := by
  unfold Ksu.overdue
  congr 1
  funext k
  cases u.hold[k] <;> rfl

theorem mem_overdue {u : Ksu} {k : Key} (h : k ∈ u.overdue) : u.hold[k].isSome = true := by
  rw [overdue_eq, List.mem_filter] at h
  cases hk : u.hold[k] with
  | none => simp [hk, -Fin.getElem_fin] at h
  | some _ => rfl

theorem cmdSetKeyTiming_inOrder {s : State} (d g : Byte) (st : BitVec 16) (h : assemblyInOrder s.ksu) :
    assemblyInOrder (cmdSetKeyTiming d g st s).ksu := by
  rw [cmdSetKeyTiming, (State.done_frame _).1]
  exact foldl_cutKey_inOrder _ _ (nodup_allKeys.filter _) (fun k hk => mem_overdue hk) { h with }

theorem cmdSetStacking_inOrder {s : State} (v : Byte) (h : assemblyInOrder s.ksu) :
    assemblyInOrder (cmdSetStacking v s).ksu := by
  unfold cmdSetStacking
  split
  · simpa using h
  · rw [(State.done_frame _).1]; exact { h with }

theorem cmdInjectStroke_ksu (v : Stroke) (s : State) : (cmdInjectStroke v s).ksu = s.ksu := by
  unfold cmdInjectStroke
  repeat' split
  all_goals simp

theorem cmdKeyInfo_inOrder {s : State} (v : Byte) (h : assemblyInOrder s.ksu) :
    assemblyInOrder (cmdKeyInfo v s).ksu := by
  unfold cmdKeyInfo
  split
  · simpa using h
  · simpa using h
  · rw [(State.respond_frame _ _ _).1]; exact { h with }

/-! ### Commands -/

theorem runCommand_inOrder {s : State} (c : Command) (h : assemblyInOrder s.ksu) :
    assemblyInOrder (runCommand c s).ksu := by
  cases hc : ofKeyboard c with
  | false =>
      obtain ⟨u, hu, ⟨st, d, hend⟩ | ⟨n, op, hend⟩⟩ := runCommand_ends c hc s
      · rw [hend, (State.respond_frame _ _ _).1, hu.ksu]; exact h
      · rw [hend, (State.beginUpkeep_frame _ _ _).1, hu.ksu]; exact h
  | true =>
      cases c with
      | setKeyTiming d g st => exact cmdSetKeyTiming_inOrder d g st h
      | setKeyPolarity v => exact cmdSetKeyPolarity_inOrder v h
      | setKeyMask v => exact cmdSetKeyMask_inOrder v h
      | setStacking v => exact cmdSetStacking_inOrder v h
      | injectStroke v => rw [runCommand, cmdInjectStroke_ksu]; exact h
      | setClock v => exact cmdSetClock_inOrder v h
      | keyInfo v => exact cmdKeyInfo_inOrder v h
      | _ => simp [ofKeyboard] at hc

theorem beginFrame_inOrder {s : State} (f : Frame) (rest : List Frame) (h : assemblyInOrder s.ksu) :
    assemblyInOrder (s.beginFrame f rest).ksu := by
  have hbegun : assemblyInOrder
      ((s.withCp { s.cp with queue := rest }).beginExecution (echoOf f.bytes)).ksu := h
  unfold State.beginFrame
  dsimp only
  split
  · exact runCommand_inOrder _ hbegun
  · rw [(State.refuse_frame _ _).1]; exact hbegun

theorem hostCommand_inOrder {s : State} (c : Command) (h : assemblyInOrder s.ksu) :
    assemblyInOrder (hostCommand c (runCommand c) s).ksu := by
  unfold hostCommand
  split
  · exact runCommand_inOrder c (s := s.beginExecution c.code) h
  · rw [(State.placeFrame_frame _ _).1]; exact h

/-! ### RESTART -/

theorem restartEffect_inOrder {s : State} (h : assemblyInOrder s.ksu) :
    assemblyInOrder s.restartEffect.ksu := restartKeys_inOrder h

theorem restartIfFree_inOrder {s : State} (h : assemblyInOrder s.ksu) :
    assemblyInOrder s.restartIfFree.ksu := by
  unfold State.restartIfFree
  split
  · exact restartEffect_inOrder h
  · exact h

theorem takeRestart_inOrder {s : State} (h : assemblyInOrder s.ksu) :
    assemblyInOrder s.takeRestart.ksu := by
  unfold State.takeRestart
  dsimp only
  split
  · refine restartIfFree_inOrder ?_
    rw [(State.cutCommand_frame _).1]
    exact h
  · split
    · exact restartIfFree_inOrder h
    · exact h

theorem takeFrame_inOrder {s : State} (f : Frame) (h : assemblyInOrder s.ksu) :
    assemblyInOrder (s.takeFrame f).ksu := by
  unfold State.takeFrame
  split
  · exact takeRestart_inOrder h
  · rw [(State.placeFrame_frame _ _).1]; exact h

/-! ### Transactions -/

theorem leadByte_ksu (s : State) (b : Byte) : (s.leadByte b).ksu = s.ksu := by
  unfold State.leadByte
  repeat' split
  all_goals rfl

theorem selectFall_ksu (s : State) : s.selectFall.ksu = s.ksu := by
  unfold State.selectFall
  split <;> rfl

/-- A transaction keeps what its end keeps, where the moments before it leave that alone. -/
theorem transact_keeps {shifted : Type} {P : State → Prop} {s : State} (part : SpiPart shifted)
    {lead : State → State} {rise : shifted → State → State} (h : P s)
    (hfall : ∀ u, P u → P u.selectFall) (hlead : ∀ u, P u → P (lead u))
    (hrise : ∀ x u, P u → P (rise x u)) : P (s.transact part lead rise) := by
  cases part with
  | whole x =>
      unfold State.transact
      dsimp only
      split
      · exact hrise x _ (hlead _ (hfall s h))
      · exact h
  | fall => exact hfall s h
  | lead => exact hlead s h
  | rise x => exact hrise x s h

/-- The rise of SPSEL keeps what its effect keeps, where the port has no part in it. -/
theorem selectRise_keeps {P : State → Prop} {s : State} (kind : Option Transfer) (n : Nat)
    {effect : Transaction → State → State} (h : P s)
    (hport : ∀ u bits, P u → P ((u.withSpi .idle).withSpdo bits))
    (heffect : ∀ t u, s.spi = .busy t → t.kind = kind → u.spi = .idle → P u → P (effect t u)) :
    P (s.selectRise kind n effect) := by
  unfold State.selectRise
  split
  · next t hspi =>
    split
    · next hkind => exact heffect t _ hspi hkind rfl (hport s _ h)
    · exact h
  · exact h
  · exact hport s _ h

theorem transact_inOrder {shifted : Type} {s : State} (part : SpiPart shifted) {lead : State → State}
    {rise : shifted → State → State} (h : assemblyInOrder s.ksu)
    (hlead : ∀ u, (lead u).ksu = u.ksu)
    (hrise : ∀ x u, assemblyInOrder u.ksu → assemblyInOrder (rise x u).ksu) :
    assemblyInOrder (s.transact part lead rise).ksu :=
  transact_keeps (P := fun u => assemblyInOrder u.ksu) part h
    (fun u hu => (selectFall_ksu u).symm ▸ hu) (fun u hu => (hlead u).symm ▸ hu) hrise

theorem selectRise_inOrder {s : State} (kind : Option Transfer) (n : Nat)
    {effect : Transaction → State → State} (h : assemblyInOrder s.ksu)
    (heffect : ∀ t u, assemblyInOrder u.ksu → assemblyInOrder (effect t u).ksu) :
    assemblyInOrder (s.selectRise kind n effect).ksu :=
  selectRise_keeps (P := fun u => assemblyInOrder u.ksu) kind n h (fun _ _ hu => hu)
    fun t u _ _ _ hu => heffect t u hu

/-! ### Every step -/

/-- The command a row of the table stands for, where it stands for one (9.12). -/
def commandOf : Instr → Option Command
  | .setKeyTiming d g st => some (.setKeyTiming d g st)
  | .setKeyPolarity v => some (.setKeyPolarity v)
  | .setKeyMask v => some (.setKeyMask v)
  | .setStacking v => some (.setStacking v)
  | .injectStroke v => some (.injectStroke v)
  | .setClock v => some (.setClock v)
  | .keyInfo v => some (.keyInfo v)
  | .setMemory v => some (.setMemory v)
  | .setWindow n b z => some (.setWindow n b z)
  | .format n b => some (.format n b)
  | .releaseSlot n => some (.releaseSlot n)
  | .setAccess n a => some (.setAccess n a)
  | .setRanks a b c d => some (.setRanks a b c d)
  | .lockSlot n => some (.lockSlot n)
  | .slotInfo n => some (.slotInfo n)
  | .addEntry n o f t => some (.addEntry n o f t)
  | .replaceEntry n o f t => some (.replaceEntry n o f t)
  | .retireEntry n o => some (.retireEntry n o)
  | .fetchEntry n o => some (.fetchEntry n o)
  | .fetchEntryAny o => some (.fetchEntry anySlot o)
  | .setMaintShare v => some (.setMaintShare v)
  | .start => some .start
  | .stop => some .stop
  | .windowInfo => some (.windowInfo 0)
  | .windowInfoRecord v => some (.windowInfo v)
  | .setSpeaker n l => some (.setSpeaker n l)
  | .setSettleTime v => some (.setSettleTime v)
  | .flush => some .flush
  | .setChannel ch m f d r st ka => some (.setChannel ch m f d r st ka)
  | .channelOn ch => some (.channelOn ch)
  | .channelOff ch => some (.channelOff ch)
  | .channelInfo ch => some (.channelInfo ch)
  | .clearNotices m => some (.clearNotices m)
  | .setInterrupts r p m t => some (.setInterrupts r p m t)
  | _ => none

/-- A row that stands for a command is the arrival of its frame. -/
theorem exec_of_command {i : Instr} {c : Command} (h : commandOf i = some c) (s : State) :
    exec i s = .next (hostCommand c (runCommand c) s) := by
  cases i <;> cases h <;> rfl

theorem endProbe_ksu (s : State) (n : SlotNo) (p : Probe) (r : PairResult) :
    (s.endProbe n p r).ksu = s.ksu := by
  unfold State.endProbe
  dsimp only
  split
  · exact (State.releaseGate_frame _ _).1
  · exact (State.deliver_frame _ _ _).1.trans (State.releaseGate_frame _ _).1

theorem exec_inOrder (i : Instr) {s t : State} (h : assemblyInOrder s.ksu)
    (hexec : exec i s = .next t) : assemblyInOrder t.ksu := by
  cases hc : commandOf i with
  | some c =>
      cases (exec_of_command hc s).symm.trans hexec
      exact hostCommand_inOrder c h
  | none =>
      cases i with
      | hardReset => cases hexec; exact hardReset_inOrder s.ksu
      | lineLevelChange k high => cases hexec; exact lineTo_inOrder k high h
      | debounceExpiry k =>
          cases hexec
          split
          · exact acceptLevel_inOrder k h
          · exact h
      | holdTimerExpiry k =>
          cases hexec
          split
          · next hheld => exact cutKey_inOrder h hheld
          · exact h
      | strokeClockTick =>
          cases hexec
          exact inOrder_of_hold h _ fun k => by rw [tick_hold, Option.isSome_map]
      | commandBegin =>
          cases hexec
          repeat' split
          · exact h
          · exact beginFrame_inOrder _ _ h
          · exact h
      | commandWrite part =>
          cases hexec
          refine transact_inOrder part h (fun u => leadByte_ksu u _) fun x u hu =>
            selectRise_inOrder _ _ hu fun r v hv => ?_
          split
          · exact hv
          · exact takeFrame_inOrder _ hv
      | responseRead part | reportRead part =>
          cases hexec
          refine transact_inOrder part h (fun u => leadByte_ksu u _) fun x u hu =>
            selectRise_inOrder _ _ hu fun r v hv => ?_
          split <;> exact hv
      | statusRead part =>
          cases hexec
          exact transact_inOrder part h (fun u => leadByte_ksu u _) fun x u hu =>
            selectRise_inOrder _ _ hu fun r v hv => hv
      | voidTransaction lead part =>
          cases hexec
          repeat' split
          · exact transact_inOrder part h (fun u => leadByte_ksu u _) fun x u hu =>
              selectRise_inOrder _ _ hu fun r v hv => hv
          · exact h
          · exact transact_inOrder part h (fun u => rfl) fun x u hu =>
              selectRise_inOrder _ _ hu fun r v hv => hv
      | restart => cases hexec; exact takeRestart_inOrder h
      | restartTakesEffect =>
          cases hexec
          split
          · exact restartEffect_inOrder h
          · exact h
      | formatComplete =>
          cases hexec
          repeat' split
          · rw [(State.releaseGate_frame _ _).1, (State.clearUpkeep_frame _).1, (State.done_frame _).1]
            exact h
          · exact h
          · exact h
      | upkeepOperationEnd =>
          cases hexec
          repeat' split
          · rw [(State.endEntryOp_frame _ _).1]; exact h
          · exact h
          · exact h
      | probeIssue =>
          cases hexec
          repeat' split
          · exact h
          · rw [(State.issue_frame _ _ _).1]; exact h
          · exact h
      | probeEnd n =>
          cases hexec
          repeat' split
          · exact h
          · exact h
          · rw [endProbe_ksu]; exact h
      | arbiterGrant | takeStroke | settleDueService | settleTimerExpiry | rescan | transmitByte
      | byteComplete | inboundByte | fclrChange | breakReceived | stallTimerExpiry
      | keepaliveTimerExpiry | returnToMark => exact (exec_aside rfl hexec).ksu.symm ▸ h
      | _ => cases hc

end Sys2Proof.Machine

section

open Sys2Proof Sys2Proof.Machine Sys2Proof.Rules

/-- Settles O53: each operation on keys keeps stroke assembly in order, and no other step looks at a key. -/
theorem strokeAssemblyStaysInOrder : Obligations.StrokeAssemblyStaysInOrder := by
  unfold Obligations.StrokeAssemblyStaysInOrder
  intro s t h hstep
  unfold step at hstep
  split at hstep
  · cases hstep; exact h
  · next c rest _ => exact exec_inOrder c (s := s.withPending rest) h hstep

end
end

section
/-!
SUPPORT. The queues within their bounds: what an operation that is steady towards them keeps, what ends a
command or a claim keeps, and what a RESTART and the transactions keep.
-/

namespace Sys2Proof.Machine

open Sys2Proof Sys2Proof.Rules

/-- `t` is `s` with what the bounds of the queues rest on as it was, or in bounds again. -/
structure Steady (s t : State) : Prop where
  ghosts : s.ksu.ghostCount ≤ 65535 → t.ksu.ghostCount ≤ 65535
  lost : s.ksu.lostCount ≤ 65535 → t.ksu.lostCount ≤ 65535
  strokes : s.strokeQueue.length ≤ 16 → t.strokeQueue.length ≤ 16
  queue : t.cp.queue = s.cp.queue
  executing : t.cp.executing = s.cp.executing
  responses : t.cp.responses = s.cp.responses
  restarts : t.cp.restarts = s.cp.restarts
  reports : s.cp.reports <+: t.cp.reports
  trigger : 1 ≤ s.cp.trigger ∧ s.cp.trigger ≤ 64 → 1 ≤ t.cp.trigger ∧ t.cp.trigger ≤ 64
  spi : t.spi = s.spi
  upkeep : t.mp.upkeep.isSome = s.mp.upkeep.isSome

theorem Aside.steady {s t : State} (h : Aside s t) : Steady s t :=
  ⟨fun e => h.ksu ▸ e, fun e => h.ksu ▸ e, fun e => h.strokes.trans e, h.queue, h.executing,
    h.responses, h.restarts, h.reports, h.trigger, h.spi, h.upkeep⟩

namespace Steady

theorem refl (s : State) : Steady s s := (Aside.refl s).steady

theorem trans {s t u : State} (h : Steady s t) (k : Steady t u) : Steady s u :=
  ⟨fun e => k.ghosts (h.ghosts e), fun e => k.lost (h.lost e), fun e => k.strokes (h.strokes e),
    k.queue.trans h.queue, k.executing.trans h.executing, k.responses.trans h.responses,
    k.restarts.trans h.restarts, h.reports.trans k.reports, fun e => k.trigger (h.trigger e),
    k.spi.trans h.spi, k.upkeep.trans h.upkeep⟩

/-- A change of the keys that leaves both counts alone. -/
theorem of_ksu (s : State) (u : Ksu) (hghost : u.ghostCount = s.ksu.ghostCount)
    (hlost : u.lostCount = s.ksu.lostCount) : Steady s (s.withKsu u) :=
  ⟨fun e => hghost.trans_le e, fun e => hlost.trans_le e, id, rfl, rfl, rfl, rfl, List.prefix_rfl, id,
    rfl, rfl⟩

theorem inBounds {s t : State} (h : Steady s t) (hs : queuesInBounds s) : queuesInBounds t where
  frames := h.queue ▸ hs.frames
  responses := h.responses ▸ hs.responses
  strokes := h.strokes hs.strokes
  restarts := h.restarts ▸ hs.restarts
  trigger := h.trigger hs.trigger
  ghosts := h.ghosts hs.ghosts
  lost := h.lost hs.lost
  operation := by rw [h.executing, h.upkeep]; exact hs.operation
  room := by rw [h.executing, h.responses]; exact hs.room
  discarded := by rw [h.restarts, h.responses]; exact hs.discarded
  fixed := fun r hr hq => by
    rw [h.responses]
    refine (hs.fixed r (h.spi ▸ hr) hq).imp_right fun ⟨hkind, hhead⟩ => ⟨hkind, ?_⟩
    obtain ⟨more, hmore⟩ := h.reports
    rw [← hmore, List.map_append, List.head?_append, hhead]
    rfl

end Steady

/-! ### While a command executes -/

/-- The queues in bounds while a command executes that no upkeep operation belongs to yet, or any more. -/
structure executingInBounds (s : State) : Prop where
  bounds : queuesInBounds s.endSilently
  command : s.cp.executing.isSome = true
  room : s.cp.responses.length ≤ 7

theorem Steady.endSilently {s t : State} (h : Steady s t) : Steady s.endSilently t.endSilently :=
  ⟨h.ghosts, h.lost, h.strokes, h.queue, rfl, h.responses, h.restarts, h.reports, h.trigger, h.spi,
    h.upkeep⟩

theorem Steady.executingInBounds {s t : State} (h : Steady s t)
    (hs : executingInBounds s) : executingInBounds t where
  bounds := h.endSilently.inBounds hs.bounds
  command := h.executing ▸ hs.command
  room := h.responses ▸ hs.room

theorem beginExecution_inBounds {s : State} (h : queuesInBounds s) (hbegin : s.canBegin = true)
    (c : Byte) : executingInBounds (s.beginExecution c) := by
  obtain ⟨⟨hcommand, -⟩, hroom⟩ : (s.cp.executing = none ∧ s.cp.restarts = 0) ∧
      s.cp.responses.length < 8 := by simpa [State.canBegin] using hbegin
  refine ⟨?_, rfl, Nat.le_of_lt_succ hroom⟩
  have hsame : (s.beginExecution c).endSilently = s := by
    simp [State.beginExecution, State.endSilently, State.withCp, ← hcommand]
  rwa [hsame]

/-- The upkeep operation's command goes on executing once the operation is gone. -/
theorem clearUpkeep_inBounds {s : State} (h : queuesInBounds s) (hop : s.mp.upkeep.isSome = true) :
    executingInBounds s.clearUpkeep where
  bounds := { h with
    operation := rfl
    room := nofun }
  command := h.operation.trans hop
  room := h.room (h.operation.trans hop)

theorem respond_inBounds {s : State} (h : executingInBounds s) (st : Status) (d : List Byte) :
    queuesInBounds (s.respond st d) := by
  obtain ⟨hb, -, hroom⟩ := h
  unfold State.respond
  split
  · next hrestarts =>
    exact { hb with
      responses := by simp; omega
      room := nofun
      discarded := fun hr => absurd hrestarts hr
      fixed := fun r hr hq => by
        refine (hb.fixed r hr hq).imp_left fun ⟨hkind, hhead⟩ => ⟨hkind, ?_⟩
        have hhead' : (s.cp.responses.map responseBytes).head? = some r.frame := hhead
        simp only [State.withCp_cp]
        rw [List.map_append, List.head?_append, hhead']
        rfl }
  · exact hb

/-! ### Gates -/

theorem takeProbe_aside (s : State) (n : SlotNo) (t : Fin 32) : Aside s (s.takeProbe n t) :=
  withMp_aside s _ rfl

/-- With no upkeep operation, taking claims ends no command. -/
theorem takeClaims_aside {n : SlotNo} {c : List Claim} {s : State} (h : s.mp.upkeep.isSome = false) :
    Aside s (takeClaims n c s) := by
  cases c with
  | nil => exact withGate_aside s n _
  | cons c rest =>
      cases c with
      | probe t => exact (withGate_aside s n _).trans (takeProbe_aside _ n t)
      | upkeep =>
          unfold takeClaims
          split
          · next hop => simp [hop] at h
          · exact withGate_aside s n _

theorem finishRelease_inBounds {s : State} (n : SlotNo) (h : queuesInBounds s)
    (hop : s.mp.upkeep.isSome = true) : queuesInBounds (s.finishRelease n) :=
  respond_inBounds (s := (s.withSlot n (s.slot n).vacated).clearUpkeep) (clearUpkeep_inBounds
    ((withSlot_aside s n _).steady.inBounds h) hop) _ _

theorem takeClaims_inBounds (n : SlotNo) : ∀ (c : List Claim) (s : State), queuesInBounds s →
    queuesInBounds (takeClaims n c s)
  | [], s, h => (withGate_aside s n _).steady.inBounds h
  | .probe t :: rest, s, h =>
      ((withGate_aside s n _).trans (takeProbe_aside _ n t)).steady.inBounds h
  | .upkeep :: rest, s, h => by
      unfold takeClaims
      split
      · next hop =>
        exact takeClaims_inBounds n rest _ (finishRelease_inBounds n h (by rw [hop]; rfl))
      · exact (withGate_aside s n _).steady.inBounds h

theorem serveGate_aside {s : State} (n : SlotNo) (h : s.mp.upkeep.isSome = false) :
    Aside s (s.serveGate n) := by
  unfold State.serveGate
  split
  · exact .refl s
  · exact takeClaims_aside h

theorem serveGate_inBounds {s : State} (n : SlotNo) (h : queuesInBounds s) :
    queuesInBounds (s.serveGate n) := by
  unfold State.serveGate
  split
  · exact h
  · exact takeClaims_inBounds n _ s h

theorem claimGate_inBounds {s : State} (n : SlotNo) (c : Claim) (h : queuesInBounds s) :
    queuesInBounds (s.claimGate n c) :=
  serveGate_inBounds n ((withGate_aside s n _).steady.inBounds h)

theorem releaseGate_aside {s : State} (n : SlotNo) (h : s.mp.upkeep.isSome = false) :
    Aside s (s.releaseGate n) := (withGate_aside s n _).trans (serveGate_aside n h)

theorem releaseGate_inBounds {s : State} (n : SlotNo) (h : queuesInBounds s) :
    queuesInBounds (s.releaseGate n) :=
  serveGate_inBounds n ((withGate_aside s n _).steady.inBounds h)

theorem beginUpkeep_inBounds {s : State} (n : SlotNo) (op : UpkeepOp) (h : executingInBounds s) :
    queuesInBounds (s.beginUpkeep n op) := by
  obtain ⟨hb, hcommand, hroom⟩ := h
  exact claimGate_inBounds n _ { hb with
    operation := hcommand
    room := fun _ => hroom }

theorem commandEnds_inBounds {s t : State} (hs : executingInBounds s) (h : commandEnds Steady s t) :
    queuesInBounds t := by
  obtain ⟨u, hu, ⟨st, d, rfl⟩ | ⟨n, op, rfl⟩⟩ := h
  · exact respond_inBounds (hu.executingInBounds hs) st d
  · exact beginUpkeep_inBounds n op (hu.executingInBounds hs)

/-! ### The ends of upkeep operations and probes -/

theorem clearUpkeep_respond (s : State) (st : Status) (d : List Byte) :
    (s.respond st d).clearUpkeep = s.clearUpkeep.respond st d := by
  unfold State.respond
  split
  · rw [if_pos (by assumption)]; rfl
  · rw [if_neg (by assumption)]; rfl

theorem Aside.clearUpkeep {s t : State} (h : Aside s t) : Aside s.clearUpkeep t.clearUpkeep :=
  ⟨h.ksu, h.strokes, h.queue, h.executing, h.responses, h.restarts, h.reports, h.trigger, h.spi, rfl⟩

/-- The response of an operation that is over is in its queue, and the operation is gone. -/
theorem respond_clearUpkeep_inBounds {s : State} (h : queuesInBounds s)
    (hop : s.mp.upkeep.isSome = true) (st : Status) (d : List Byte) :
    queuesInBounds (s.respond st d).clearUpkeep := by
  rw [clearUpkeep_respond]
  exact respond_inBounds (clearUpkeep_inBounds h hop) st d

theorem answerEntryOp_inBounds {s : State} (op : EntryOp) (h : queuesInBounds s)
    (hop : s.mp.upkeep.isSome = true) : queuesInBounds (s.answerEntryOp op).clearUpkeep := by
  have hanswer := respond_clearUpkeep_inBounds
    ((withSlot_aside s op.slot (op.descriptor (s.slot op.slot))).steady.inBounds h) hop op.status op.data
  unfold State.answerEntryOp
  dsimp only
  split
  · exact (changeNotice_aside _ _).clearUpkeep.steady.inBounds hanswer
  · exact hanswer

theorem endEntryOp_inBounds {s : State} (op : EntryOp) (h : queuesInBounds s)
    (hop : s.mp.upkeep.isSome = true) : queuesInBounds (s.endEntryOp op) := by
  unfold State.endEntryOp
  split
  · exact releaseGate_inBounds _ (answerEntryOp_inBounds op h hop)
  · exact beginUpkeep_inBounds _ _
      ((releaseGate_aside _ rfl).steady.executingInBounds (clearUpkeep_inBounds h hop))

theorem formatComplete_inBounds {s : State} (n : SlotNo) (d : Slot) (h : queuesInBounds s)
    (hop : s.mp.upkeep.isSome = true) :
    queuesInBounds ((s.withSlot n d).done.clearUpkeep.releaseGate n) :=
  releaseGate_inBounds n
    (respond_clearUpkeep_inBounds ((withSlot_aside s n d).steady.inBounds h) hop _ _)

theorem issue_inBounds {s : State} (p : Pair) (tag : Fin 32) (h : queuesInBounds s) :
    queuesInBounds (s.issue p tag) := by
  unfold State.issue
  dsimp only
  split
  · have hentered : Aside s (s.enterNextResult (.pending tag)) := withTe_aside s _
    exact claimGate_inBounds _ _ ((hentered.trans (withMp_aside (s.enterNextResult (.pending tag))
      { (s.enterNextResult (.pending tag)).mp with
        probes := (s.enterNextResult (.pending tag)).mp.probes ++
          [⟨tag, p.slot, p.outline, false, none⟩] } rfl)).steady.inBounds h)
  · exact ((withTe_aside s _).trans (tryDecide_aside _)).steady.inBounds h

theorem endProbe_inBounds {s : State} (n : SlotNo) (p : Probe) (r : PairResult) (h : queuesInBounds s) :
    queuesInBounds (s.endProbe n p r) := by
  have hreleased := releaseGate_inBounds n
    ((withMp_aside s { s.mp with probes := s.mp.probes.filter fun q => q.tag != p.tag } rfl).steady.inBounds
      h)
  unfold State.endProbe
  dsimp only
  split
  · exact hreleased
  · exact (deliver_aside _ _ _).steady.inBounds hreleased

end Sys2Proof.Machine
end

section
/-!
PROOF. Every step keeps the queues within their places (R16, R162 to R167, R169, R171, R176, R177, R179).
-/

namespace Sys2Proof.Machine

open Sys2Proof Sys2Proof.Rules

/-! ### The operations on keys -/

theorem closeStroke_steady (s : State) (split : Bool) : Steady s (s.closeStroke split) := by
  have idle := Steady.of_ksu s s.ksu.toIdle rfl rfl
  by_cases hghost : s.ksu.duration.toNat < s.ksu.ghostMin
  · rw [closeStroke_of_ghost hghost]
    exact { idle with ghosts := fun _ => Nat.min_le_right _ _ }
  by_cases hroom : s.strokeQueue.length < Config.strokeQueuePlaces
  · rw [closeStroke_of_room hghost hroom]
    exact { idle with strokes := fun _ => by simpa using Nat.succ_le_of_lt hroom }
  · rw [closeStroke_of_full hghost hroom]
    exact { idle with lost := fun _ => Nat.min_le_right _ _ }

theorem releaseStroke_steady (s : State) : Steady s s.releaseStroke := by
  by_cases h : someStrokeKeyDown s.ksu
  · rw [releaseStroke_of_down h]; exact .of_ksu s _ rfl rfl
  · rw [releaseStroke_of_up h]
    exact (Steady.of_ksu s s.timed.ksu rfl rfl).trans (closeStroke_steady s.timed false)

theorem releaseKey_steady (s : State) (k : Key) : Steady s (s.releaseKey k) := by
  rw [releaseKey_eq]
  split
  · exact .of_ksu s _ rfl rfl
  · split
    · exact (Steady.of_ksu s (s.stopHold k).ksu rfl rfl).trans (releaseStroke_steady (s.stopHold k))
    · exact .refl s

theorem pressKey_steady (s : State) (k : Key) : Steady s (s.pressKey k) := by
  unfold State.pressKey
  refine Steady.trans ?_ (.of_ksu _ _ rfl rfl)
  split
  · exact .of_ksu s _ rfl rfl
  · exact .of_ksu s _ rfl rfl
  · split
    · exact ((closeStroke_steady s true).trans (.of_ksu _ _ rfl rfl)).trans (.of_ksu _ _ rfl rfl)
    · exact .of_ksu s _ rfl rfl

theorem cutKey_steady (s : State) (k : Key) : Steady s (s.cutKey k) := by
  have stuck : Steady s ((s.stuckKey k).withCut true) :=
    ((Steady.of_ksu s _ rfl rfl).trans (setNotices_aside _ _).steady).trans (.of_ksu _ _ rfl rfl)
  rw [cutKey_eq]
  refine Steady.trans ?_ (.of_ksu _ _ rfl rfl)
  split
  · exact stuck.trans (releaseKey_steady _ k)
  · exact stuck

theorem foldl_cutKey_steady (l : List Key) (s : State) : Steady s (l.foldl State.cutKey s) := by
  induction l generalizing s with
  | nil => exact .refl s
  | cons k l ih => exact (cutKey_steady s k).trans (ih _)

theorem acceptLevel_steady (s : State) (k : Key) : Steady s (s.acceptLevel k) := by
  have accepted : Steady s (s.accepted k) := .of_ksu s _ rfl rfl
  rw [acceptLevel_eq]
  split
  · exact accepted
  · split
    · split
      · exact accepted
      · exact accepted.trans (.of_ksu _ _ rfl rfl)
    · split
      · exact accepted
      · split
        · exact accepted.trans (pressKey_steady _ k)
        · exact accepted.trans (releaseKey_steady _ k)

/-! ### Commands -/

theorem commandEnds.steady {s t : State} (h : commandEnds Aside s t) : commandEnds Steady s t := by
  obtain ⟨u, hu, hend⟩ := h
  exact ⟨u, hu.steady, hend⟩

theorem takenTogether.steady {before : Ksu} {gone : Key → Prop} {s t : State}
    (h : takenTogether before gone s t) : Steady s t := by
  rcases h.cases with ⟨-, heq⟩ | ⟨-, heq⟩ <;> rw [heq]
  · exact .refl s
  · exact releaseStroke_steady s

theorem cmdSetKeyPolarity_ends (v : Stroke) (s : State) :
    commandEnds Steady s (cmdSetKeyPolarity v s) := by
  by_cases hv : v.toNat ≤ 8388607
  · obtain ⟨u, t, hcmd, honly, -, -, htaken⟩ := cmdSetKeyPolarity_handles s hv
    rw [hcmd]
    refine .done (Steady.trans (.of_ksu s u ?_ ?_) htaken.steady) <;> rw [honly]
  · rw [cmdSetKeyPolarity, show keySetOf v = none from if_neg hv]
    exact (commandEnds.refuse s _).steady

theorem cmdSetKeyMask_ends (v : Stroke) (s : State) : commandEnds Steady s (cmdSetKeyMask v s) := by
  by_cases hv : v.toNat ≤ 8388607
  · obtain ⟨u, t, hcmd, honly, -, -, htaken⟩ := cmdSetKeyMask_handles s hv
    rw [hcmd]
    refine .done (Steady.trans (.of_ksu s u ?_ ?_) htaken.steady) <;> rw [honly]
  · rw [cmdSetKeyMask, show keySetOf v = none from if_neg hv]
    exact (commandEnds.refuse s _).steady

theorem cmdSetStacking_ends (v : Byte) (s : State) : commandEnds Steady s (cmdSetStacking v s) := by
  unfold cmdSetStacking
  split
  · exact (commandEnds.refuse s _).steady
  · exact .done (.of_ksu s _ rfl rfl)

theorem cmdInjectStroke_ends (v : Stroke) (s : State) :
    commandEnds Steady s (cmdInjectStroke v s) := by
  unfold cmdInjectStroke
  split
  · exact (commandEnds.refuse s _).steady
  · split
    · next hroom =>
      exact .done { Steady.refl s with strokes := fun _ => by simpa using Nat.succ_le_of_lt hroom }
    · exact (commandEnds.refuse s _).steady

theorem cmdKeyInfo_ends (v : Byte) (s : State) : commandEnds Steady s (cmdKeyInfo v s) := by
  unfold cmdKeyInfo
  split
  · exact (commandEnds.refuse s _).steady
  · exact .respond (.refl s) _ _
  · exact .respond { Steady.refl s with
      ghosts := fun _ => Nat.zero_le _, lost := fun _ => Nat.zero_le _ } _ _

/-- Every command is steady towards the queues until it ends. -/
theorem runCommand_ends_steady (c : Command) (s : State) : commandEnds Steady s (runCommand c s) := by
  cases hc : ofKeyboard c with
  | false => exact (runCommand_ends c hc s).steady
  | true =>
      cases c with
      | setKeyTiming d g st =>
          refine .done (Steady.trans ?_ (foldl_cutKey_steady _ _))
          exact .of_ksu s _ rfl rfl
      | setKeyPolarity v => exact cmdSetKeyPolarity_ends v s
      | setKeyMask v => exact cmdSetKeyMask_ends v s
      | setStacking v => exact cmdSetStacking_ends v s
      | injectStroke v => exact cmdInjectStroke_ends v s
      | setClock v => exact .done (.of_ksu s _ rfl rfl)
      | keyInfo v => exact cmdKeyInfo_ends v s
      | _ => simp [ofKeyboard] at hc

theorem runCommand_inBounds {s : State} (c : Command) (h : executingInBounds s) :
    queuesInBounds (runCommand c s) := commandEnds_inBounds h (runCommand_ends_steady c s)

theorem placeFrame_inBounds {s : State} (f : Frame) (h : queuesInBounds s) :
    queuesInBounds (s.placeFrame f) := by
  unfold State.placeFrame
  split
  · next hroom => exact { h with frames := by simpa using Nat.succ_le_of_lt hroom }
  · exact (setNotices_aside s _).steady.inBounds h

theorem hostCommand_inBounds {s : State} (c : Command) (h : queuesInBounds s) :
    queuesInBounds (hostCommand c (runCommand c) s) := by
  unfold hostCommand
  split
  · next hready =>
    exact runCommand_inBounds c (beginExecution_inBounds h (Bool.and_eq_true_iff.mp hready).1 _)
  · exact placeFrame_inBounds _ h

theorem beginFrame_inBounds {s : State} {f : Frame} {rest : List Frame} (h : queuesInBounds s)
    (hqueue : s.cp.queue = f :: rest) (hbegin : s.canBegin = true) :
    queuesInBounds (s.beginFrame f rest) := by
  have hbegun : executingInBounds
      ((s.withCp { s.cp with queue := rest }).beginExecution (echoOf f.bytes)) := by
    refine beginExecution_inBounds (s := s.withCp { s.cp with queue := rest }) ?_ hbegin _
    have hlength : (f :: rest).length ≤ 4 := hqueue ▸ h.frames
    exact { h with frames := Nat.le_of_succ_le hlength }
  unfold State.beginFrame
  dsimp only
  split
  · exact runCommand_inBounds _ hbegun
  · exact respond_inBounds hbegun _ _

end Sys2Proof.Machine
end

section
/-!
PROOF. Every step keeps the queues within their places (R16, R162 to R167, R169, R171, R176, R177, R179):
RESTART, the transactions, and the step.
-/

namespace Sys2Proof.Machine

open Sys2Proof Sys2Proof.Rules

/-! ### RESTART (R177, R178) -/

/-- What a read has fixed on and is still queued is of another kind than the queue discarded. -/
theorem discard_busy {kind : Transfer} {p : Spi} {t : Transaction} (h : p.discard kind = .busy t)
    (hqueued : t.queued = true) : p = .busy t ∧ t.kind ≠ some kind := by
  cases p with
  | idle => cases h
  | ignored => cases h
  | busy u =>
      have ht : (if u.kind = some kind then { u with queued := false } else u) = t := Spi.busy.inj h
      split at ht
      · rw [← ht] at hqueued; cases hqueued
      · next hkind => subst ht; exact ⟨rfl, hkind⟩

/-- The waiting frames and the responses are discarded, and one RESTART more is counted. -/
theorem discardWaiting_inBounds {s : State} {n : Nat} (h : queuesInBounds s) (hn : n ≤ 8) :
    queuesInBounds (s.discardWaiting.withCp { s.discardWaiting.cp with restarts := n }) :=
  { h with
    frames := Nat.zero_le _
    responses := Nat.zero_le _
    restarts := hn
    room := fun _ => Nat.zero_le _
    discarded := fun _ => rfl
    fixed := fun t ht hq => by
      obtain ⟨hspi, hkind⟩ := discard_busy ht hq
      exact .inr ((h.fixed t hspi hq).resolve_left fun hresponse => hkind hresponse.1) }

theorem endSilently_inBounds {s : State} (h : queuesInBounds s) (hop : s.mp.upkeep = none) :
    queuesInBounds s.endSilently :=
  { h with
    operation := by rw [show s.endSilently.mp.upkeep = none from hop]; rfl
    room := nofun }

theorem dropUpkeep_inBounds {s : State} (n : SlotNo) (h : queuesInBounds s)
    (hop : s.mp.upkeep.isSome = true) : queuesInBounds (s.dropUpkeep n) := by
  unfold State.dropUpkeep
  dsimp only
  refine (Steady.executingInBounds ?_ (clearUpkeep_inBounds h hop)).bounds
  exact ((withGate_aside s.clearUpkeep n _).trans (serveGate_aside n rfl)).steady

theorem cutCommand_inBounds {s : State} (h : queuesInBounds s) : queuesInBounds s.cutCommand := by
  unfold State.cutCommand
  split
  · next hop => exact endSilently_inBounds h hop
  · next n _ hop =>
    exact dropUpkeep_inBounds n ((withSlot_aside s n _).steady.inBounds h)
      (Option.isSome_iff_exists.mpr ⟨_, hop⟩)
  · next op _ hop =>
    split
    · exact h
    · exact dropUpkeep_inBounds _ h (Option.isSome_iff_exists.mpr ⟨_, hop⟩)

theorem restartEffect_inBounds {s : State} (h : queuesInBounds s) (hfree : s.cp.executing = none) :
    queuesInBounds s.restartEffect where
  frames := h.frames
  responses := by
    have hlength : s.restartEffect.cp.responses.length = s.cp.responses.length + s.cp.restarts := by
      simp [State.restartEffect]
    rw [hlength]
    by_cases hr : s.cp.restarts = 0
    · rw [hr]; exact h.responses
    · rw [h.discarded hr]; simpa using h.restarts
  strokes := Nat.zero_le _
  restarts := Nat.zero_le _
  trigger := h.trigger
  ghosts := h.ghosts
  lost := h.lost
  operation := h.operation
  room := fun hsome => by
    rw [show s.restartEffect.cp.executing = none from hfree] at hsome
    cases hsome
  discarded := fun hr => absurd rfl hr
  fixed := fun t ht hq => by
    obtain ⟨hspi, hkind⟩ := discard_busy ht hq
    obtain ⟨hresponse, hhead⟩ :=
      (h.fixed t hspi hq).resolve_right fun hreport => hkind hreport.1
    refine .inl ⟨hresponse, ?_⟩
    have hresponses : s.restartEffect.cp.responses =
      s.cp.responses ++ List.replicate s.cp.restarts ⟨.done, restartCode, []⟩ := rfl
    rw [hresponses, List.map_append, List.head?_append, hhead]
    rfl

theorem restartIfFree_inBounds {s : State} (h : queuesInBounds s) :
    queuesInBounds s.restartIfFree := by
  unfold State.restartIfFree
  split
  · next hfree => exact restartEffect_inBounds h (Option.isNone_iff_eq_none.mp hfree)
  · exact h

theorem takeRestart_inBounds {s : State} (h : queuesInBounds s) : queuesInBounds s.takeRestart := by
  unfold State.takeRestart
  dsimp only
  split
  · exact restartIfFree_inBounds (cutCommand_inBounds (discardWaiting_inBounds h (by decide)))
  · split
    · next hplace => exact restartIfFree_inBounds (discardWaiting_inBounds h hplace)
    · exact (setNotices_aside s _).steady.inBounds h

theorem takeFrame_inBounds {s : State} (f : Frame) (h : queuesInBounds s) :
    queuesInBounds (s.takeFrame f) := by
  unfold State.takeFrame
  split
  · exact takeRestart_inBounds h
  · exact placeFrame_inBounds f h

/-! ### Transactions (R160 to R172) -/

theorem length_strokeBytes (o : List Stroke) : (strokeBytes o).length = 3 * o.length := by
  induction o with
  | nil => rfl
  | cons v o ih => simp only [strokeBytes, bytesOf24, List.length_append, List.length_cons,
      List.length_nil, ih]; omega

/-- The frame of a report that a read shifts out is the frame of R186. -/
theorem reportFrame_eq (r : Report) : r.frame = reportBytes r := by
  cases r with
  | stroke keys time origin split stuckCut undoEmpty =>
      have hflags : byteOfBool split ||| (byteOfBool stuckCut <<< 1) ||| (byteOfBool undoEmpty <<< 2) =
          (if split then 1 else 0) + (if stuckCut then 2 else 0) + (if undoEmpty then 4 else 0) := by
        cases split <;> cases stuckCut <;> cases undoEmpty <;> rfl
      rw [Report.frame, Report.body, hflags]
      rfl
  | settled source outline text truncated =>
      have hlength : (Report.settled source outline text truncated).body.length =
          5 + 3 * outline.length + text.length := by
        simp only [Report.body, List.length_append, List.length_cons, List.length_nil,
          length_strokeBytes]
        omega
      rw [Report.frame, hlength]
      simp only [Report.body, reportBytes, List.append_assoc, List.cons_append, List.nil_append]
      rfl

theorem selectFall_inBounds {s : State} (h : queuesInBounds s) : queuesInBounds s.selectFall := by
  unfold State.selectFall
  split
  · exact { h with fixed := fun t ht hq => by cases ht; cases hq }
  · exact h
  · exact h

/-- A frame that is fixed on from a queue is that of the record at its head. -/
theorem head_map_eq_oldestFrame {α : Type} {l : List α} (f : α → List Byte)
    (h : (!l.isEmpty) = true) : (l.map f).head? = some (oldestFrame (l.map f)) := by
  cases l with
  | nil => cases h
  | cons r l => rfl

/-- What a transaction fixes on that is still queued is the frame at the head of its queue. -/
theorem fixes_queued {s : State} {kind : Transfer} (h : (s.fixes kind).2 = true) :
    (kind = .responseRead ∧ (s.cp.responses.map responseBytes).head? = some (s.fixes kind).1) ∨
      (kind = .reportRead ∧ (s.cp.reports.map reportBytes).head? = some (s.fixes kind).1) := by
  cases kind with
  | responseRead => exact .inl ⟨rfl, head_map_eq_oldestFrame Response.frame h⟩
  | reportRead =>
      refine .inr ⟨rfl, ?_⟩
      rw [← funext reportFrame_eq]
      exact head_map_eq_oldestFrame Report.frame h
  | commandWrite | statusRead | void => cases h

theorem leadByte_inBounds {s : State} (b : Byte) (h : queuesInBounds s) :
    queuesInBounds (s.leadByte b) := by
  unfold State.leadByte
  split
  · split
    · refine { h with fixed := fun t ht hq => ?_ }
      cases ht
      exact (fixes_queued hq).imp (fun ⟨hkind, hhead⟩ => ⟨congrArg some hkind, hhead⟩)
        fun ⟨hkind, hhead⟩ => ⟨congrArg some hkind, hhead⟩
    · exact h
  · exact h
  · exact { h with }

theorem transact_inBounds {shifted : Type} {s : State} (part : SpiPart shifted) {lead : State → State}
    {rise : shifted → State → State} (h : queuesInBounds s)
    (hlead : ∀ u, queuesInBounds u → queuesInBounds (lead u))
    (hrise : ∀ x u, queuesInBounds u → queuesInBounds (rise x u)) :
    queuesInBounds (s.transact part lead rise) :=
  transact_keeps part h (fun _ hu => selectFall_inBounds hu) hlead hrise

theorem selectRise_inBounds {s : State} (kind : Option Transfer) (n : Nat)
    {effect : Transaction → State → State} (h : queuesInBounds s)
    (heffect : ∀ t u, u.spi = .idle → queuesInBounds u → queuesInBounds (effect t u)) :
    queuesInBounds (s.selectRise kind n effect) :=
  selectRise_keeps kind n h (fun _ _ hu => { hu with fixed := nofun })
    fun t u _ _ hidle hu => heffect t u hidle hu

/-- A read removes the response it fixed on: no transaction is in progress any more. -/
theorem responseRead_inBounds {s : State} (h : queuesInBounds s) (hidle : s.spi = .idle) :
    queuesInBounds (s.withCp { s.cp with responses := s.cp.responses.drop 1 }) :=
  have hlength : (s.cp.responses.drop 1).length ≤ s.cp.responses.length := by simp
  { h with
    responses := hlength.trans h.responses
    room := fun hcommand => hlength.trans (h.room hcommand)
    discarded := fun hr => by
      have hnone : s.cp.responses = [] := h.discarded hr
      simp [hnone]
    fixed := fun t ht => by cases hidle.symm.trans ht }

theorem reportRead_inBounds {s : State} (h : queuesInBounds s) (hidle : s.spi = .idle) :
    queuesInBounds (s.withCp { s.cp with reports := s.cp.reports.drop 1 }) :=
  { h with fixed := fun t ht => by cases hidle.symm.trans ht }

/-! ### Every step -/

theorem hardReset_inBounds {s t : State} (h : execHardReset s = .next t) : queuesInBounds t := by
  cases h
  exact {
    frames := Nat.zero_le _
    responses := Nat.zero_le _
    strokes := Nat.zero_le _
    restarts := Nat.zero_le _
    trigger := (by decide : 1 ≤ 1 ∧ 1 ≤ 64)
    ghosts := Nat.zero_le _
    lost := Nat.zero_le _
    operation := rfl
    room := nofun
    discarded := fun hr => absurd rfl hr
    fixed := fun t ht => by
      change s.spi.hardReset = .busy t at ht
      unfold Spi.hardReset at ht
      split at ht <;> cases ht }

theorem exec_inBounds (i : Instr) {s t : State} (h : queuesInBounds s) (hexec : exec i s = .next t) :
    queuesInBounds t := by
  cases hc : commandOf i with
  | some c =>
      cases (exec_of_command hc s).symm.trans hexec
      exact hostCommand_inBounds c h
  | none =>
      cases i with
      | hardReset => exact hardReset_inBounds hexec
      | lineLevelChange k high => cases hexec; exact Steady.inBounds (.of_ksu s _ rfl rfl) h
      | debounceExpiry k =>
          cases hexec
          split
          · exact (acceptLevel_steady s k).inBounds h
          · exact h
      | holdTimerExpiry k =>
          cases hexec
          split
          · exact (cutKey_steady s k).inBounds h
          · exact h
      | strokeClockTick => cases hexec; exact Steady.inBounds (.of_ksu s _ rfl rfl) h
      | commandBegin =>
          cases hexec
          split
          · exact h
          · next f rest hqueue =>
            split
            · next hbegin => exact beginFrame_inBounds h hqueue hbegin
            · exact h
      | commandWrite part =>
          cases hexec
          refine transact_inBounds part h (fun u hu => leadByte_inBounds _ hu) fun x u hu =>
            selectRise_inBounds _ _ hu fun r v _ hv => ?_
          split
          · exact hv
          · exact takeFrame_inBounds _ hv
      | responseRead part =>
          cases hexec
          refine transact_inBounds part h (fun u hu => leadByte_inBounds _ hu) fun x u hu =>
            selectRise_inBounds _ _ hu fun r v hidle hv => ?_
          split
          · exact responseRead_inBounds hv hidle
          · exact hv
      | reportRead part =>
          cases hexec
          refine transact_inBounds part h (fun u hu => leadByte_inBounds _ hu) fun x u hu =>
            selectRise_inBounds _ _ hu fun r v hidle hv => ?_
          split
          · exact reportRead_inBounds hv hidle
          · exact hv
      | statusRead part =>
          cases hexec
          exact transact_inBounds part h (fun u hu => leadByte_inBounds _ hu) fun x u hu =>
            selectRise_inBounds _ _ hu fun r v _ hv => hv
      | voidTransaction lead part =>
          cases hexec
          repeat' split
          · exact transact_inBounds part h (fun u hu => leadByte_inBounds _ hu) fun x u hu =>
              selectRise_inBounds _ _ hu fun r v _ hv => hv
          · exact h
          · exact transact_inBounds part h (fun u hu => hu) fun x u hu =>
              selectRise_inBounds _ _ hu fun r v _ hv => hv
      | restart => cases hexec; exact takeRestart_inBounds h
      | restartTakesEffect =>
          cases hexec
          split
          · next hfree => exact restartEffect_inBounds h (Option.isNone_iff_eq_none.mp hfree.2)
          · exact h
      | formatComplete =>
          cases hexec
          split
          · next n _ hop =>
            split
            · exact formatComplete_inBounds n _ h (Option.isSome_iff_exists.mpr ⟨_, hop⟩)
            · exact h
          · exact h
      | upkeepOperationEnd =>
          cases hexec
          split
          · next op hop =>
            split
            · exact endEntryOp_inBounds op h (Option.isSome_iff_exists.mpr ⟨_, hop⟩)
            · exact h
          · exact h
      | probeIssue =>
          cases hexec
          repeat' split
          · exact h
          · exact issue_inBounds _ _ h
          · exact h
      | probeEnd n =>
          cases hexec
          repeat' split
          · exact h
          · exact h
          · exact endProbe_inBounds n _ _ h
      | arbiterGrant | takeStroke | settleDueService | settleTimerExpiry | rescan | transmitByte
      | byteComplete | inboundByte | fclrChange | breakReceived | stallTimerExpiry
      | keepaliveTimerExpiry | returnToMark => exact (exec_aside rfl hexec).steady.inBounds h
      | _ => cases hc

end Sys2Proof.Machine

section

open Sys2Proof Sys2Proof.Machine Sys2Proof.Rules

/-- Settles O55: each step either is steady towards the queues, or ends a command or a transaction within
their places. -/
theorem queuesStayInBounds : Obligations.QueuesStayInBounds := by
  unfold Obligations.QueuesStayInBounds
  intro s t h hstep
  unfold step at hstep
  split at hstep
  · cases hstep; exact h
  · next c rest _ =>
    have hwaiting : Aside s (s.withPending rest) := .of_blocks rfl rfl rfl rfl rfl
    exact exec_inBounds c (hwaiting.steady.inBounds h) hstep

end
end

section
/-!
PROOF. The debounce timers, the stroke clock, and the presses and releases of single keys
(R2, R6 to R12, R14 to R16).
-/

namespace Sys2Proof.Machine

open Sys2Proof Sys2Proof.Rules

/-! ### Command rows -/

/-- A command row, where the Command Port is ready, whose command leads to `t` and then answers. -/
theorem exec_answers {i : Instr} {c : Command} {s t : State} {code : Byte} {st : Status} {d : List Byte}
    (hrow : commandOf i = some c) (hcode : c.code = code) (h : Ready s)
    (hcommand : t.cp.executing = s.cp.executing) (hrestart : t.cp.restarts = s.cp.restarts)
    (hcmd : runCommand c (s.beginExecution code) = (t.beginExecution code).respond st d) :
    exec i s = .next (answered t st code d) := by
  subst hcode
  rw [exec_of_command hrow, hostCommand_answers h c _ t st d hcommand hrestart hcmd]

/-! ### Timers and the stroke clock (R2, R10, R11, R15) -/

/-- A change of a line's level sets the level, and the debounce timer as its case says. -/
theorem exec_lineLevelChange {s : State} {k : Key} {high : Bool} {d : Vector (Option Nat) 23}
    (h : (s.ksu.lineTo k high).debounce = d) : exec (.lineLevelChange k high) s =
      .next (s.withKsu { s.ksu with line := putKey s.ksu.line k high, debounce := d }) := by
  subst h; rfl

theorem clock_succ (c : BitVec 32) : c + 1 = BitVec.ofNat 32 ((c.toNat + 1) % 2 ^ 32) := by
  apply BitVec.eq_of_toNat_eq
  simp [BitVec.toNat_add]

/-- A time of the stroke in progress moves with the clock. -/
theorem moved_sub (c v clock : BitVec 32) : (c + (v - clock)) - c = v - clock := by
  rw [BitVec.add_comm, BitVec.add_sub_cancel]

theorem exec_setClock {s : State} (h : Ready s) (v : BitVec 32) :
    exec (.setClock v) s = .next (answered (s.withKsu { s.ksu with
      clock := v
      chordStart := s.ksu.chordStart.map (· + (v - s.ksu.clock))
      firstRelease := s.ksu.firstRelease.map (· + (v - s.ksu.clock)) }) .done 0x15 []) :=
  exec_answers rfl rfl h rfl rfl rfl

/-! ### A running debounce timer expires (R2) -/

theorem exec_debounceExpiry {s : State} {k : Key} (h : s.ksu.debounce[k].isSome = true) :
    exec (.debounceExpiry k) s = .next (s.acceptLevel k) := congrArg _ (if_pos h)

/-- A press that splits the stroke in progress, in the words of the statement (R8). -/
theorem pressKey_of_splitting_closed {s : State} {c r : BitVec 32} (k : Key)
    (hrelease : s.ksu.assembly = .release) (hstacking : s.ksu.stacking = true)
    (hstart : s.ksu.chordStart = some c) (hfirst : s.ksu.firstRelease = some r)
    (hcut : s.ksu.cutFlag = false) :
    s.pressKey k = (closed s c r true false).withKsu { (closed s c r true false).ksu with
      carried := s.ksu.carriedBySplit k
      assembly := .chord
      strokeSet := keyBit k
      chordStart := some s.ksu.clock
      firstRelease := none
      hold := setTimer s.ksu.hold k (some 0) } := by
  rw [pressKey_of_splitting k hrelease hstacking, closeStroke_eq_closed hstart hfirst, hcut]

/-- The key accepted has no part in what a split carries: the other stroke keys still down. -/
theorem hasKey_carriedBySplit_accept (u : Ksu) (k j : Key) :
    hasKey ((u.accept k).carriedBySplit k) j = true ↔
      hasKey u.carried j = true ∨ (j ≠ k ∧ strokeKeyDown u j) :=
  (hasKey_carriedBySplit _ k j).trans
    (or_congr_right (and_congr_right fun hj => (accept_sameKey u hj).strokeKeyDown))

section

variable {s : State} {k : Key}

theorem releaseKey_of_carried (h : hasKey s.ksu.carried k = true) :
    s.releaseKey k = s.withKsu { s.ksu with
      carried := dropKey s.ksu.carried k, hold := setTimer s.ksu.hold k none } :=
  (releaseKey_eq s k).trans (if_pos h)

variable (hcarried : hasKey s.ksu.carried k = false)
include hcarried

theorem releaseKey_of_strokeKey (h : hasKey s.ksu.strokeSet k = true) :
    s.releaseKey k = (s.stopHold k).releaseStroke := by
  rw [releaseKey_eq, if_neg (by simp [hcarried]), if_pos h]

theorem releaseKey_of_other (h : hasKey s.ksu.strokeSet k = false) : s.releaseKey k = s := by
  rw [releaseKey_eq, if_neg (by simp [hcarried]), if_neg (by simp [h])]

end

end Sys2Proof.Machine

section

open Sys2Proof Sys2Proof.Machine Sys2Proof.Rules

/-- Settles O8: by the cases of a line's debounce timer; a tick and SET_CLOCK by their equations. -/
theorem debounceTimersAndClockKeepTime : Obligations.DebounceTimersAndClockKeepTime := by
  unfold Obligations.DebounceTimersAndClockKeepTime
  refine ⟨fun k high s => ⟨putKey s.ksu.line k high, fun j => hasKey_putKey _ _ _ _, fun h => ?_, fun h hidle => ?_,
    fun h hrunning => ?_⟩, fun s => ⟨_, tick_hold s.ksu.hold, ?_⟩, fun s v hready => ?_⟩
  · exact exec_lineLevelChange (lineTo_debounce_of_accepted h)
  · exact exec_lineLevelChange (lineTo_debounce_of_idle h hidle)
  · exact exec_lineLevelChange (lineTo_debounce_of_running h hrunning)
  · rw [← clock_succ]; rfl
  · refine ⟨_, _, fun h => ?_, fun h => ?_, fun c h => ?_, fun r h => ?_, exec_setClock hready v⟩
    · rw [h]; rfl
    · rw [h]; rfl
    · exact ⟨_, by rw [h]; rfl, moved_sub c v s.ksu.clock⟩
    · exact ⟨_, by rw [h]; rfl, moved_sub r v s.ksu.clock⟩

/-- Settles O9: an accepted press is stroke assembly's, by its state (R6, R8). -/
theorem pressIsTakenByStrokeAssembly : Obligations.PressIsTakenByStrokeAssembly := by
  unfold Obligations.PressIsTakenByStrokeAssembly
  intro k s hrunning hup hdown hhost hstuck
  have hpress : exec (.debounceExpiry k) s = .next ((s.accepted k).pressKey k) :=
    (exec_debounceExpiry hrunning).trans
      (congrArg _ (acceptLevel_of_press (iff_of_false hup (not_not.mpr hdown)) hstuck hhost hup))
  rw [hpress]
  refine ⟨fun hidle => ?_, fun hjoining => ?_, fun c r ⟨hstart, hcut, _⟩ hrelease hstacking hfirst => ?_⟩
  · exact congrArg _ (pressKey_of_idle (s := s.accepted k) k hidle)
  · exact congrArg _ (pressKey_of_joining (s := s.accepted k) k hjoining)
  · exact ⟨_, hasKey_carriedBySplit_accept s.ksu k, congrArg _
      (pressKey_of_splitting_closed (s := s.accepted k) k hrelease hstacking hstart hfirst hcut)⟩

/-- Settles O10: an accepted release is stroke assembly's by the key's place, and a masked key's change
makes no event (R7, R14). -/
theorem releaseIsTakenByStrokeAssembly : Obligations.ReleaseIsTakenByStrokeAssembly := by
  unfold Obligations.ReleaseIsTakenByStrokeAssembly
  intro k s hrunning hchange
  rw [exec_debounceExpiry hrunning]
  refine ⟨fun hdown hhost hstuck => ?_, fun hhost hstuck => ?_, fun hstuck hdown => ?_⟩
  · rw [acceptLevel_of_release hchange hstuck hhost hdown]
    refine ⟨fun hcarried => ?_, fun hcarried hset c hassembling => ⟨_, rfl, ?_⟩, fun hcarried hset => ?_⟩
    · exact congrArg _ (releaseKey_of_carried (s := s.accepted k) hcarried)
    · rw [releaseKey_of_strokeKey (s := s.accepted k) hcarried hset]
      exact releaseStroke_keyUp_uncut (s := (s.accepted k).stopHold k) hassembling
    · exact congrArg _ (releaseKey_of_other (s := s.accepted k) hcarried hset)
  · exact congrArg _ (acceptLevel_of_host hchange hstuck hhost)
  · exact congrArg _ (acceptLevel_of_stuck hchange hdown hstuck)

end
end

section
/-!
PROOF. SET_KEY_POLARITY and SET_KEY_MASK, SET_STACKING, INJECT_STROKE and KEY_INFO (R3, R4, R8, R17, R18).
-/

namespace Sys2Proof.Machine

open Sys2Proof Sys2Proof.Rules

/-! ### SET_KEY_POLARITY and SET_KEY_MASK (R3, R4) -/

theorem keySetOf_of_gt {v : Stroke} (hv : 8388607 < v.toNat) : keySetOf v = none :=
  if_neg (Nat.not_le.mpr hv)

theorem exec_setKeyPolarity_refused {s : State} (h : Ready s) {v : Stroke} (hv : 8388607 < v.toNat) :
    exec (.setKeyPolarity v) s = .next (answered s .badArg 0x11 []) :=
  exec_answers rfl rfl h rfl rfl (by rw [runCommand, cmdSetKeyPolarity, keySetOf_of_gt hv]; rfl)

theorem exec_setKeyMask_refused {s : State} (h : Ready s) {v : Stroke} (hv : 8388607 < v.toNat) :
    exec (.setKeyMask v) s = .next (answered s .badArg 0x12 []) :=
  exec_answers rfl rfl h rfl rfl (by rw [runCommand, cmdSetKeyMask, keySetOf_of_gt hv]; rfl)

/-- A command that changes the keys to `u` and releases those lost together, with the command's part in
the Command Port taken out (R166). -/
theorem exec_takenTogether {i : Instr} {c : Command} {s t : State} {u : Ksu} {code : Byte}
    {gone : Key → Prop} (hrow : commandOf i = some c) (hcode : c.code = code) (h : Ready s)
    (hcmd : runCommand c (s.beginExecution code) = t.done)
    (htaken : takenTogether s.ksu gone ((s.beginExecution code).withKsu u) t)
    (hsame : sameStroke s.ksu u) (hcut : u.cutFlag = s.ksu.cutFlag) :
    ∃ t', exec i s = .next (answered t' .done code []) ∧
      releasedTogether s.ksu gone (s.withKsu u) t' := by
  obtain ⟨t', rfl, htaken'⟩ := takenTogether.beginExecution (s := s.withKsu u) htaken
  exact ⟨t', exec_answers hrow hcode h htaken'.steady.executing htaken'.steady.restarts hcmd,
    htaken'.released hsame hcut⟩

theorem onlyPolarity.sameStroke {b u : Ksu} (h : onlyPolarity b u) :
    sameStroke b u ∧ u.cutFlag = b.cutFlag := by
  rw [h]; exact ⟨⟨rfl, rfl, rfl, rfl⟩, rfl⟩

theorem onlyHostMask.sameStroke {b u : Ksu} (h : onlyHostMask b u) :
    sameStroke b u ∧ u.cutFlag = b.cutFlag := by
  rw [h]; exact ⟨⟨rfl, rfl, rfl, rfl⟩, rfl⟩

/-! ### SET_STACKING, INJECT_STROKE and KEY_INFO (R8, R17, R18) -/

/-- A value of 0, of 1, or of neither (R184). -/
theorem bit01Of_eq (v : Byte) :
    bit01Of v = if v = 0 then some false else if v = 1 then some true else none := by
  revert v; decide

theorem isStroke_eq_false_iff (v : Stroke) :
    (!isStroke v) = true ↔ v.toNat = 0 ∨ 8388607 < v.toNat := by
  simp only [isStroke, Bool.not_eq_true', Bool.and_eq_false_iff, decide_eq_false_iff_not]
  rw [maxKeySet]
  omega

section

variable {s : State} (h : Ready s)
include h

theorem exec_setStacking (v : Byte) : exec (.setStacking v) s = .next
    (if v = 0 then answered (s.withKsu { s.ksu with stacking := false }) .done 0x13 []
    else if v = 1 then answered (s.withKsu { s.ksu with stacking := true }) .done 0x13 []
    else answered s .badArg 0x13 []) := by
  split
  · next hv => exact exec_answers rfl rfl h rfl rfl (by rw [hv]; rfl)
  · split
    · next hv => exact exec_answers rfl rfl h rfl rfl (by rw [hv]; rfl)
    · next h0 h1 =>
      refine exec_answers rfl rfl h rfl rfl ?_
      rw [runCommand, cmdSetStacking, bit01Of_eq, if_neg h0, if_neg h1]
      rfl

theorem exec_injectStroke (v : Stroke) : exec (.injectStroke v) s = .next
    (if v.toNat = 0 ∨ 8388607 < v.toNat then answered s .badArg 0x14 []
    else if s.strokeQueue.length < 16 then
      answered (s.withStrokeQueue (s.strokeQueue ++ [⟨v, s.ksu.clock, .injected, false, false⟩]))
        .done 0x14 []
    else answered s .queueFull 0x14 []) := by
  split
  · next hv =>
    refine exec_answers rfl rfl h rfl rfl ?_
    rw [runCommand, cmdInjectStroke, if_pos ((isStroke_eq_false_iff v).mpr hv)]
    rfl
  · next hv =>
    have hstroke : ¬(!isStroke v) = true := mt (isStroke_eq_false_iff v).mp hv
    split
    · next hroom =>
      refine exec_answers rfl rfl h rfl rfl ?_
      rw [runCommand, cmdInjectStroke, if_neg hstroke]
      exact if_pos hroom
    · next hfull =>
      refine exec_answers rfl rfl h rfl rfl ?_
      rw [runCommand, cmdInjectStroke, if_neg hstroke]
      exact if_neg hfull

theorem exec_keyInfo (v : Byte) {data : List Byte} (hdata : data = s.keyInfoData) :
    exec (.keyInfo v) s = .next
      (if v = 0 then answered s .done 0x16 data
      else if v = 1 then
        answered (s.withKsu { s.ksu with ghostCount := 0, lostCount := 0 }) .done 0x16 data
      else answered s .badArg 0x16 []) := by
  subst hdata
  split
  · next hv => exact exec_answers rfl rfl h rfl rfl (by rw [hv]; rfl)
  · split
    · next hv => exact exec_answers rfl rfl h rfl rfl (by rw [hv]; rfl)
    · next h0 h1 =>
      refine exec_answers rfl rfl h rfl rfl ?_
      rw [runCommand, cmdKeyInfo, bit01Of_eq, if_neg h0, if_neg h1]
      rfl

end

/-- The data of KEY_INFO: the key sets, each as three bytes, and what follows them (R185). -/
theorem keyInfoData_eq (s : State) : s.keyInfoData =
    ([s.ksu.down, s.ksu.carried, s.ksu.hostMask, s.ksu.stuckMask, s.ksu.strokeSet].flatMap
      fun keys => bytesOf24 (keys.setWidth 24)) ++ [s.ksu.assembly.code] ++
      bytesOf16 (BitVec.ofNat 16 s.ksu.ghostCount) ++ bytesOf16 (BitVec.ofNat 16 s.ksu.lostCount) ++
      [BitVec.ofNat 8 s.strokeQueue.length] := by
  simp only [State.keyInfoData, bytesOfKeys, List.flatMap_cons, List.flatMap_nil, List.append_assoc,
    List.append_nil]
  rfl

end Sys2Proof.Machine

section

open Sys2Proof Sys2Proof.Machine Sys2Proof.Rules

/-- Settles O12: the keys that turn or enter are one change of the KSU and one release (R3, R4). -/
theorem polarityAndMaskHandleEachKey : Obligations.PolarityAndMaskHandleEachKey := by
  unfold Obligations.PolarityAndMaskHandleEachKey
  refine ⟨fun s v h hv => ⟨exec_setKeyPolarity_refused h hv, exec_setKeyMask_refused h hv⟩,
    fun s v h hv => ?_, fun s v h hv => ?_⟩
  · obtain ⟨u, t, hcmd, honly, hset, hturned, htaken⟩ :=
      cmdSetKeyPolarity_handles (s.beginExecution 0x11) hv
    obtain ⟨hsame, hcut⟩ := onlyPolarity.sameStroke (b := s.ksu) honly
    obtain ⟨t', hexec, hreleased⟩ :=
      exec_takenTogether (i := .setKeyPolarity v) rfl rfl h hcmd htaken hsame hcut
    exact ⟨u, t', hexec, honly, hset, hturned, hreleased⟩
  · obtain ⟨u, t, hcmd, honly, hset, hremasked, htaken⟩ :=
      cmdSetKeyMask_handles (s.beginExecution 0x12) hv
    obtain ⟨hsame, hcut⟩ := onlyHostMask.sameStroke (b := s.ksu) honly
    obtain ⟨t', hexec, hreleased⟩ :=
      exec_takenTogether (i := .setKeyMask v) rfl rfl h hcmd htaken hsame hcut
    exact ⟨u, t', hexec, honly, hset, hremasked, hreleased⟩

/-- Settles O13: each command by the cases of its value. -/
theorem stackingInjectionAndKeyInfo : Obligations.StackingInjectionAndKeyInfo :=
  ⟨fun _ v h => exec_setStacking h v, fun _ v h => exec_injectStroke h v,
    fun s v h => ⟨s.ksu.down, hasKey_down s.ksu, fun _ hdata =>
      exec_keyInfo h v (hdata.trans (keyInfoData_eq s).symm)⟩⟩

end
end

section
/-!
PROOF. A RESTART in every block, and the hard reset (R19, R20, R36, R68, R72, R73, R95, R96, R108, R133,
R134, R140, R158, R159, R160, R171, R178, R180).
-/

namespace Sys2Proof.Machine

open Sys2Proof Sys2Proof.Rules

/-! ### Probes withdrawn (R68, R72) -/

/-- A withdrawal by tag, in the words of the statements. -/
theorem withMp_withdraw (s : State) (tags : List (Fin 32)) :
    s.withMp (s.mp.withdraw tags) = probesWithdrawn s tags := by
  have hprobes : (s.mp.withdraw tags).probes = (probesWithdrawn s tags).mp.probes := by
    refine List.filterMap_congr fun p _ => ?_
    cases hwalk : p.walk <;> simp
  have hgates : (s.mp.withdraw tags).gates = (probesWithdrawn s tags).mp.gates := by
    refine Vector.ext fun i hi => ?_
    simp only [Mp.withdraw, probesWithdrawn, State.withMp_mp, Vector.getElem_ofFn, Vector.getElem_map]
    congr 1
    refine List.filter_congr fun c _ => ?_
    cases c with
    | probe tag => simp [Claim.notOn]
    | upkeep => rfl
  exact congrArg s.withMp (by
    rw [show s.mp.withdraw tags = { s.mp with
      probes := (s.mp.withdraw tags).probes, gates := (s.mp.withdraw tags).gates } from rfl, hprobes, hgates]
    rfl)

theorem allTags_eq : allTags = (List.range 32).map (Fin.ofNat 32) := by decide

/-! ### Channels started afresh (R140, R158) -/

theorem queueResync_eq_resynced (text : List Byte) (c : Channel) :
    c.queueResync text = resynced text c := by
  cases hmode : c.settings.mode <;>
    simp only [Channel.queueResync, resynced, hmode] <;> rfl

theorem loadKeepalive_eq (c : Channel) : c.loadKeepalive = { c with keep := keepLoaded c } := by
  unfold Channel.loadKeepalive keepLoaded
  split <;> rfl

theorem startWith_eq_started (text : List Byte) (stopped : Bool) (c : Channel) :
    c.startWith text stopped = started text stopped c := by
  rw [Channel.startWith, loadKeepalive_eq, queueResync_eq_resynced]
  cases hmode : c.settings.mode <;> simp only [started, resynced, hmode, keepLoaded] <;> rfl

/-- The stopped flag of a channel that starts afresh, by its flow control (R140). -/
theorem restarted_of_open {c : Channel} (h : c.state ≠ .down) :
    c.restarted = started [] c.stoppedAtRestart c := by
  rw [Channel.restarted, if_neg h, startWith_eq_started]

theorem restartEffect_chan (s : State) (n : ChanNo) :
    s.restartEffect.chan n = (s.chan n).restarted := by
  simp [State.restartEffect, State.chan, State.restartKeys]

/-! ### The SPI port and the hard reset (R171, R178, R180) -/

theorem discard_eq_fixedDiscarded (kind : Transfer) (p : Spi) :
    p.discard kind = fixedDiscarded kind p := by
  cases p with
  | idle => rfl
  | ignored => rfl
  | busy t => by_cases h : t.kind = some kind <;> simp [Spi.discard, fixedDiscarded, h]

/-- A transaction in progress is ended, and what is selected is ignored. -/
theorem spi_hardReset (p : Spi) :
    (p = .idle → p.hardReset = .idle) ∧ (p ≠ .idle → p.hardReset = .ignored) := by
  cases p <;> simp [Spi.hardReset]

theorem slotReset_slot (n : SlotNo) :
    Dict.reset.slots[n] = ⟨.vacant, .shut, false, 0, 0, 0, 0, 0, none, n⟩ := by
  fin_cases n <;> rfl

end Sys2Proof.Machine

section

open Sys2Proof Sys2Proof.Machine Sys2Proof.Rules

/-- Settles O50: block by block. -/
theorem restartTakesEffectInEveryBlock : Obligations.RestartTakesEffectInEveryBlock := by
  unfold Obligations.RestartTakesEffectInEveryBlock
  intro s
  refine ⟨fun h => ?_, fun hrestarts hfree => ⟨s.restartEffect, ?_, ?_, hasKey_downUnmasked s.ksu, fun n => ?_⟩⟩
  · exact congrArg _ (if_neg fun ⟨hrestarts, hfree⟩ => h.elim hrestarts fun hcommand => by
      rw [Option.isNone_iff_eq_none.mp hfree] at hcommand
      cases hcommand)
  · exact congrArg _ (if_pos ⟨hrestarts, by rw [hfree]; rfl⟩)
  · rw [← allTags_eq, ← withMp_withdraw, ← discard_eq_fixedDiscarded]
    rfl
  · rw [restartEffect_chan]
    refine ⟨fun hdown => if_pos hdown, fun hopen => ?_⟩
    rw [restarted_of_open hopen]
    congr 1
    rw [Channel.stoppedAtRestart]
    cases (s.chan n).settings.flow <;> rfl

/-- Settles O52: block by block. -/
theorem hardResetGivesEveryResetValue : Obligations.HardResetGivesEveryResetValue := by
  unfold Obligations.HardResetGivesEveryResetValue
  intro s
  refine ⟨_, rfl, rfl, fun k => ⟨?_, hardReset_debounce s.ksu k⟩, rfl, rfl, fun n => ?_, rfl, rfl, rfl, rfl,
    fun n => ?_, rfl, fun n => ?_, fun n => ?_, rfl, fun h => ?_, fun h => ?_, rfl, rfl⟩
  · simp [Ksu.hardReset, Ksu.reset]
  · exact slotReset_slot n
  · simp [State.gate, State.reset, Mp.reset]
  · simp [State.reset]
  · simp [State.chan, Channel.reset, ChanSettings.reset]
  · exact (spi_hardReset s.spi).1 h
  · exact (spi_hardReset s.spi).2 h

end
end

section
/-!
PROOF. A hold timer at the stuck limit, and SET_KEY_TIMING (R5, R10, R12, R16).
-/

namespace Sys2Proof.Machine

open Sys2Proof Sys2Proof.Rules

/-! ### Reaching the stuck limit (R12) -/

theorem setTimer_setTimer (t : Vector (Option Nat) 23) (k : Key) (v w : Option Nat) :
    setTimer (setTimer t k v) k w = setTimer t k w := by simp [setTimer]

section

variable {s : State} {k : Key}

/-- The hold timer of a stuck key has stopped already. -/
theorem stopHold_stuckKey (s : State) (k : Key) (cut : Bool) :
    ((s.stuckKey k).withCut cut).stopHold k = (s.stuckKey k).withCut cut :=
  congrArg (fun h => ((s.stuckKey k).withCut cut).withKsu
    { ((s.stuckKey k).withCut cut).ksu with hold := h }) (setTimer_setTimer _ k none none)

theorem cutKey_of_carried (h : hasKey s.ksu.carried k = true) (hcut : s.ksu.cutFlag = false) :
    s.cutKey k = (s.stuckKey k).withKsu { (s.stuckKey k).ksu with
      carried := dropKey s.ksu.carried k } := by
  have hrelease : ((s.stuckKey k).withCut true).releaseKey k = ((s.stuckKey k).withKsu
      { (s.stuckKey k).ksu with carried := dropKey s.ksu.carried k }).withCut true := by
    rw [releaseKey_of_carried (s := (s.stuckKey k).withCut true) h]
    exact congrArg (fun hold => ((s.stuckKey k).withCut true).withKsu
      { ((s.stuckKey k).withCut true).ksu with carried := dropKey s.ksu.carried k, hold := hold })
      (setTimer_setTimer _ k none none)
  rw [cutKey_eq, if_pos (by simp [h]), hrelease]
  exact State.withCut_self (s := (s.stuckKey k).withKsu
    { (s.stuckKey k).ksu with carried := dropKey s.ksu.carried k }) hcut

theorem cutKey_of_strokeKey (h : strokeKeyDown s.ksu k) :
    s.cutKey k = ((s.stuckKey k).withCut true).releaseStroke.withCut false := by
  have hstill : hasKey s.ksu.stillDown k = true := (hasKey_stillDown _ _).mpr h
  obtain ⟨hset, -, -, -, hcarried⟩ := h
  rw [cutKey_eq, if_pos (by simp [hstill]),
    releaseKey_of_strokeKey (s := (s.stuckKey k).withCut true) hcarried hset, stopHold_stuckKey]

theorem cutKey_of_other (hcarried : hasKey s.ksu.carried k = false) (h : ¬strokeKeyDown s.ksu k)
    (hcut : s.ksu.cutFlag = false) : s.cutKey k = s.stuckKey k := by
  have hstill : ¬hasKey s.ksu.stillDown k = true := mt (hasKey_stillDown _ _).mp h
  rw [cutKey_eq, if_neg (by simp [hcarried, hstill])]
  exact State.withCut_self (s := s.stuckKey k) hcut

end

theorem exec_holdTimerExpiry {s : State} {k : Key} (h : s.ksu.hold[k].isSome = true) :
    exec (.holdTimerExpiry k) s = .next (s.cutKey k) := congrArg _ (if_pos h)

/-! ### Keys cut one after another (R5) -/

theorem releaseStroke_debounce (s : State) : s.releaseStroke.ksu.debounce = s.ksu.debounce := by
  rcases releaseStroke_ksu s with ⟨-, h⟩ | ⟨-, g, l, h⟩ <;> rw [h] <;> rfl

theorem releaseKey_debounce (s : State) (k : Key) : (s.releaseKey k).ksu.debounce = s.ksu.debounce := by
  rw [releaseKey_eq]
  split
  · rfl
  · split
    · exact releaseStroke_debounce (s.stopHold k)
    · rfl

theorem cutKey_debounce (s : State) (k : Key) : (s.cutKey k).ksu.debounce = s.ksu.debounce := by
  rw [cutKey_eq]
  split
  · exact releaseKey_debounce ((s.stuckKey k).withCut true) k
  · rfl

theorem foldl_cutKey_debounce (l : List Key) (s : State) :
    (l.foldl State.cutKey s).ksu.debounce = s.ksu.debounce := by
  induction l generalizing s with
  | nil => rfl
  | cons k l ih => exact (ih _).trans (cutKey_debounce s k)

theorem releaseKey_beginExecution (s : State) (k : Key) (c : Byte) :
    (s.beginExecution c).releaseKey k = (s.releaseKey k).beginExecution c := by
  cases hcarried : hasKey s.ksu.carried k with
  | true =>
      rw [releaseKey_of_carried hcarried, releaseKey_of_carried (s := s.beginExecution c) hcarried]
      rfl
  | false =>
      cases hset : hasKey s.ksu.strokeSet k with
      | true =>
          rw [releaseKey_of_strokeKey hcarried hset,
            releaseKey_of_strokeKey (s := s.beginExecution c) hcarried hset]
          exact releaseStroke_beginExecution (s.stopHold k) c
      | false =>
          rw [releaseKey_of_other hcarried hset,
            releaseKey_of_other (s := s.beginExecution c) hcarried hset]

theorem cutKey_beginExecution (s : State) (k : Key) (c : Byte) :
    (s.beginExecution c).cutKey k = (s.cutKey k).beginExecution c := by
  have hrelease := releaseKey_beginExecution ((s.stuckKey k).withCut true) k c
  rw [cutKey_eq, cutKey_eq]
  split
  · rw [if_pos (by assumption)]; exact congrArg (State.withCut · false) hrelease
  · rw [if_neg (by assumption)]; rfl

theorem foldl_cutKey_beginExecution (l : List Key) (s : State) (c : Byte) :
    l.foldl State.cutKey (s.beginExecution c) = (l.foldl State.cutKey s).beginExecution c := by
  induction l generalizing s with
  | nil => rfl
  | cons k l ih => rw [List.foldl_cons, List.foldl_cons, cutKey_beginExecution, ih]

/-- The hold timers of different keys expire one after another: each is still running at its turn. -/
theorem execAll_holdTimerExpiry : ∀ (l : List Key) (s : State), l.Nodup →
    (∀ k ∈ l, s.ksu.hold[k].isSome = true) →
    execAll (l.map .holdTimerExpiry) s = .next (l.foldl State.cutKey s)
  | [], _, _, _ => rfl
  | k :: l, s, hnodup, hheld => by
      obtain ⟨hk, hl⟩ := List.nodup_cons.mp hnodup
      rw [List.map_cons, execAll, exec_holdTimerExpiry (hheld k List.mem_cons_self)]
      refine execAll_holdTimerExpiry l (s.cutKey k) hl fun j hj => ?_
      rw [cutKey_hold s (ne_of_mem_of_not_mem hj hk)]
      exact hheld j (List.mem_cons_of_mem k hj)

/-! ### SET_KEY_TIMING (R5) -/

/-- `s` with the limits of SET_KEY_TIMING set, each clamped into its range. -/
def State.withTiming (s : State) (d g : Byte) (st : BitVec 16) : State :=
  s.withKsu { s.ksu with
    debounceTime := max 2 (min 50 d.toNat)
    ghostMin := min 30 g.toNat
    stuckLimit := max 500 (min 10000 st.toNat) }

theorem cmdSetKeyTiming_eq (d g : Byte) (st : BitVec 16) (s : State) :
    cmdSetKeyTiming d g st s =
      ((s.withTiming d g st).ksu.overdue.foldl State.cutKey (s.withTiming d g st)).done := by
  have hghost : clamp 0 30 g.toNat = min 30 g.toNat := by simp [clamp]
  rw [cmdSetKeyTiming, hghost]
  rfl

theorem exec_setKeyTiming {s : State} (h : Ready s) (d g : Byte) (st : BitVec 16) :
    exec (.setKeyTiming d g st) s = .next (answered
      ((s.withTiming d g st).ksu.overdue.foldl State.cutKey (s.withTiming d g st)) .done 0x10 []) := by
  have hsteady := foldl_cutKey_steady (s.withTiming d g st).ksu.overdue (s.withTiming d g st)
  refine exec_answers rfl rfl h hsteady.executing hsteady.restarts ?_
  rw [runCommand, cmdSetKeyTiming_eq]
  exact congrArg State.done
    (foldl_cutKey_beginExecution (s.withTiming d g st).ksu.overdue (s.withTiming d g st) 0x10)

end Sys2Proof.Machine

section

open Sys2Proof Sys2Proof.Machine Sys2Proof.Rules

/-- Settles O11: a cut by the place of its key, and SET_KEY_TIMING as its cuts one after another. -/
theorem holdExpiryCutsTheKey : Obligations.HoldExpiryCutsTheKey := by
  unfold Obligations.HoldExpiryCutsTheKey
  refine ⟨fun k s hheld => ?_, fun k s hidle => ?_, fun s d g st h => ⟨_, rfl, ?_⟩⟩
  · rw [exec_holdTimerExpiry hheld]
    refine ⟨fun hcarried hcut => ?_, fun _ hdown c hassembling => ⟨_, rfl, ?_⟩,
      fun hcarried hother hcut => ?_⟩
    · exact congrArg _ (cutKey_of_carried hcarried hcut)
    · rw [cutKey_of_strokeKey hdown]
      exact releaseStroke_keyUp (s := s.stuckKey k) true hassembling
    · exact congrArg _ (cutKey_of_other hcarried hother hcut)
  · exact congrArg _ (if_neg (by rw [hidle]; exact Bool.false_ne_true))
  · intro caught hcaught
    have hoverdue : caught = (s.withTiming d g st).ksu.overdue := by rw [hcaught, overdue_eq]; rfl
    rw [hoverdue]
    exact ⟨_, execAll_holdTimerExpiry _ (s.withTiming d g st) (nodup_allKeys.filter _)
      (fun k hk => mem_overdue hk), foldl_cutKey_debounce _ _, exec_setKeyTiming h d g st⟩

end
end

section
/-!
SUPPORT. What every step does to the dictionary store and the Memory Port. Most steps leave the descriptors
and the upkeep operation alone and at most withdraw probes; the others are listed once, with what they have
looked at, so that a statement about the slots is a case analysis over that list.
-/

namespace Sys2Proof.Machine

open Sys2Proof Sys2Proof.Rules

/-! ### Steps beside the store -/

/-- `t` has the Dictionary Store and the Memory Port of `s`. -/
structure StoreKept (s t : State) : Prop where
  dict : t.dict = s.dict
  mp : t.mp = s.mp

theorem StoreKept.refl (s : State) : StoreKept s s := ⟨rfl, rfl⟩

theorem StoreKept.trans {s t u : State} (h : StoreKept s t) (k : StoreKept t u) : StoreKept s u :=
  ⟨k.dict.trans h.dict, k.mp.trans h.mp⟩

theorem StoreKept.slot {s t : State} (h : StoreKept s t) (n : SlotNo) : t.slot n = s.slot n :=
  congrArg (fun d : Dict => d.slots[n]) h.dict

theorem StoreKept.gate {s t : State} (h : StoreKept s t) (n : SlotNo) : t.gate n = s.gate n :=
  congrArg (fun m : Mp => m.gates[n]) h.mp

/-- `t` has the descriptors and the upkeep operation of `s`, and no probes but those of `s`, of which some
may have been withdrawn (R68). -/
structure StoreThinned (s t : State) : Prop where
  dict : t.dict = s.dict
  upkeep : t.mp.upkeep = s.mp.upkeep
  probes : ∀ q ∈ t.mp.probes, ∃ p ∈ s.mp.probes, p.slot = q.slot ∧ p.walk = q.walk

theorem StoreKept.thinned {s t : State} (h : StoreKept s t) : StoreThinned s t :=
  ⟨h.dict, by rw [h.mp], fun q hq => ⟨q, h.mp ▸ hq, rfl, rfl⟩⟩

namespace StoreThinned

theorem refl (s : State) : StoreThinned s s := (StoreKept.refl s).thinned

theorem trans {s t u : State} (h : StoreThinned s t) (k : StoreThinned t u) : StoreThinned s u where
  dict := k.dict.trans h.dict
  upkeep := k.upkeep.trans h.upkeep
  probes := fun q hq => by
    obtain ⟨p, hp, hslot, hwalk⟩ := k.probes q hq
    obtain ⟨r, hr, hslot', hwalk'⟩ := h.probes p hp
    exact ⟨r, hr, hslot'.trans hslot, hwalk'.trans hwalk⟩

theorem slot {s t : State} (h : StoreThinned s t) (n : SlotNo) : t.slot n = s.slot n :=
  congrArg (fun d : Dict => d.slots[n]) h.dict

end StoreThinned

theorem withKsu_kept (s : State) (u : Ksu) : StoreKept s (s.withKsu u) := ⟨rfl, rfl⟩

theorem withTe_kept (s : State) (t : Te) : StoreKept s (s.withTe t) := ⟨rfl, rfl⟩

theorem withCp_kept (s : State) (c : Cp) : StoreKept s (s.withCp c) := ⟨rfl, rfl⟩

theorem withChan_kept (s : State) (n : ChanNo) (c : Channel) : StoreKept s (s.withChan n c) := ⟨rfl, rfl⟩

theorem setNotices_kept (s : State) (m : Byte) : StoreKept s (s.setNotices m) := ⟨rfl, rfl⟩

theorem respond_kept (s : State) (st : Status) (d : List Byte) : StoreKept s (s.respond st d) :=
  ⟨by simp, by simp⟩

theorem StoreKept.done {s t : State} (h : StoreKept s t) : StoreKept s t.done :=
  h.trans (respond_kept t _ _)

theorem StoreThinned.done {s t : State} (h : StoreThinned s t) : StoreThinned s t.done :=
  h.trans (respond_kept t _ _).thinned

/-- A probe is withdrawn by leaving the tag list or by its mark, its slot and walk as they were (R68). -/
theorem withdraw_thinned (s : State) (tags : List (Fin 32)) :
    StoreThinned s (s.withMp (s.mp.withdraw tags)) where
  dict := rfl
  upkeep := rfl
  probes := fun q hq => by
    obtain ⟨p, hp, hq⟩ := List.mem_filterMap.mp hq
    refine ⟨p, hp, ?_⟩
    split at hq
    · split at hq <;> cases hq
      exact ⟨rfl, rfl⟩
    · cases hq; exact ⟨rfl, rfl⟩

/-! ### The TE -/

theorem clearTable_thinned (s : State) (t : ProbeTable) : StoreThinned s (s.clearTable t) :=
  (withdraw_thinned s (pendingTags t.pairs)).trans (StoreKept.thinned ⟨rfl, rfl⟩)

theorem completeResolution_thinned (s : State) (t : ProbeTable) (d : Decision) :
    StoreThinned s (s.completeResolution t d) :=
  (clearTable_thinned s t).trans
    (StoreKept.thinned ⟨by simp [State.completeResolution], by simp [State.completeResolution]⟩)

theorem completeReplayed_thinned (s : State) (t : ProbeTable) (r : Replay) (d : Decision) :
    StoreThinned s (s.completeReplayed t r d) :=
  (clearTable_thinned s t).trans
    (StoreKept.thinned ⟨by simp [State.completeReplayed], by simp [State.completeReplayed]⟩)

theorem tryDecide_thinned (s : State) : StoreThinned s s.tryDecide := by
  unfold State.tryDecide
  repeat' split
  · exact .refl s
  · exact .refl s
  · exact completeResolution_thinned s _ _
  · exact completeReplayed_thinned s _ _ _

theorem deliver_thinned (s : State) (tags : List (Fin 32)) (r : PairResult) :
    StoreThinned s (s.deliver tags r) :=
  (withTe_kept s _).thinned.trans (tryDecide_thinned _)

theorem resolve_thinned (s : State) (v : Stroke) : StoreThinned s (s.resolve v) :=
  (withTe_kept s _).thinned.trans (tryDecide_thinned _)

theorem takeStroke_thinned (s : State) (r : StrokeRecord) (rest : List StrokeRecord) :
    StoreThinned s (s.takeStroke r rest) := by
  have hreported : StoreThinned s
      (((s.withStrokeQueue rest).pushReport (s.strokeReport r)).withTe s.te.restartTimer) :=
    StoreKept.thinned ⟨rfl, rfl⟩
  unfold State.takeStroke
  dsimp only
  split
  · split
    · exact hreported
    · exact hreported.trans (StoreKept.thinned ⟨by simp, by simp⟩)
  · exact hreported.trans (resolve_thinned _ _)

theorem serviceStroke_thinned (s : State) : StoreThinned s s.serviceStroke := by
  unfold State.serviceStroke
  repeat' split
  · exact .refl s
  · exact takeStroke_thinned s _ _
  · exact .refl s

theorem serviceOrder_thinned (s : State) : StoreThinned s s.serviceOrder := by
  unfold State.serviceOrder
  repeat' split
  · exact StoreKept.thinned ⟨by simp, by simp⟩
  · exact StoreKept.thinned ⟨by simp, by simp⟩
  · exact serviceStroke_thinned s

theorem restartEffect_thinned (s : State) : StoreThinned s s.restartEffect :=
  (withdraw_thinned s allTags).trans
    (StoreKept.thinned ⟨by simp [State.restartEffect], by simp [State.restartEffect, Mp.withdrawAll]⟩)

theorem restartIfFree_thinned (s : State) : StoreThinned s s.restartIfFree := by
  unfold State.restartIfFree
  split
  · exact restartEffect_thinned s
  · exact .refl s

/-! ### Commands that take no slot -/

/-- The commands of chapters 2 and 3. -/
def ofDictionary : Command → Bool
  | .setMemory .. | .setWindow .. | .format .. | .releaseSlot .. | .setAccess .. | .setRanks ..
  | .lockSlot .. | .slotInfo .. | .addEntry .. | .replaceEntry .. | .retireEntry ..
  | .fetchEntry .. => true
  | _ => false

theorem foldl_kept {f : State → Key → State} (h : ∀ s k, StoreKept s (f s k)) (l : List Key)
    (s : State) : StoreKept s (l.foldl f s) := by
  induction l generalizing s with
  | nil => exact .refl s
  | cons k l ih => exact (h s k).trans (ih _)

theorem cmdSetKeyTiming_kept (d g : Byte) (st : BitVec 16) (s : State) :
    StoreKept s (cmdSetKeyTiming d g st s) :=
  ((withKsu_kept s _).trans (foldl_kept (fun s k => ⟨by simp, by simp⟩) _ _)).done

theorem cmdSetKeyPolarity_kept (v : Stroke) (s : State) : StoreKept s (cmdSetKeyPolarity v s) := by
  unfold cmdSetKeyPolarity
  split
  · exact respond_kept s _ _
  · exact (((withKsu_kept s _).trans (foldl_kept (fun s k => ⟨by simp, by simp⟩) _ _)).trans
      (foldl_kept (fun s k => ⟨by simp, by simp⟩) _ _)).done

theorem cmdSetKeyMask_kept (v : Stroke) (s : State) : StoreKept s (cmdSetKeyMask v s) := by
  unfold cmdSetKeyMask
  split
  · exact respond_kept s _ _
  · exact (((withKsu_kept s _).trans (foldl_kept (fun s k => ⟨by simp, by simp⟩) _ _)).trans
      (foldl_kept (fun s k => ⟨by simp, by simp⟩) _ _)).done

theorem cmdStart_thinned (s : State) : StoreThinned s (cmdStart s) := by
  unfold cmdStart
  dsimp only
  refine StoreThinned.done ?_
  split
  · exact ((withTe_kept s _).trans (withTe_kept _ _)).thinned.trans (serviceOrder_thinned _)
  · exact (withTe_kept s _).thinned

theorem cmdSetMaintShare_thinned (v : Byte) (s : State) : StoreThinned s (cmdSetMaintShare v s) := by
  unfold cmdSetMaintShare
  split
  · exact StoreThinned.done ⟨rfl, rfl, fun q hq => ⟨q, hq, rfl, rfl⟩⟩
  · exact (respond_kept s _ _).thinned

/-- A command of another chapter than the dictionary's leaves descriptors and upkeep operation alone. -/
theorem runCommand_thinned (c : Command) (h : ofDictionary c = false) (s : State) :
    StoreThinned s (runCommand c s) := by
  cases c with
  | setKeyTiming d g st => exact (cmdSetKeyTiming_kept d g st s).thinned
  | setKeyPolarity v => exact (cmdSetKeyPolarity_kept v s).thinned
  | setKeyMask v => exact (cmdSetKeyMask_kept v s).thinned
  | setStacking v =>
      rw [runCommand, cmdSetStacking]
      split <;> exact StoreKept.thinned ⟨by simp, by simp⟩
  | injectStroke v =>
      rw [runCommand, cmdInjectStroke]
      repeat' split
      all_goals exact StoreKept.thinned ⟨by simp, by simp⟩
  | keyInfo v =>
      rw [runCommand, cmdKeyInfo]
      split <;> exact StoreKept.thinned ⟨by simp, by simp⟩
  | setMaintShare v => exact cmdSetMaintShare_thinned v s
  | start => exact cmdStart_thinned s
  | windowInfo r =>
      rw [runCommand, cmdWindowInfo]
      repeat' split
      all_goals exact StoreKept.thinned ⟨by simp, by simp⟩
  | setSpeaker n l =>
      rw [runCommand, cmdSetSpeaker]
      repeat' split
      all_goals exact StoreKept.thinned ⟨by simp, by simp⟩
  | setChannel ch m f d r st ka =>
      rw [runCommand, cmdSetChannel]
      repeat' split
      all_goals exact StoreKept.thinned ⟨by simp, by simp⟩
  | channelOn ch =>
      rw [runCommand, cmdChannelOn]
      repeat' split
      all_goals exact StoreKept.thinned ⟨by simp, by simp⟩
  | channelOff ch =>
      rw [runCommand, cmdChannelOff]
      repeat' split
      all_goals exact StoreKept.thinned ⟨by simp, by simp⟩
  | channelInfo ch =>
      rw [runCommand, cmdChannelInfo]
      split <;> exact StoreKept.thinned ⟨by simp, by simp⟩
  | setClock | stop | setSettleTime | flush | clearNotices | setInterrupts =>
      exact StoreKept.thinned ⟨(State.respond_frame _ _ _).2.2.1, (State.respond_frame _ _ _).2.2.2.2.1⟩
  | _ => cases h

end Sys2Proof.Machine
end

section
/-!
SUPPORT. The commands of the dictionary, and every step, by what they do to the dictionary store and the
Memory Port.
-/

namespace Sys2Proof.Machine

open Sys2Proof Sys2Proof.Rules

/-! ### The commands of chapters 2 and 3 -/

/-- What a command that answers at once has done to the store before its answer. -/
inductive StoreChanged (s : State) : State → Prop
  | thinned {u : State} (h : StoreThinned s u) : StoreChanged s u
  /-- SET_MEMORY (R21) -/
  | memory {mib : Nat} (size : mib ∈ memorySizes) (vacant : ∀ n, (s.slot n).state = .vacant) :
      StoreChanged s (s.withDict { s.dict with memMiB := mib })
  /-- SET_WINDOW (R23) -/
  | window {n : SlotNo} {base size : Nat} (lock : (s.slot n).lock = false)
      (state : (s.slot n).state = .vacant ∨ (s.slot n).state = .unformatted)
      (legal : size ∈ windowSizes) (aligned : size ∣ base) (inside : base + size ≤ s.dict.memBytes)
      (apart : s.overlaps n base size = false) :
      StoreChanged s (s.withSlot n ((s.slot n).unformatted base size))
  /-- SET_ACCESS (R28) -/
  | access {n : SlotNo} (a : Access) (lock : (s.slot n).lock = false)
      (ready : (s.slot n).state = .ready) : StoreChanged s (s.giveAccess n a)
  /-- SET_RANKS (R31) -/
  | ranks {order : List SlotNo} (length : order.length = 4) (differ : order.Nodup) :
      StoreChanged s (s.withDict (s.dict.withRanks order)).signalRescan.noteViewChange
  /-- LOCK_SLOT (R32) -/
  | lock {n : SlotNo} (ready : (s.slot n).state = .ready) :
      StoreChanged s (s.withSlot n { s.slot n with lock := true })

/-- The operation that a command begins in a slot, and the state it leaves before its claim. -/
inductive OperationBegun (s : State) : State → SlotNo → UpkeepOp → Prop
  /-- FORMAT (R24) -/
  | format {n : SlotNo} {buckets : Nat} (lock : (s.slot n).lock = false)
      (formattable : (s.slot n).formattable = true) (legal : buckets ∈ bucketCounts)
      (room : 4 * buckets ≤ (s.slot n).size / 4) :
      OperationBegun s (s.withSlot n ((s.slot n).formatting buckets)) n (.format n 0)
  /-- RELEASE_SLOT (R27) -/
  | release {n : SlotNo} (lock : (s.slot n).lock = false) (state : (s.slot n).state ≠ .formatting)
      (access : (s.slot n).access = .shut) : OperationBegun s s n (.release n)
  /-- an entry operation or FETCH_ENTRY (R49, R57, R58) -/
  | entry {n : SlotNo} {kind : EntryKind} {outline : List Stroke} {flags : Byte} {text : List Byte}
      {any : Bool} {later : List SlotNo} (lock : kind = .fetch ∨ (s.slot n).lock = false)
      (access : (s.slot n).access ≠ .shut) (consulted : ∀ m ∈ later, (s.slot m).consulted = true) :
      OperationBegun s s n (.entry (EntryOp.start kind n (s.slot n) outline flags text any later))

/-- How a command ends, as far as the store goes: with its answer, or with the claim of its operation. -/
def commandStores (s t : State) : Prop :=
  (∃ u, StoreChanged s u ∧ StoreKept u t) ∨ ∃ u n op, OperationBegun s u n op ∧ t = u.beginUpkeep n op

theorem commandStores.changed {s u : State} (h : StoreChanged s u) : commandStores s u.done :=
  .inl ⟨u, h, respond_kept u _ _⟩

theorem commandStores.thinned {s t : State} (h : StoreThinned s t) : commandStores s t :=
  .inl ⟨t, .thinned h, .refl t⟩

theorem commandStores.refuse (s : State) (st : Status) : commandStores s (s.refuse st) :=
  .thinned (respond_kept s _ _).thinned

theorem commandStores.claim {s u : State} {n : SlotNo} {op : UpkeepOp} (h : OperationBegun s u n op) :
    commandStores s (u.beginUpkeep n op) := .inr ⟨u, n, op, h, rfl⟩

theorem all_allFour {p : SlotNo → Bool} : allFour.all p = true ↔ ∀ n, p n = true := by
  simp [allFour, Fin.forall_fin_succ]

theorem cmdSetMemory_stores (mib : Byte) (s : State) : commandStores s (cmdSetMemory mib s) := by
  unfold cmdSetMemory
  split
  · exact .refuse s _
  · next hsize =>
    split
    · exact .refuse s _
    · next hvacant =>
      have hall : ∀ n, ((s.slot n).state == .vacant) = true := all_allFour.mp (by simpa using hvacant)
      exact .changed (.memory (by simpa using hsize) fun n => beq_iff_eq.mp (hall n))

theorem cmdSetWindow_stores (v : Byte) (base size : BitVec 32) (s : State) :
    commandStores s (cmdSetWindow v base size s) := by
  unfold cmdSetWindow
  split
  · exact .refuse s _
  · next n _ =>
    split
    · exact .refuse s _
    next hlock =>
    split
    · exact .refuse s _
    next hstate =>
    split
    · exact .refuse s _
    next hlegal =>
    split
    · exact .refuse s _
    next hinside =>
    split
    · exact .refuse s _
    next hapart =>
    simp only [not_or, not_and_or, not_not] at hstate hlegal
    exact .changed (.window (Bool.not_eq_true _ ▸ hlock) hstate.2 (by simpa using hlegal.1)
      (Nat.dvd_of_mod_eq_zero hlegal.2) (not_lt.mp hinside) (Bool.not_eq_true _ ▸ hapart))

theorem cmdFormat_stores (v : Byte) (buckets : BitVec 32) (s : State) :
    commandStores s (cmdFormat v buckets s) := by
  unfold cmdFormat
  split
  · exact .refuse s _
  · next n _ =>
    split
    · exact .refuse s _
    next hlock =>
    split
    · exact .refuse s _
    next hstate =>
    split
    · exact .refuse s _
    next hlegal =>
    simp only [not_or, not_not, not_lt] at hlegal
    exact .claim (.format (Bool.not_eq_true _ ▸ hlock) (by simpa using hstate) (by simpa using hlegal.1)
      hlegal.2)

theorem cmdReleaseSlot_stores (v : Byte) (s : State) : commandStores s (cmdReleaseSlot v s) := by
  unfold cmdReleaseSlot
  split
  · exact .refuse s _
  · next n _ =>
    split
    · exact .refuse s _
    next hlock =>
    split
    · exact .refuse s _
    next hstate =>
    obtain ⟨hstate, haccess⟩ := not_or.mp hstate
    exact .claim (.release (Bool.not_eq_true _ ▸ hlock) hstate (not_not.mp haccess))

theorem cmdSetAccess_stores (v code : Byte) (s : State) : commandStores s (cmdSetAccess v code s) := by
  unfold cmdSetAccess
  split
  · split
    · exact .refuse s _
    next hlock =>
    split
    · exact .refuse s _
    next hready => exact .changed (.access _ (Bool.not_eq_true _ ▸ hlock) (not_not.mp hready))
  · exact .refuse s _

/-- The slot numbers SET_RANKS takes are a permutation of the slots (R31). -/
theorem rankListOf_permutes {r0 r1 r2 r3 : Byte} {order : List SlotNo}
    (h : rankListOf r0 r1 r2 r3 = some order) : order.length = 4 ∧ order.Nodup := by
  unfold rankListOf at h
  split at h
  · split at h
    · next hdiffer => cases h; exact ⟨rfl, hdiffer⟩
    · cases h
  · cases h

theorem cmdSetRanks_stores (r0 r1 r2 r3 : Byte) (s : State) :
    commandStores s (cmdSetRanks r0 r1 r2 r3 s) := by
  unfold cmdSetRanks
  split
  · exact .refuse s _
  · next order horder =>
    obtain ⟨hlength, hdiffer⟩ := rankListOf_permutes horder
    exact .changed (.ranks hlength hdiffer)

theorem cmdLockSlot_stores (v : Byte) (s : State) : commandStores s (cmdLockSlot v s) := by
  unfold cmdLockSlot
  split
  · exact .refuse s _
  · split
    · exact .refuse s _
    next hready => exact .changed (.lock (not_not.mp hready))

theorem cmdSlotInfo_stores (v : Byte) (s : State) : commandStores s (cmdSlotInfo v s) := by
  unfold cmdSlotInfo
  split
  · exact .refuse s _
  · exact .thinned (respond_kept s _ _).thinned

theorem writeVerdict_passes {d : Slot} (h : writeVerdict d = none) :
    d.lock = false ∧ d.access ≠ .shut := by
  unfold writeVerdict at h
  split at h
  · cases h
  · next hlock =>
    refine ⟨Bool.not_eq_true _ ▸ hlock, fun hshut => ?_⟩
    rw [hshut] at h
    cases h

theorem cmdEntryWrite_stores (k : EntryKind) (v : Byte) (o : List Stroke) (f : Byte) (t : List Byte)
    (s : State) : commandStores s (cmdEntryWrite k v o f t s) := by
  unfold cmdEntryWrite
  split
  · exact .refuse s _
  · split
    · exact .thinned ((setNotices_kept s _).trans (respond_kept _ _ _)).thinned
    next hverdict =>
    split
    · exact .refuse s _
    split
    · exact .refuse s _
    obtain ⟨hlock, haccess⟩ := writeVerdict_passes hverdict
    exact .claim (.entry (.inr hlock) haccess nofun)

theorem Slot.consulted_iff (d : Slot) : d.consulted = true ↔ d.access = .lookup ∨ d.access = .full := by
  simp [Slot.consulted]

theorem cmdFetchEntry_stores (v : Byte) (o : List Stroke) (s : State) :
    commandStores s (cmdFetchEntry v o s) := by
  unfold cmdFetchEntry
  split
  · unfold cmdFetchAny
    split
    · exact .refuse s _
    split
    · exact .refuse s _
    next n rest hslots =>
    have hconsulted : ∀ m ∈ n :: rest, (s.slot m).consulted = true := fun m hm => by
      rw [← hslots] at hm
      exact (List.mem_filter.mp hm).2
    have hn := (Slot.consulted_iff _).mp (hconsulted n List.mem_cons_self)
    exact .claim (.entry (.inl rfl) (by rcases hn with h | h <;> simp [h])
      fun m hm => hconsulted m (List.mem_cons_of_mem _ hm))
  · unfold cmdFetchNamed
    split
    · exact .refuse s _
    split
    · exact .refuse s _
    next haccess =>
    split
    · exact .refuse s _
    exact .claim (.entry (.inl rfl) haccess nofun)

theorem runCommand_stores (c : Command) (s : State) : commandStores s (runCommand c s) := by
  cases hc : ofDictionary c with
  | false => exact .thinned (runCommand_thinned c hc s)
  | true =>
      cases c with
      | setMemory mib => exact cmdSetMemory_stores mib s
      | setWindow n b z => exact cmdSetWindow_stores n b z s
      | format n b => exact cmdFormat_stores n b s
      | releaseSlot n => exact cmdReleaseSlot_stores n s
      | setAccess n a => exact cmdSetAccess_stores n a s
      | setRanks a b c d => exact cmdSetRanks_stores a b c d s
      | lockSlot n => exact cmdLockSlot_stores n s
      | slotInfo n => exact cmdSlotInfo_stores n s
      | addEntry n o f t => exact cmdEntryWrite_stores .add n o f t s
      | replaceEntry n o f t => exact cmdEntryWrite_stores .replace n o f t s
      | retireEntry n o => exact cmdEntryWrite_stores .retire n o 0 [] s
      | fetchEntry n o => exact cmdFetchEntry_stores n o s
      | _ => cases hc

/-! ### Every step but a hard reset -/

/-- What a step other than a hard reset does to the dictionary store and the Memory Port of `s`. -/
inductive StoreStep (s : State) : State → Prop
  | thinned {t : State} (h : StoreThinned s t) : StoreStep s t
  /-- a command executes, none being in execution (R164) -/
  | command {u t : State} (idle : s.cp.executing = none) (before : StoreKept s u)
      (h : commandStores u t) : StoreStep s t
  /-- a RESTART abandons the FORMAT under way (R26, R177) -/
  | abandon {u t : State} {n : SlotNo} {k : Nat} (busy : u.mp.upkeep = some (.format n k))
      (before : StoreKept s u) (after : StoreThinned ((u.abandonFormat n).dropUpkeep n) t) : StoreStep s t
  /-- a RESTART drops a waiting upkeep claim (R72, R177) -/
  | drop {u t : State} {op : UpkeepOp} (busy : u.mp.upkeep = some op)
      (before : StoreKept s u) (after : StoreThinned (u.dropUpkeep op.slot) t) : StoreStep s t
  /-- FORMAT_COMPLETE (R25) -/
  | formatComplete {n : SlotNo} (busy : s.mp.upkeep = some (.format n (s.slot n).cells))
      (holds : (s.gate n).holder = some .upkeep) :
      StoreStep s ((s.withSlot n (s.slot n).formatted).done.clearUpkeep.releaseGate n)
  /-- UPKEEP_OPERATION_END (R166) -/
  | entryEnd {op : EntryOp} (busy : s.mp.upkeep = some (.entry op))
      (holds : (s.gate op.slot).holder = some .upkeep) : StoreStep s (s.endEntryOp op)
  /-- PROBE_ISSUE (R83) -/
  | issue (p : Pair) {tag : Fin 32} (free : s.mp.freeTag = some tag) : StoreStep s (s.issue p tag)
  /-- PROBE_END (R64) -/
  | probeEnd {n : SlotNo} {p : Probe} {r : PairResult} (holds : s.holderProbe n = some p) :
      StoreStep s (s.endProbe n p r)
  /-- ARBITER_GRANT to the lookup walker, or to the upkeep engine (R69) -/
  | lookup (n : SlotNo) (c : Nat) : StoreStep s (s.grantLookup n c)
  | upkeep {op : UpkeepOp} (busy : s.mp.upkeep = some op) (c : Nat) : StoreStep s (s.grantUpkeep op c)

theorem StoreKept.step {s t : State} (h : StoreKept s t) : StoreStep s t := .thinned h.thinned

theorem executing_of_canBegin {s : State} (h : s.canBegin = true) : s.cp.executing = none := by
  obtain ⟨⟨hidle, -⟩, -⟩ : (s.cp.executing = none ∧ s.cp.restarts = 0) ∧ _ := by
    simpa [State.canBegin] using h
  exact hidle

theorem placeFrame_kept (s : State) (f : Frame) : StoreKept s (s.placeFrame f) := ⟨by simp, by simp⟩

theorem hostCommand_step (c : Command) (s : State) : StoreStep s (hostCommand c (runCommand c) s) := by
  unfold hostCommand
  split
  · next hready =>
    exact .command (executing_of_canBegin (Bool.and_eq_true_iff.mp hready).1)
      (withCp_kept s _) (runCommand_stores c _)
  · exact (placeFrame_kept s _).step

theorem beginFrame_step {s : State} (f : Frame) (rest : List Frame) (h : s.canBegin = true) :
    StoreStep s (s.beginFrame f rest) := by
  have hbegun : StoreKept s ((s.withCp { s.cp with queue := rest }).beginExecution (echoOf f.bytes)) :=
    (withCp_kept s _).trans (withCp_kept _ _)
  unfold State.beginFrame
  dsimp only
  split
  · exact .command (executing_of_canBegin h) hbegun (runCommand_stores _ _)
  · exact (hbegun.trans (respond_kept _ _ _)).step

/-! ### RESTART and the transactions -/

theorem cutCommand_step {s u t : State} (before : StoreKept s u) (after : StoreThinned u.cutCommand t) :
    StoreStep s t := by
  unfold State.cutCommand at after
  split at after
  · exact .thinned ((before.trans (withCp_kept u _)).thinned.trans after)
  · next op => exact .abandon op before after
  · next op =>
    split at after
    · exact .thinned (before.thinned.trans after)
    · exact .drop op before after

theorem noteLapse_kept {s t : State} (h : StoreKept s t) (n : ChanNo) (b : Bool) :
    StoreKept s (t.noteLapse n b) := by
  unfold State.noteLapse
  split
  · exact h.trans (setNotices_kept t _)
  · exact h

theorem discardWaiting_kept (s : State) (c : Cp) : StoreKept s (s.discardWaiting.withCp c) := ⟨rfl, rfl⟩

theorem takeRestart_step {s u : State} (h : StoreKept s u) : StoreStep s u.takeRestart := by
  unfold State.takeRestart
  dsimp only
  split
  · exact cutCommand_step (h.trans (discardWaiting_kept u _)) (restartIfFree_thinned _)
  · split
    · exact .thinned ((h.trans (discardWaiting_kept u _)).thinned.trans (restartIfFree_thinned _))
    · exact (h.trans (setNotices_kept u _)).step

theorem takeFrame_step {s u : State} (f : Frame) (h : StoreKept s u) : StoreStep s (u.takeFrame f) := by
  unfold State.takeFrame
  split
  · exact takeRestart_step h
  · exact (h.trans (placeFrame_kept u f)).step

theorem selectFall_kept (s : State) : StoreKept s s.selectFall := by
  unfold State.selectFall
  split <;> exact ⟨rfl, rfl⟩

theorem leadByte_kept (s : State) (b : Byte) : StoreKept s (s.leadByte b) := by
  unfold State.leadByte
  repeat' split
  all_goals exact ⟨rfl, rfl⟩

/-- A transaction does to the store what its end does, after moments that leave the store alone. -/
theorem transact_step {shifted : Type} {s : State} (part : SpiPart shifted) {lead : State → State}
    {rise : shifted → State → State} (hlead : ∀ u, StoreKept u (lead u))
    (hrise : ∀ x u, StoreKept s u → StoreStep s (rise x u)) : StoreStep s (s.transact part lead rise) := by
  cases part with
  | whole x =>
      unfold State.transact
      dsimp only
      split
      · exact hrise x _ ((selectFall_kept s).trans (hlead _))
      · exact (StoreKept.refl s).step
  | fall => exact (selectFall_kept s).step
  | lead => exact (hlead s).step
  | rise x => exact hrise x s (.refl s)

theorem selectRise_step {s u : State} (kind : Option Transfer) (n : Nat)
    {effect : Transaction → State → State} (h : StoreKept s u)
    (heffect : ∀ t v, StoreKept s v → StoreStep s (effect t v)) :
    StoreStep s (u.selectRise kind n effect) := by
  have hport (bits : List Bool) : StoreKept s ((u.withSpi .idle).withSpdo bits) := h.trans ⟨rfl, rfl⟩
  unfold State.selectRise
  split
  · split
    · exact heffect _ _ (hport _)
    · exact h.step
  · exact h.step
  · exact (hport _).step

/-! ### The step -/

theorem exec_storeStep {i : Instr} {s t : State} (hreset : i ≠ .hardReset)
    (hexec : exec i s = .next t) : StoreStep s t := by
  cases hc : commandOf i with
  | some c =>
      cases (exec_of_command hc s).symm.trans hexec
      exact hostCommand_step c s
  | none =>
      cases i with
      | hardReset => exact absurd rfl hreset
      | lineLevelChange | strokeClockTick => cases hexec; exact (withKsu_kept s _).step
      | debounceExpiry k =>
          cases hexec
          split
          · exact StoreKept.step ⟨by simp, by simp⟩
          · exact (StoreKept.refl s).step
      | holdTimerExpiry k =>
          cases hexec
          split
          · exact StoreKept.step ⟨by simp, by simp⟩
          · exact (StoreKept.refl s).step
      | commandBegin =>
          cases hexec
          repeat' split
          · exact (StoreKept.refl s).step
          · next hbegin => exact beginFrame_step _ _ hbegin
          · exact (StoreKept.refl s).step
      | commandWrite part =>
          cases hexec
          refine transact_step part (fun u => leadByte_kept u _) fun x u hu =>
            selectRise_step _ _ hu fun r v hv => ?_
          split
          · exact hv.step
          · exact takeFrame_step _ hv
      | responseRead part | reportRead part =>
          cases hexec
          refine transact_step part (fun u => leadByte_kept u _) fun x u hu =>
            selectRise_step _ _ hu fun r v hv => ?_
          split
          · exact (hv.trans (withCp_kept v _)).step
          · exact hv.step
      | statusRead part =>
          cases hexec
          exact transact_step part (fun u => leadByte_kept u _) fun x u hu =>
            selectRise_step _ _ hu fun r v hv => hv.step
      | voidTransaction lead part =>
          cases hexec
          repeat' split
          · exact transact_step part (fun u => leadByte_kept u _) fun x u hu =>
              selectRise_step _ _ hu fun r v hv => hv.step
          · exact (StoreKept.refl s).step
          · exact transact_step part .refl fun x u hu => selectRise_step _ _ hu fun r v hv => hv.step
      | restart => cases hexec; exact takeRestart_step (.refl s)
      | restartTakesEffect =>
          cases hexec
          split
          · exact .thinned (restartEffect_thinned s)
          · exact (StoreKept.refl s).step
      | formatComplete =>
          cases hexec
          split
          · next n k hop =>
            split
            · next hlast => exact .formatComplete (hlast.1 ▸ hop) hlast.2
            · exact (StoreKept.refl s).step
          · exact (StoreKept.refl s).step
      | upkeepOperationEnd =>
          cases hexec
          split
          · next op hop =>
            split
            · next hend => exact .entryEnd hop hend.2
            · exact (StoreKept.refl s).step
          · exact (StoreKept.refl s).step
      | arbiterGrant n =>
          cases hexec
          split
          · exact (StoreKept.refl s).step
          · exact .lookup _ _
          · next hup => exact .upkeep (upkeepAccess_upkeep hup) _
          · next hup =>
            split
            · exact .lookup _ _
            · exact .upkeep (upkeepAccess_upkeep hup) _
      | probeIssue =>
          cases hexec
          split
          · exact (StoreKept.refl s).step
          · split
            · next hfree => exact .issue _ hfree
            · exact (StoreKept.refl s).step
      | probeEnd n =>
          cases hexec
          split
          · exact (StoreKept.refl s).step
          · next hholds =>
            split
            · exact (StoreKept.refl s).step
            · exact .probeEnd hholds
      | takeStroke => cases hexec; exact .thinned (serviceStroke_thinned s)
      | settleDueService =>
          cases hexec
          split
          · exact StoreKept.step ⟨by simp, by simp⟩
          · exact (StoreKept.refl s).step
      | settleTimerExpiry =>
          cases hexec
          split
          · exact ((withTe_kept s _).trans (withTe_kept _ _)).step
          · exact (StoreKept.refl s).step
      | rescan =>
          cases hexec
          split
          · exact StoreKept.step ⟨by simp, by simp⟩
          · exact (StoreKept.refl s).step
      | inboundByte =>
          cases hexec
          split
          · exact (withChan_kept s _ _).step
          · exact (StoreKept.refl s).step
      | breakReceived n => cases hexec; exact (noteLapse_kept (withChan_kept s n _) _ _).step
      | stallTimerExpiry n =>
          cases hexec
          split
          · exact (noteLapse_kept (withChan_kept s n _) _ _).step
          · exact (StoreKept.refl s).step
      | transmitByte | byteComplete | fclrChange | keepaliveTimerExpiry | returnToMark =>
          cases hexec; exact (withChan_kept s _ _).step
      | _ => cases hc

end Sys2Proof.Machine
end

section
/-!
SUPPORT. The slots and the upkeep operation after claims are taken at a gate, and after the operations that
take them.
-/

namespace Sys2Proof.Machine

open Sys2Proof Sys2Proof.Rules

/-! ### The taking of claims -/

theorem slot_withSlot_ne (s : State) {m n : SlotNo} (h : m ≠ n) (d : Slot) :
    (s.withSlot m d).slot n = s.slot n := by rw [State.slot_withSlot, if_neg h]

@[simp] theorem takeProbe_slot (s : State) (m n : SlotNo) (tag : Fin 32) :
    (s.takeProbe m tag).slot n = s.slot n := rfl

@[simp] theorem takeProbe_upkeep (s : State) (m : SlotNo) (tag : Fin 32) :
    (s.takeProbe m tag).mp.upkeep = s.mp.upkeep := rfl

theorem finishRelease_slot (s : State) {m n : SlotNo} (h : m ≠ n) :
    (s.finishRelease m).slot n = s.slot n := by
  have hdict : (s.finishRelease m).dict = (s.withSlot m (s.slot m).vacated).dict := by
    simp [State.finishRelease]
  exact (congrArg (fun d : Dict => d.slots[n]) hdict).trans (slot_withSlot_ne s h _)

theorem finishRelease_upkeep (s : State) (m : SlotNo) : (s.finishRelease m).mp.upkeep = none := by
  simp [State.finishRelease]

/-- The claims taken at the gate of slot `m` change no other slot, and slot `m` only by a RELEASE_SLOT. -/
theorem takeClaims_slot {m n : SlotNo} : ∀ {c : List Claim} {s : State},
    (m = n → .upkeep ∈ c → ∀ k, s.mp.upkeep ≠ some (.release k)) →
    (takeClaims m c s).slot n = s.slot n
  | [], _, _ => rfl
  | .probe _ :: _, _, _ => rfl
  | .upkeep :: rest, s, h => by
      unfold takeClaims
      split
      · next k hop =>
        have hne : m ≠ n := fun he => h he List.mem_cons_self k hop
        exact (takeClaims_slot fun he => absurd he hne).trans (finishRelease_slot s hne)
      · rfl

/-- The upkeep operation is as it was, or was a RELEASE_SLOT and is over. -/
theorem takeClaims_upkeep {m : SlotNo} : ∀ {c : List Claim} {s : State},
    (takeClaims m c s).mp.upkeep = s.mp.upkeep ∨ (takeClaims m c s).mp.upkeep = none
  | [], _ => .inl rfl
  | .probe _ :: _, _ => .inl rfl
  | .upkeep :: rest, s => by
      unfold takeClaims
      split
      · have hnone := finishRelease_upkeep s m
        rcases takeClaims_upkeep (m := m) (c := rest) (s := s.finishRelease m) with h | h
        · exact .inr (h.trans hnone)
        · exact .inr h
      · exact .inl rfl

theorem serveGate_slot {m n : SlotNo} {s : State}
    (h : m = n → .upkeep ∈ (s.gate m).waiting → ∀ k, s.mp.upkeep ≠ some (.release k)) :
    (s.serveGate m).slot n = s.slot n := by
  unfold State.serveGate
  split
  · rfl
  · exact takeClaims_slot h

theorem serveGate_upkeep {m : SlotNo} {s : State} :
    (s.serveGate m).mp.upkeep = s.mp.upkeep ∨ (s.serveGate m).mp.upkeep = none := by
  unfold State.serveGate
  split
  · exact .inl rfl
  · exact takeClaims_upkeep

/-! ### The operations that leave the store otherwise alone -/

theorem giveAccess_thinned (s : State) (n : SlotNo) (a : Access) :
    StoreThinned (s.withSlot n { s.slot n with access := a }) (s.giveAccess n a) := by
  have hview (u : State) : StoreThinned u u.signalRescan.noteViewChange :=
    StoreKept.thinned ⟨by simp, by simp⟩
  unfold State.giveAccess
  dsimp only
  split
  · exact .refl _
  · split
    · exact hview _
    · exact (hview _).trans ((withdraw_thinned _ _).trans (deliver_thinned _ _ _))

theorem EntryOp.perform_keeps (op : EntryOp) (d : Slot) (m : List Host.Cell) (c : Nat) :
    (op.perform d m c).1.slot = op.slot ∧ (op.perform d m c).1.kind = op.kind := by
  have hwalk (bytes : List Byte) :
      (op.walkOn bytes).slot = op.slot ∧ (op.walkOn bytes).kind = op.kind := by
    simp only [EntryOp.walkOn, EntryOp.afterWalk, EntryOp.checkAdd, EntryOp.endWith, EntryOp.proceed]
    repeat' split
    all_goals exact ⟨rfl, rfl⟩
  unfold EntryOp.perform
  split
  · exact hwalk _
  all_goals exact ⟨rfl, rfl⟩

end Sys2Proof.Machine
end

section
/-!
PROOF. A locked slot stays as it is, its rank apart (R32, R33).
-/

namespace Sys2Proof.Machine

open Sys2Proof Sys2Proof.Rules

/-- A descriptor, its rank apart. -/
def Slot.unranked (d : Slot) : Slot := { d with rank := 0 }

/-- The upkeep operation, where it is one in slot `n`, is a FETCH_ENTRY. -/
def fetchesOnly (n : SlotNo) (s : State) : Prop :=
  ∀ op, s.mp.upkeep = some op → op.slot = n → ∃ e, op = .entry e ∧ e.kind = .fetch

/-- Slot `n` is as it was but for its rank, and no operation but a FETCH_ENTRY has begun in it. -/
structure SlotStays (n : SlotNo) (s t : State) : Prop where
  slot : (t.slot n).unranked = (s.slot n).unranked
  fetches : fetchesOnly n s → fetchesOnly n t

namespace SlotStays

variable {n : SlotNo} {s t u : State}

theorem refl (n : SlotNo) (s : State) : SlotStays n s s := ⟨rfl, id⟩

theorem trans (h : SlotStays n s t) (k : SlotStays n t u) : SlotStays n s u :=
  ⟨k.slot.trans h.slot, fun hs => k.fetches (h.fetches hs)⟩

theorem of_slot (hslot : t.slot n = s.slot n)
    (hupkeep : t.mp.upkeep = s.mp.upkeep ∨ t.mp.upkeep = none) : SlotStays n s t := by
  refine ⟨by rw [hslot], fun hs op hop => ?_⟩
  rcases hupkeep with h | h
  · exact hs op (h ▸ hop)
  · rw [h] at hop; cases hop

theorem of_thinned (h : StoreThinned s t) : SlotStays n s t := of_slot (h.slot n) (.inl h.upkeep)

end SlotStays

theorem fetchesOnly.not_release {n : SlotNo} {s : State} (h : fetchesOnly n s) (hplace : claimsInPlace s)
    (hclaim : .upkeep ∈ (s.gate n).waiting) (k : SlotNo) : s.mp.upkeep ≠ some (.release k) := fun hop => by
  obtain ⟨op, hop', hslot⟩ := hplace n (.inr hclaim)
  obtain ⟨e, he, -⟩ := h op hop' hslot
  rw [hop', he] at hop
  cases hop

section

variable {n m : SlotNo} {s : State}

theorem withSlot_stays (h : m ≠ n) (d : Slot) : SlotStays n s (s.withSlot m d) :=
  .of_slot (slot_withSlot_ne s h d) (.inl rfl)

theorem withGate_stays (n m : SlotNo) (s : State) (g : Gate) : SlotStays n s (s.withGate m g) :=
  .of_slot rfl (.inl rfl)

theorem clearUpkeep_stays (n : SlotNo) (s : State) : SlotStays n s s.clearUpkeep := .of_slot rfl (.inr rfl)

theorem serveGate_stays
    (h : m = n → .upkeep ∈ (s.gate m).waiting → ∀ k, s.mp.upkeep ≠ some (.release k)) :
    SlotStays n s (s.serveGate m) := .of_slot (serveGate_slot h) serveGate_upkeep

theorem releaseGate_stays
    (h : m = n → .upkeep ∈ (s.gate m).waiting → ∀ k, s.mp.upkeep ≠ some (.release k)) :
    SlotStays n s (s.releaseGate m) :=
  (withGate_stays n m s _).trans (serveGate_stays (by simpa using h))

theorem claimGate_stays (c : Claim)
    (h : m = n → c = .upkeep ∨ .upkeep ∈ (s.gate m).waiting → ∀ k, s.mp.upkeep ≠ some (.release k)) :
    SlotStays n s (s.claimGate m c) :=
  (withGate_stays n m s _).trans (serveGate_stays fun he hclaim => h he (by
    simpa [or_comm, eq_comm] using hclaim))

/-- With no upkeep operation, a gate released changes no slot. -/
theorem clearUpkeep_releaseGate_stays (n m : SlotNo) (s : State) :
    SlotStays n s (s.clearUpkeep.releaseGate m) :=
  (clearUpkeep_stays n s).trans (releaseGate_stays fun _ _ _ => nofun)

theorem dropUpkeep_stays (n m : SlotNo) (s : State) : SlotStays n s (s.dropUpkeep m) :=
  (((clearUpkeep_stays n s).trans (withGate_stays n m _ _)).trans
    (serveGate_stays fun _ _ _ => nofun)).trans (.of_slot rfl (.inl rfl))

/-- An operation begun in another slot, or a FETCH_ENTRY begun in this one. -/
theorem beginUpkeep_stays {op : UpkeepOp} (hslot : op.slot = m)
    (h : m = n → ∃ e, op = .entry e ∧ e.kind = .fetch) : SlotStays n s (s.beginUpkeep m op) := by
  have hbegun : SlotStays n s (s.withMp { s.mp with upkeep := some op }) :=
    ⟨rfl, fun _ o ho he => by cases ho; exact h (hslot.symm.trans he)⟩
  refine hbegun.trans (claimGate_stays _ fun he _ k hop => ?_)
  obtain ⟨e, he, -⟩ := h he
  cases he.symm.trans (Option.some.inj hop)

/-! ### Commands -/

variable {t : State} (hlock : (s.slot n).lock = true)
include hlock

theorem ne_of_unlocked (h : (s.slot m).lock = false) : m ≠ n := fun he => by
  rw [he, hlock] at h; cases h

theorem storeChanged_stays (h : StoreChanged s t) : SlotStays n s t := by
  cases h with
  | thinned h => exact .of_thinned h
  | memory => exact .of_slot rfl (.inl rfl)
  | window hunlocked => exact withSlot_stays (ne_of_unlocked hlock hunlocked) _
  | access a hunlocked =>
      exact (withSlot_stays (ne_of_unlocked hlock hunlocked) _).trans (.of_thinned (giveAccess_thinned _ _ a))
  | @ranks order =>
      have hranked : SlotStays n s (s.withDict (s.dict.withRanks order)) :=
        ⟨by simp [State.slot, Dict.withRanks, Slot.unranked], id⟩
      exact hranked.trans (.of_thinned (StoreKept.thinned ⟨by simp, by simp⟩))
  | @lock m =>
      refine .of_slot ?_ (.inl rfl)
      by_cases he : m = n
      · subst he
        rw [State.slot_withSlot_self, ← hlock]
      · exact slot_withSlot_ne s he _

theorem operationBegun_stays {op : UpkeepOp} {u : State} (h : OperationBegun s u m op) :
    SlotStays n s (u.beginUpkeep m op) := by
  cases h with
  | format hunlocked =>
      have hne := ne_of_unlocked hlock hunlocked
      exact (withSlot_stays hne _).trans (beginUpkeep_stays rfl fun he => absurd he hne)
  | release hunlocked =>
      exact beginUpkeep_stays rfl fun he => absurd he (ne_of_unlocked hlock hunlocked)
  | entry hkind =>
      exact beginUpkeep_stays rfl fun he =>
        ⟨_, rfl, hkind.resolve_right fun hunlocked => ne_of_unlocked hlock hunlocked he⟩

theorem commandStores_stays (h : commandStores s t) : SlotStays n s t := by
  rcases h with ⟨u, hchanged, hkept⟩ | ⟨u, m, op, hbegun, rfl⟩
  · exact (storeChanged_stays hlock hchanged).trans (.of_thinned hkept.thinned)
  · exact operationBegun_stays hlock hbegun

end

/-! ### The end of an operation -/

/-- A FETCH_ENTRY leaves the descriptor of its slot as it was. -/
theorem EntryOp.descriptor_of_fetch {op : EntryOp} (h : op.kind = .fetch) (d : Slot) :
    op.descriptor d = d := by
  unfold EntryOp.descriptor
  rw [h]
  split <;> rfl

theorem answerEntryOp_slot {n : SlotNo} {s : State} {op : EntryOp} (h : op.slot = n → op.kind = .fetch) :
    (s.answerEntryOp op).slot n = s.slot n := by
  have hdict : (s.answerEntryOp op).dict = (s.withSlot op.slot (op.descriptor (s.slot op.slot))).dict := by
    unfold State.answerEntryOp
    dsimp only
    split <;> simp
  refine (congrArg (fun d : Dict => d.slots[n]) hdict).trans ?_
  by_cases he : op.slot = n
  · subst he
    exact (State.slot_withSlot_self ..).trans (EntryOp.descriptor_of_fetch (h rfl) _)
  · exact slot_withSlot_ne s he _

theorem endEntryOp_stays {n : SlotNo} {s : State} {op : EntryOp} (h : op.slot = n → op.kind = .fetch) :
    SlotStays n s (s.endEntryOp op) := by
  unfold State.endEntryOp
  split
  · exact (SlotStays.of_slot (answerEntryOp_slot h) (.inl (by simp))).trans
      (clearUpkeep_releaseGate_stays n op.slot _)
  · exact (clearUpkeep_releaseGate_stays n op.slot s).trans
      (beginUpkeep_stays rfl fun _ => ⟨_, rfl, rfl⟩)

/-! ### Every step but a hard reset -/

theorem storeStep_stays {n : SlotNo} {s t : State} (hlock : (s.slot n).lock = true)
    (hfetches : fetchesOnly n s) (hplace : claimsInPlace s) (h : StoreStep s t) : SlotStays n s t := by
  have hkept {u : State} (hu : StoreKept s u) : SlotStays n s u := .of_thinned hu.thinned
  cases h with
  | thinned h => exact .of_thinned h
  | command _ before h =>
      exact (hkept before).trans (commandStores_stays (by rw [before.slot]; exact hlock) h)
  | @abandon u _ m k busy before after =>
      have hne : m ≠ n := fun he => by
        obtain ⟨e, he, -⟩ := (hkept before).fetches hfetches _ busy he
        cases he
      exact (((hkept before).trans (withSlot_stays hne _)).trans (dropUpkeep_stays n m _)).trans
        (.of_thinned after)
  | drop _ before after =>
      exact ((hkept before).trans (dropUpkeep_stays n _ _)).trans (.of_thinned after)
  | @formatComplete m busy _ =>
      have hne : m ≠ n := fun he => by
        obtain ⟨e, he, -⟩ := hfetches _ busy he
        cases he
      exact ((withSlot_stays hne _).trans (.of_thinned (respond_kept _ _ _).thinned)).trans
        (clearUpkeep_releaseGate_stays n m _)
  | @entryEnd op busy _ =>
      refine endEntryOp_stays fun he => ?_
      obtain ⟨e, he, hkind⟩ := hfetches _ busy he
      cases he
      exact hkind
  | @issue p tag _ =>
      unfold State.issue
      dsimp only
      split
      · have hissued : SlotStays n s ((s.enterNextResult (.pending tag)).withMp
            { (s.enterNextResult (.pending tag)).mp with
              probes := (s.enterNextResult (.pending tag)).mp.probes ++
                [⟨tag, p.slot, p.outline, false, none⟩] }) := .of_slot rfl (.inl rfl)
        refine hissued.trans (claimGate_stays _ fun he hclaim => ?_)
        have hwaiting : .upkeep ∈ (s.gate p.slot).waiting := hclaim.resolve_left nofun
        exact hfetches.not_release hplace (he ▸ hwaiting)
      · exact .of_thinned ((withTe_kept s _).thinned.trans (tryDecide_thinned _))
  | @probeEnd m p r _ =>
      have hfree : SlotStays n s (s.freeTagOf p.tag) := .of_slot rfl (.inl rfl)
      have hfreed : SlotStays n s ((s.freeTagOf p.tag).releaseGate m) := by
        refine hfree.trans (releaseGate_stays fun he hclaim => ?_)
        have hwaiting : .upkeep ∈ (s.gate m).waiting := hclaim
        exact hfetches.not_release hplace (he ▸ hwaiting)
      unfold State.endProbe
      dsimp only
      split
      · exact hfreed
      · exact hfreed.trans (.of_thinned (deliver_thinned _ _ _))
  | lookup => exact .of_slot rfl (.inl rfl)
  | @upkeep op busy c =>
      refine ⟨rfl, fun _ o ho hslot => ?_⟩
      cases ho
      cases op with
      | entry e =>
          obtain ⟨hperform, hkind⟩ := EntryOp.perform_keeps e (s.slot e.slot) s.sdram c
          obtain ⟨e', he', hfetch⟩ := hfetches _ busy (hperform.symm.trans hslot)
          cases he'
          exact ⟨_, rfl, hkind.trans hfetch⟩
      | format m k =>
          obtain ⟨e, he, -⟩ := hfetches _ busy hslot
          cases he
      | release m =>
          obtain ⟨e, he, -⟩ := hfetches _ busy hslot
          cases he

end Sys2Proof.Machine

section

open Sys2Proof Sys2Proof.Machine Sys2Proof.Rules

/-- Settles O17: every step but a hard reset, by what it does to the dictionary store. -/
theorem lockedSlotStaysAsItIs : Obligations.LockedSlotStaysAsItIs := by
  unfold Obligations.LockedSlotStaysAsItIs
  intro s t n hlock _ hfetches hplace hstep hreset
  have hstays : SlotStays n s t := by
    unfold step at hstep
    split at hstep
    · cases hstep; exact .refl n s
    · next c rest hpending =>
      have hc : c ≠ .hardReset := fun he => hreset rest (he ▸ hpending)
      have hstays : SlotStays n (s.withPending rest) t :=
        storeStep_stays hlock hfetches hplace (exec_storeStep hc hstep)
      exact ⟨hstays.slot, hstays.fetches⟩
  have hslot : t.slot n = { s.slot n with rank := (t.slot n).rank } :=
    congrArg (fun d : Slot => { d with rank := (t.slot n).rank }) hstays.slot
  exact ⟨hslot, by rw [hslot]; exact hlock, hstays.fetches hfetches⟩

end
end

section
/-!
SUPPORT. The invariant of the slots in three parts: the descriptors, the upkeep operation and the probes. What a
change of one part asks of the others, and what keeps a walk in its window.
-/

namespace Sys2Proof.Machine

open Sys2Proof Sys2Proof.Rules

/-! ### The invariant in three parts -/

/-- A descriptor by itself is as 2.2 to 2.8 keep it. -/
structure descriptorLegal (s : State) (d : Slot) : Prop where
  shut : d.state ≠ .ready → d.access = .shut ∧ d.lock = false
  vacant : d.state = .vacant → d.base = 0 ∧ d.size = 0 ∧ d.buckets = 0
  window : d.state ≠ .vacant → windowLegal s d
  buckets : d.state = .formatting ∨ d.state = .ready →
    (∃ e, 10 ≤ e ∧ e ≤ 18 ∧ d.buckets = 2 ^ e) ∧ 4 * (4 * d.buckets) ≤ d.size

/-- The four descriptors are legal, and apart. -/
structure descriptorsInOrder (s : State) : Prop where
  memory : s.dict.memMiB ∈ [0, 8, 16, 32, 64]
  legal : ∀ n, descriptorLegal s (s.slot n)
  apart : ∀ a b, a ≠ b → ¬shareByte (s.slot a).base (s.slot a).size (s.slot b).base (s.slot b).size
  ranks : ranksDiffer s

/-- An upkeep operation finds its slot, and the slots it has still to search, as it needs them. -/
def operationSound (s : State) : UpkeepOp → Prop
  | .format n _ => (s.slot n).state = .formatting
  | .release n => (s.slot n).state ≠ .formatting ∧ (s.slot n).access = .shut ∧ (s.slot n).lock = false
  | .entry e => (s.slot e.slot).state = .ready ∧ e.walk.base = (s.slot e.slot).base ∧
      e.walk.size = (s.slot e.slot).size ∧ walkInside s e.walk ∧
      ∀ n ∈ e.laterSlots, (s.slot n).access = .lookup ∨ (s.slot n).access = .full

/-- A probe waits into a consulted slot, or walks in its window. -/
structure probeSound (s : State) (p : Probe) : Prop where
  waiting : p.walk = none → (s.slot p.slot).access = .lookup ∨ (s.slot p.slot).access = .full
  walking : ∀ w, p.walk = some w → (s.slot p.slot).state ≠ .vacant ∧ walkInside s w

theorem slotsInOrder_iff (s : State) : slotsInOrder s ↔ descriptorsInOrder s ∧
    (∀ op, s.mp.upkeep = some op → operationSound s op) ∧ ∀ p ∈ s.mp.probes, probeSound s p := by
  refine ⟨fun h => ⟨⟨h.memory, fun n => ⟨h.shut n, h.vacant n, h.window n, h.buckets n⟩, h.apart, h.ranks⟩,
    fun op hop => ?_, fun p hp => ⟨h.waiting p hp, h.walking p hp⟩⟩, fun ⟨hd, hop, hp⟩ => ?_⟩
  · cases op with
    | entry e => exact h.operating e hop
    | format n k => exact h.formatting n k hop
    | release n => exact h.releasing n hop
  · exact {
      memory := hd.memory
      shut := fun n => (hd.legal n).shut
      vacant := fun n => (hd.legal n).vacant
      window := fun n => (hd.legal n).window
      apart := hd.apart
      buckets := fun n => (hd.legal n).buckets
      ranks := hd.ranks
      formatting := fun n k h => hop _ h
      releasing := fun n h => hop _ h
      waiting := fun p h => (hp p h).waiting
      walking := fun p h => (hp p h).walking
      operating := fun e h => hop _ h }

theorem descriptorLegal.ready {s : State} {d : Slot} (h : descriptorLegal s d) (haccess : d.access ≠ .shut) :
    d.state = .ready := by
  by_contra hstate
  exact haccess (h.shut hstate).1

theorem access_ne_shut {a : Access} (h : a = .lookup ∨ a = .full) : a ≠ .shut := by
  rcases h with h | h <;> simp [h]

/-- No probe is outstanding into a VACANT slot. -/
theorem probeSound.not_vacant {s : State} {p : Probe} (h : probeSound s p) (hd : descriptorsInOrder s) :
    (s.slot p.slot).state ≠ .vacant := by
  cases hwalk : p.walk with
  | none => rw [(hd.legal _).ready (access_ne_shut (h.waiting hwalk))]; nofun
  | some w => exact (h.walking w hwalk).1

/-! ### What a change of one part asks of the others -/

/-- The descriptors are in order in another state with the same Dictionary Store. -/
theorem descriptorsInOrder.of_dict {s t : State} (h : descriptorsInOrder s) (hdict : t.dict = s.dict) :
    descriptorsInOrder t := by
  have hslot (n : SlotNo) : t.slot n = s.slot n := congrArg (fun d : Dict => d.slots[n]) hdict
  exact {
    memory := hdict ▸ h.memory
    legal := fun n => by
      rw [hslot]
      exact { h.legal n with window := by unfold windowLegal; rw [hdict]; exact (h.legal n).window }
    apart := fun a b => by rw [hslot, hslot]; exact h.apart a b
    ranks := fun a b => by rw [hslot, hslot]; exact h.ranks a b }

theorem walkInside_of_memory {s t : State} {w : Walk} (h : walkInside s w)
    (hmemory : t.dict.memMiB = s.dict.memMiB) : walkInside t w := by
  unfold walkInside
  rw [hmemory]
  exact h

/-- A probe is sound in another state whose slot is still there and, where the probe waits, still
consulted. -/
theorem probeSound.of_slot {s t : State} {p : Probe} (h : probeSound s p)
    (hmemory : t.dict.memMiB = s.dict.memMiB)
    (hstate : (s.slot p.slot).state ≠ .vacant → (t.slot p.slot).state ≠ .vacant)
    (haccess : p.walk = none → (t.slot p.slot).access = .lookup ∨ (t.slot p.slot).access = .full) :
    probeSound t p :=
  ⟨haccess, fun w hw => ⟨hstate (h.walking w hw).1, walkInside_of_memory (h.walking w hw).2 hmemory⟩⟩

theorem probeSound.of_dict {s t : State} {p : Probe} (h : probeSound s p) (hdict : t.dict = s.dict) :
    probeSound t p := by
  have hslot : t.slot p.slot = s.slot p.slot := congrArg (fun d : Dict => d.slots[p.slot]) hdict
  exact h.of_slot (by rw [hdict]) (by rw [hslot]; exact id) (by rw [hslot]; exact h.waiting)

/-- A probe of the same slot and walk is as sound. -/
theorem probeSound.of_same {s : State} {p q : Probe} (h : probeSound s p) (hslot : p.slot = q.slot)
    (hwalk : p.walk = q.walk) : probeSound s q :=
  ⟨fun hq => hslot ▸ h.waiting (hwalk.trans hq), fun w hw => hslot ▸ h.walking w (hwalk.trans hw)⟩

theorem operationSound_of_dict {s t : State} {op : UpkeepOp} (h : operationSound s op)
    (hdict : t.dict = s.dict) : operationSound t op := by
  have hslot (n : SlotNo) : t.slot n = s.slot n := congrArg (fun d : Dict => d.slots[n]) hdict
  cases op with
  | format n k => simpa only [operationSound, hslot] using h
  | release n => simpa only [operationSound, hslot] using h
  | entry e =>
      obtain ⟨hstate, hbase, hsize, hinside, hlater⟩ := h
      simp only [operationSound, hslot]
      exact ⟨hstate, hbase, hsize, walkInside_of_memory hinside (by rw [hdict]), hlater⟩

theorem thinned_slots {s t : State} (h : slotsInOrder s) (ht : StoreThinned s t) : slotsInOrder t := by
  obtain ⟨hd, hop, hp⟩ := (slotsInOrder_iff s).mp h
  refine (slotsInOrder_iff t).mpr ⟨hd.of_dict ht.dict,
    fun op h => operationSound_of_dict (hop op (ht.upkeep ▸ h)) ht.dict, fun q hq => ?_⟩
  obtain ⟨p, hmem, hslot, hwalk⟩ := ht.probes q hq
  exact ((hp p hmem).of_same hslot hwalk).of_dict ht.dict

theorem kept_slots {s t : State} (h : slotsInOrder s) (ht : StoreKept s t) : slotsInOrder t :=
  thinned_slots h ht.thinned

theorem shareByte_comm {a m b k : Nat} (h : shareByte a m b k) : shareByte b k a m := by
  obtain ⟨x, ha, hm, hb, hk⟩ := h
  exact ⟨x, hb, hk, ha, hm⟩

/-- One descriptor replaced by a legal one of the same rank whose window is apart from the others'. -/
theorem withSlot_descriptors {s : State} {n : SlotNo} {d : Slot} (h : descriptorsInOrder s)
    (hd : descriptorLegal s d) (hrank : d.rank = (s.slot n).rank)
    (hapart : ∀ m, m ≠ n → ¬shareByte d.base d.size (s.slot m).base (s.slot m).size) :
    descriptorsInOrder (s.withSlot n d) where
  memory := h.memory
  legal := fun m => by
    rw [State.slot_withSlot]
    split
    · exact { hd with }
    · exact { h.legal m with }
  apart := fun a b hab => by
    rw [State.slot_withSlot, State.slot_withSlot]
    split
    · next ha =>
      split
      · next hb => exact absurd (ha.symm.trans hb) hab
      · next hb => exact hapart b (Ne.symm hb)
    · next ha =>
      split
      · exact fun hshare => hapart a (Ne.symm ha) (shareByte_comm hshare)
      · exact h.apart a b hab
  ranks := by
    have hranks (m : SlotNo) : ((s.withSlot n d).slot m).rank = (s.slot m).rank := by
      rw [State.slot_withSlot]
      split
      · next hm => rw [hrank, hm]
      · rfl
    intro a b hab
    rw [hranks, hranks] at hab
    exact h.ranks a b hab

/-- One descriptor replaced by a legal one of the same rank and window. -/
theorem withSlot_descriptors_sameWindow {s : State} {n : SlotNo} {d : Slot} (h : descriptorsInOrder s)
    (hd : descriptorLegal s d) (hrank : d.rank = (s.slot n).rank) (hbase : d.base = (s.slot n).base)
    (hsize : d.size = (s.slot n).size) : descriptorsInOrder (s.withSlot n d) :=
  withSlot_descriptors h hd hrank fun m hm => by
    rw [hbase, hsize]
    exact h.apart n m (Ne.symm hm)

/-- A probe is sound after a descriptor has been replaced, where the new one allows a probe into its slot. -/
theorem withSlot_probe {s : State} {n : SlotNo} {d : Slot} {p : Probe} (h : probeSound s p)
    (hstate : p.slot = n → d.state ≠ .vacant)
    (haccess : p.slot = n → p.walk = none → d.access = .lookup ∨ d.access = .full) :
    probeSound (s.withSlot n d) p := by
  by_cases hn : p.slot = n
  · refine h.of_slot rfl (fun _ => ?_) fun hwalk => ?_
    · rw [hn, State.slot_withSlot_self]; exact hstate hn
    · rw [hn, State.slot_withSlot_self]; exact haccess hn hwalk
  · have hslot : (s.withSlot n d).slot p.slot = s.slot p.slot := slot_withSlot_ne s (Ne.symm hn) d
    refine h.of_slot rfl ?_ ?_
    · rw [hslot]; exact id
    · rw [hslot]; exact h.waiting

/-- Another upkeep operation, or none. -/
theorem withUpkeep_slots {s : State} {m : Mp} (h : slotsInOrder s) (hprobes : m.probes = s.mp.probes)
    (hop : ∀ op, m.upkeep = some op → operationSound s op) : slotsInOrder (s.withMp m) := by
  obtain ⟨hd, -, hp⟩ := (slotsInOrder_iff s).mp h
  exact (slotsInOrder_iff _).mpr ⟨hd.of_dict rfl, fun op h => operationSound_of_dict (hop op h) rfl,
    fun p hmem => (hp p (hprobes ▸ hmem)).of_dict rfl⟩

theorem clearUpkeep_slots {s : State} (h : slotsInOrder s) : slotsInOrder s.clearUpkeep :=
  withUpkeep_slots (m := { s.mp with upkeep := none }) h rfl fun _ hop => by cases hop

theorem withGate_slots {s : State} (h : slotsInOrder s) (n : SlotNo) (g : Gate) :
    slotsInOrder (s.withGate n g) :=
  withUpkeep_slots (m := { s.mp with gates := s.mp.gates.set n g }) h rfl ((slotsInOrder_iff s).mp h).2.1

/-- With no upkeep operation, a descriptor replaced asks something of the probes alone. -/
theorem withSlot_slots {s : State} {n : SlotNo} {d : Slot} (h : slotsInOrder s) (hidle : s.mp.upkeep = none)
    (hd : descriptorsInOrder (s.withSlot n d))
    (hstate : ∀ p ∈ s.mp.probes, p.slot = n → d.state ≠ .vacant)
    (haccess : ∀ p ∈ s.mp.probes, p.slot = n → p.walk = none → d.access = .lookup ∨ d.access = .full) :
    slotsInOrder (s.withSlot n d) := by
  obtain ⟨-, -, hp⟩ := (slotsInOrder_iff s).mp h
  refine (slotsInOrder_iff _).mpr ⟨hd, fun op hop => ?_, fun p hmem =>
    withSlot_probe (hp p hmem) (hstate p hmem) (haccess p hmem)⟩
  cases hidle.symm.trans hop

/-! ### Walks keep to their windows (R61) -/

theorem bucketOf_lt {b : Nat} (h : 0 < b) (outline : List Stroke) : bucketOf b outline < b := Nat.mod_lt _ h

/-- A walk begins at a directory cell of its slot's window. -/
theorem walkInside_start {s : State} (hd : descriptorsInOrder s) {n : SlotNo}
    (hready : (s.slot n).state = .ready) (outline : List Stroke) (wantText : Bool) :
    walkInside s (Walk.start (s.slot n) outline wantText) := by
  have hlegal := hd.legal n
  obtain ⟨-, -, hinside⟩ := hlegal.window (by rw [hready]; nofun)
  obtain ⟨⟨e, he, -, hbuckets⟩, hsize⟩ := hlegal.buckets (.inr hready)
  refine ⟨hinside, fun c hc => ?_⟩
  have hmany : 2 ^ 10 ≤ (s.slot n).buckets := hbuckets ▸ Nat.pow_le_pow_right (by decide) he
  have hlt := bucketOf_lt (by omega : 0 < (s.slot n).buckets) outline
  cases hc
  change bucketOf (s.slot n).buckets outline / 8 < (s.slot n).size / 32
  omega

theorem Walk.follow_lt {w : Walk} {l : Link} {c : Nat} (h : w.follow l = some c) : c < w.size / 32 := by
  obtain ⟨-, hc⟩ := Option.filter_eq_some_iff.mp h
  exact of_decide_eq_true hc

/-- A walk with its window as it was whose next access, if any, is of a cell of the window. -/
structure Walk.StaysIn (w v : Walk) : Prop where
  base : v.base = w.base
  size : v.size = w.size
  access : ∀ c, v.access = some c → c < w.size / 32

theorem Walk.pass_stays (w : Walk) : w.StaysIn w.pass := by
  refine ⟨rfl, rfl, fun c hc => ?_⟩
  unfold Walk.pass Walk.phaseAt Walk.access at hc
  cases hnext : w.follow w.entry.next with
  | none => simp [hnext] at hc
  | some k =>
      simp only [hnext, Option.some.injEq] at hc
      exact hc ▸ Walk.follow_lt hnext

theorem Walk.matched_stays (w : Walk) (more : Link) : w.StaysIn (w.matched more) := by
  unfold Walk.matched
  split
  · cases hmore : w.follow more with
    | none => exact ⟨rfl, rfl, nofun⟩
    | some k => exact ⟨rfl, rfl, fun c hc => Option.some.inj hc ▸ Walk.follow_lt hmore⟩
  · exact ⟨rfl, rfl, nofun⟩

theorem Walk.compareHead_stays (w : Walk) : w.StaysIn w.compareHead := by
  unfold Walk.compareHead
  dsimp only
  split
  · exact w.pass_stays
  split
  · split
    · exact w.matched_stays _
    · exact w.pass_stays
  split
  · split
    · next c hcont => exact ⟨rfl, rfl, fun k hk => Option.some.inj hk ▸ Walk.follow_lt hcont⟩
    · exact w.pass_stays
  · exact w.pass_stays

theorem Walk.compareEighth_stays (w : Walk) (bytes : List Byte) : w.StaysIn (w.compareEighth bytes) := by
  unfold Walk.compareEighth
  dsimp only
  split
  · obtain ⟨hbase, hsize, haccess⟩ := Walk.matched_stays
      { w with entry := { w.entry with payload := w.entry.payload ++ contPayloadIn bytes } } (contLinkIn bytes)
    exact ⟨hbase, hsize, haccess⟩
  · exact w.pass_stays

/-- Whatever a walk reads, it goes on in its window or ends. -/
theorem Walk.advance_stays (w : Walk) (bytes : List Byte) : w.StaysIn (w.advance bytes) := by
  unfold Walk.advance
  split
  · refine ⟨rfl, rfl, fun c hc => ?_⟩
    unfold Walk.phaseAt Walk.access at hc
    cases hhead : w.follow (bucketHeadIn bytes w.bucket) with
    | none => simp [hhead] at hc
    | some k =>
        simp only [hhead, Option.some.injEq] at hc
        exact hc ▸ Walk.follow_lt hhead
  · next c _ =>
    obtain ⟨hbase, hsize, haccess⟩ := Walk.compareHead_stays { w with entry := entryIn c bytes, seen := w.seen + 1 }
    exact ⟨hbase, hsize, haccess⟩
  · exact w.compareEighth_stays bytes
  · obtain ⟨hbase, hsize, haccess⟩ := Walk.matched_stays
      { w with entry := { w.entry with payload := w.entry.payload ++ contPayloadIn bytes } } (contLinkIn bytes)
    exact ⟨hbase, hsize, haccess⟩
  · next h => exact ⟨rfl, rfl, fun c hc => by simp [Walk.access, h] at hc⟩
  · next h => exact ⟨rfl, rfl, fun c hc => by simp [Walk.access, h] at hc⟩

theorem walkInside_advance {s : State} {w : Walk} (h : walkInside s w) (bytes : List Byte) :
    walkInside s (w.advance bytes) := by
  obtain ⟨hbase, hsize, haccess⟩ := w.advance_stays bytes
  refine ⟨by rw [hbase, hsize]; exact h.1, fun c hc => ?_⟩
  rw [hsize]
  exact haccess c hc

end Sys2Proof.Machine
end

section
/-!
SUPPORT. The gates and the invariant of the slots: which claims can be taken at a gate, and what the taking of
them keeps.
-/

namespace Sys2Proof.Machine

open Sys2Proof Sys2Proof.Rules

/-! ### Claims that can be taken -/

/-- Claims at the gate of slot `n` that can be taken: probes where the slot is consulted, and a RELEASE_SLOT of
this slot where no probe walks in it. -/
structure claimsSound (s : State) (n : SlotNo) (c : List Claim) : Prop where
  probe : ∀ tag, .probe tag ∈ c → (s.slot n).access = .lookup ∨ (s.slot n).access = .full
  release : .upkeep ∈ c → ∀ m, s.mp.upkeep = some (.release m) →
    m = n ∧ ∀ p ∈ s.mp.probes, p.slot = n → p.walk = none

/-- With no upkeep operation only the probes matter. -/
theorem claimsSound.of_idle {s : State} {n : SlotNo} {c : List Claim} (hidle : s.mp.upkeep = none)
    (hprobe : ∀ tag, .probe tag ∈ c → (s.slot n).access = .lookup ∨ (s.slot n).access = .full) :
    claimsSound s n c :=
  ⟨hprobe, fun _ m hop => by cases hidle.symm.trans hop⟩

theorem takeProbe_slots {s : State} {n : SlotNo} {tag : Fin 32} (h : slotsInOrder s)
    (haccess : (s.slot n).access = .lookup ∨ (s.slot n).access = .full) :
    slotsInOrder (s.takeProbe n tag) := by
  obtain ⟨hd, hop, hp⟩ := (slotsInOrder_iff s).mp h
  refine (slotsInOrder_iff _).mpr
    ⟨hd.of_dict rfl, fun op h => operationSound_of_dict (hop op h) rfl, fun q hq => ?_⟩
  obtain ⟨p, hmem, rfl⟩ := List.mem_map.mp hq
  refine probeSound.of_dict (s := s) ?_ rfl
  split
  · have hready := (hd.legal n).ready (access_ne_shut haccess)
    exact ⟨nofun, fun w hw => ⟨(hp p hmem).not_vacant hd, Option.some.inj hw ▸ walkInside_start hd hready _ _⟩⟩
  · exact hp p hmem

theorem vacated_legal {s : State} {d : Slot} (h : d.lock = false) : descriptorLegal s d.vacated where
  shut := fun _ => ⟨rfl, h⟩
  vacant := fun _ => ⟨rfl, rfl, rfl⟩
  window := fun hstate => absurd rfl hstate
  buckets := nofun

/-- An empty window shares no byte. -/
theorem not_shareByte_zero (a b k : Nat) : ¬shareByte a 0 b k := fun ⟨x, ha, hm, _⟩ => by omega

theorem finishRelease_slots {s : State} {n : SlotNo} (h : slotsInOrder s)
    (hop : s.mp.upkeep = some (.release n)) (hfree : ∀ p ∈ s.mp.probes, p.slot = n → p.walk = none) :
    slotsInOrder (s.finishRelease n) := by
  obtain ⟨hd, hsound, hp⟩ := (slotsInOrder_iff s).mp h
  obtain ⟨-, hshut, hlock⟩ := hsound _ hop
  have hnone : ∀ p ∈ s.mp.probes, p.slot ≠ n := fun p hmem hn =>
    access_ne_shut ((hp p hmem).waiting (hfree p hmem hn)) (hn ▸ hshut)
  have hvacated : descriptorsInOrder (s.clearUpkeep.withSlot n (s.slot n).vacated) :=
    withSlot_descriptors (hd.of_dict rfl) (vacated_legal hlock) rfl fun m _ => not_shareByte_zero _ _ _
  have hslots := withSlot_slots (clearUpkeep_slots h) rfl hvacated (fun p hmem hn => absurd hn (hnone p hmem))
    fun p hmem hn => absurd hn (hnone p hmem)
  exact kept_slots hslots (respond_kept _ _ _)

theorem takeClaims_slots {n : SlotNo} : ∀ {c : List Claim} {s : State}, slotsInOrder s → claimsSound s n c →
    slotsInOrder (takeClaims n c s)
  | [], s, h, _ => withGate_slots h n _
  | .probe tag :: rest, s, h, hc =>
      takeProbe_slots (withGate_slots h n _) (hc.probe tag List.mem_cons_self)
  | .upkeep :: rest, s, h, hc => by
      unfold takeClaims
      split
      · next m hop =>
        obtain ⟨rfl, hfree⟩ := hc.release List.mem_cons_self m hop
        obtain ⟨-, hshut, -⟩ := h.releasing m hop
        refine takeClaims_slots (finishRelease_slots h hop hfree)
          (.of_idle (finishRelease_upkeep s m) fun tag htag => ?_)
        exact absurd hshut (access_ne_shut (hc.probe tag (List.mem_cons_of_mem _ htag)))
      · exact withGate_slots h n _

theorem serveGate_slots {s : State} {n : SlotNo} (h : slotsInOrder s)
    (hc : (s.gate n).holder = none → claimsSound s n (s.gate n).waiting) : slotsInOrder (s.serveGate n) := by
  unfold State.serveGate
  split
  · exact h
  · next hnone => exact takeClaims_slots h (hc hnone)

theorem releaseGate_slots {s : State} {n : SlotNo} (h : slotsInOrder s)
    (hc : claimsSound s n (s.gate n).waiting) : slotsInOrder (s.releaseGate n) :=
  serveGate_slots (withGate_slots h n _) fun _ => by
    rw [State.gate_withGate_self]
    exact ⟨hc.probe, hc.release⟩

theorem claimGate_slots {s : State} {n : SlotNo} {c : Claim} (h : slotsInOrder s)
    (hc : (s.gate n).holder = none → claimsSound s n ((s.gate n).waiting ++ [c])) :
    slotsInOrder (s.claimGate n c) :=
  serveGate_slots (withGate_slots h n _) fun hnone => by
    rw [State.gate_withGate_self] at hnone ⊢
    obtain ⟨hprobe, hrelease⟩ := hc hnone
    exact ⟨hprobe, hrelease⟩

/-! ### What the gates' own invariant says of their claims -/

theorem kept_gates {s t : State} (h : gatesInOrder s) (ht : StoreKept s t) : gatesInOrder t := by
  have hgate := ht.gate
  obtain ⟨-, hmp⟩ := ht
  exact {
    tags := by rw [hmp]; exact h.tags
    served := fun n => by unfold gateServed; rw [hgate]; exact h.served n
    once := fun n => by rw [hgate]; exact h.once n
    taken := fun n tag => by rw [hgate, hmp]; exact h.taken n tag
    waiting := fun n tag => by rw [hgate, hmp]; exact h.waiting n tag
    upkeep := fun n => by rw [hgate, hmp]; exact h.upkeep n
    notBoth := fun n => by rw [hgate]; exact h.notBoth n }

/-- A probe that waits at the gate of a slot waits into a consulted slot. -/
theorem access_of_waiting {s : State} (hg : gatesInOrder s) (h : slotsInOrder s) {n : SlotNo} {tag : Fin 32}
    (hclaim : .probe tag ∈ (s.gate n).waiting) : (s.slot n).access = .lookup ∨ (s.slot n).access = .full := by
  obtain ⟨p, hmem, -, rfl, hwalk⟩ := (hg.waiting n tag).mp hclaim
  exact h.waiting p hmem hwalk

theorem no_waiting_of_shut {s : State} (hg : gatesInOrder s) (h : slotsInOrder s) {n : SlotNo}
    (hshut : (s.slot n).access = .shut) (tag : Fin 32) : .probe tag ∉ (s.gate n).waiting := fun hclaim =>
  access_ne_shut (access_of_waiting hg h hclaim) hshut

/-- No probe walks in a slot whose gate has no holder. -/
theorem not_walking_of_free {s : State} (hg : gatesInOrder s) {n : SlotNo} (hfree : (s.gate n).holder = none)
    (p : Probe) (hmem : p ∈ s.mp.probes) (hn : p.slot = n) : p.walk = none := by
  by_contra hwalk
  have hholds := (hg.taken n p.tag).mpr ⟨p, hmem, rfl, hn, Option.isSome_iff_ne_none.mpr hwalk⟩
  cases hfree.symm.trans hholds

/-! ### The taking of claims leaves no new claim -/

theorem finishRelease_gate (s : State) (m n : SlotNo) : (s.finishRelease m).gate n = s.gate n := by
  have hmp : (s.finishRelease m).mp = s.clearUpkeep.mp := by
    simp [State.finishRelease, State.clearUpkeep]
  rw [State.gate, hmp]
  rfl

theorem takeClaims_waiting {m n : SlotNo} {x : Claim} : ∀ {c : List Claim} {s : State},
    x ∈ ((takeClaims m c s).gate n).waiting → x ∈ (s.gate n).waiting ∨ (m = n ∧ x ∈ c)
  | [], s, h => by
      unfold takeClaims at h
      rw [State.gate_withGate] at h
      split at h
      · cases h
      · exact .inl h
  | .probe tag :: rest, s, h => by
      change x ∈ ((s.withGate m ⟨some (.probe tag), rest⟩).gate n).waiting at h
      rw [State.gate_withGate] at h
      split at h
      · next he => exact .inr ⟨he, List.mem_cons_of_mem _ h⟩
      · exact .inl h
  | .upkeep :: rest, s, h => by
      unfold takeClaims at h
      split at h
      · rcases takeClaims_waiting h with h | ⟨he, h⟩
        · rw [finishRelease_gate] at h
          exact .inl h
        · exact .inr ⟨he, List.mem_cons_of_mem _ h⟩
      · rw [State.gate_withGate] at h
        split at h
        · next he => exact .inr ⟨he, List.mem_cons_of_mem _ h⟩
        · exact .inl h

theorem releaseGate_waiting {s : State} {m n : SlotNo} {x : Claim}
    (h : x ∈ ((s.releaseGate m).gate n).waiting) : x ∈ (s.gate n).waiting := by
  have hgate : x ∈ ((s.withGate m { s.gate m with holder := none }).gate n).waiting →
      x ∈ (s.gate n).waiting := fun h => by
    rw [State.gate_withGate] at h
    split at h
    · next he => exact he ▸ h
    · exact h
  unfold State.releaseGate State.serveGate at h
  split at h
  · exact hgate h
  · rcases takeClaims_waiting h with h | ⟨he, h⟩
    · exact hgate h
    · rw [State.gate_withGate_self] at h
      exact he ▸ h

/-- With no upkeep operation, a gate released changes no slot. -/
theorem releaseGate_slot_of_idle {s : State} (hidle : s.mp.upkeep = none) (m n : SlotNo) :
    (s.releaseGate m).slot n = s.slot n :=
  serveGate_slot fun _ _ k hop => by cases hidle.symm.trans hop

end Sys2Proof.Machine
end

section
/-!
PROOF. Every step keeps the slot descriptors legal, their windows apart and every walk in its window (R21 to R24,
R27, R28, R31 to R33, R58, R61).
-/

namespace Sys2Proof.Machine

open Sys2Proof Sys2Proof.Rules

/-! ### Commands that answer at once -/

theorem mem_allFour (n : Fin 4) : n ∈ allFour := by revert n; decide

theorem windowSizes_pow {size : Nat} (h : size ∈ windowSizes) : ∃ e, 16 ≤ e ∧ e ≤ 24 ∧ size = 2 ^ e := by
  revert h
  simp only [windowSizes, List.mem_cons, List.not_mem_nil, or_false]
  rintro (rfl | rfl | rfl | rfl | rfl | rfl | rfl | rfl | rfl)
  exacts [⟨16, by decide⟩, ⟨17, by decide⟩, ⟨18, by decide⟩, ⟨19, by decide⟩, ⟨20, by decide⟩,
    ⟨21, by decide⟩, ⟨22, by decide⟩, ⟨23, by decide⟩, ⟨24, by decide⟩]

theorem bucketCounts_pow {b : Nat} (h : b ∈ bucketCounts) : ∃ e, 10 ≤ e ∧ e ≤ 18 ∧ b = 2 ^ e := by
  revert h
  simp only [bucketCounts, List.mem_cons, List.not_mem_nil, or_false]
  rintro (rfl | rfl | rfl | rfl | rfl | rfl | rfl | rfl | rfl)
  exacts [⟨10, by decide⟩, ⟨11, by decide⟩, ⟨12, by decide⟩, ⟨13, by decide⟩, ⟨14, by decide⟩,
    ⟨15, by decide⟩, ⟨16, by decide⟩, ⟨17, by decide⟩, ⟨18, by decide⟩]

/-- The probes that wait into a slot are gone once they are withdrawn. -/
theorem not_waitingInto_of_withdraw {m : Mp} {n : SlotNo} {q : Probe}
    (h : q ∈ (m.withdraw (m.waitingInto n)).probes) : ¬(q.slot = n ∧ q.walk = none) := by
  rintro ⟨hn, hwalk⟩
  obtain ⟨p, hmem, hq⟩ := List.mem_filterMap.mp h
  split at hq
  · split at hq
    · next hsome =>
      cases hq
      rw [show p.walk = none from hwalk] at hsome
      cases hsome
    · cases hq
  · next htag =>
    cases hq
    refine htag (List.contains_iff_mem.mpr (List.mem_map_of_mem (List.mem_filter.mpr ⟨hmem, ?_⟩)))
    simp [hn, hwalk]

/-- The probes that wait into a slot answered, the slot need not be consulted. -/
theorem answerMiss_slots {s : State} {n : SlotNo} (hd : descriptorsInOrder s) (hidle : s.mp.upkeep = none)
    (hp : ∀ p ∈ s.mp.probes, ¬(p.slot = n ∧ p.walk = none) → probeSound s p) :
    slotsInOrder (s.answerMiss n) := by
  refine thinned_slots ((slotsInOrder_iff (s.withMp (s.mp.withdraw (s.mp.waitingInto n)))).mpr
    ⟨hd.of_dict rfl, fun op hop => ?_, fun q hq => ?_⟩) (deliver_thinned _ _ _)
  · cases hidle.symm.trans hop
  · obtain ⟨p, hmem, hslot, hwalk⟩ := (withdraw_thinned s (s.mp.waitingInto n)).probes q hq
    have hanswered := not_waitingInto_of_withdraw hq
    rw [← hslot, ← hwalk] at hanswered
    exact ((hp p hmem hanswered).of_same hslot hwalk).of_dict rfl

section

variable {s : State} (h : slotsInOrder s) (hidle : s.mp.upkeep = none)
include h hidle

/-- SET_MEMORY: with every slot VACANT there is no window and no probe. -/
theorem memory_slots {mib : Nat} (hsize : mib ∈ memorySizes) (hvacant : ∀ n, (s.slot n).state = .vacant) :
    slotsInOrder (s.withDict { s.dict with memMiB := mib }) := by
  obtain ⟨hd, -, hp⟩ := (slotsInOrder_iff s).mp h
  refine (slotsInOrder_iff _).mpr ⟨{ hd with memory := ?_, legal := fun n => ?_ }, fun op hop => ?_,
    fun p hmem => absurd (hvacant _) ((hp p hmem).not_vacant hd)⟩
  · exact List.mem_cons_of_mem 0 hsize
  · exact { hd.legal n with window := fun hstate => absurd (hvacant n) hstate }
  · cases hidle.symm.trans hop

theorem window_slots {n : SlotNo} {base size : Nat} (hlock : (s.slot n).lock = false)
    (hstate : (s.slot n).state = .vacant ∨ (s.slot n).state = .unformatted)
    (hlegal : size ∈ windowSizes) (haligned : size ∣ base) (hinside : base + size ≤ s.dict.memBytes)
    (hapart : s.overlaps n base size = false) :
    slotsInOrder (s.withSlot n ((s.slot n).unformatted base size)) := by
  obtain ⟨hd, -, hp⟩ := (slotsInOrder_iff s).mp h
  have hnot : (s.slot n).state ≠ .ready := by rcases hstate with he | he <;> rw [he] <;> nofun
  refine withSlot_slots h hidle (withSlot_descriptors hd ?_ rfl fun m hm hshare => ?_) (fun _ _ _ => nofun)
    fun p hmem hn hwalk => absurd (hn ▸ ((hd.legal n).shut hnot).1) (access_ne_shut ((hp p hmem).waiting hwalk))
  · exact {
      shut := fun _ => ⟨rfl, hlock⟩
      vacant := nofun
      window := fun _ => ⟨windowSizes_pow hlegal, haligned, hinside⟩
      buckets := nofun }
  · obtain ⟨x, hbase, hend, hmbase, hmend⟩ := hshare
    have hvacant : (s.slot m).state ≠ .vacant := fun hv => by
      obtain ⟨-, hzero, -⟩ := (hd.legal m).vacant hv
      omega
    have hany := List.any_eq_false.mp hapart m (mem_allFour m)
    change base ≤ x at hbase
    change x < base + size at hend
    simp [hm, hvacant, show base < (s.slot m).base + (s.slot m).size by omega] at hany
    omega

theorem lock_slots {n : SlotNo} (hready : (s.slot n).state = .ready) :
    slotsInOrder (s.withSlot n { s.slot n with lock := true }) := by
  obtain ⟨hd, -, hp⟩ := (slotsInOrder_iff s).mp h
  refine withSlot_slots h hidle (withSlot_descriptors_sameWindow hd ?_ rfl rfl rfl) (fun p hmem hn => hn ▸ (hp p hmem).not_vacant hd)
    fun p hmem hn hwalk => hn ▸ (hp p hmem).waiting hwalk
  exact { hd.legal n with shut := fun hstate => absurd hready hstate }

/-- SET_ACCESS: a slot no longer consulted has its waiting probes answered (R67). -/
theorem access_slots {n : SlotNo} (hready : (s.slot n).state = .ready) (a : Access) :
    slotsInOrder (s.giveAccess n a) := by
  obtain ⟨hd, -, hp⟩ := (slotsInOrder_iff s).mp h
  have hgiven : descriptorsInOrder (s.withSlot n { s.slot n with access := a }) :=
    withSlot_descriptors_sameWindow hd { hd.legal n with shut := fun hstate => absurd hready hstate } rfl rfl rfl
  have hstate : ∀ p ∈ s.mp.probes, p.slot = n → ({ s.slot n with access := a } : Slot).state ≠ .vacant :=
    fun p hmem hn => hn ▸ (hp p hmem).not_vacant hd
  unfold State.giveAccess
  dsimp only
  split
  · next hsame =>
    refine withSlot_slots h hidle hgiven hstate fun p hmem hn hwalk => ?_
    rw [← Slot.consulted_iff, ← hsame, Slot.consulted_iff]
    exact hn ▸ (hp p hmem).waiting hwalk
  · split
    · next hconsulted =>
      exact kept_slots (withSlot_slots h hidle hgiven hstate fun _ _ _ _ => (Slot.consulted_iff _).mp hconsulted)
        ⟨by simp, by simp⟩
    · refine answerMiss_slots (hgiven.of_dict (by simp)) (by simpa using hidle) fun p hmem hanswered => ?_
      have hmem' : p ∈ s.mp.probes := by simpa using hmem
      exact (withSlot_probe (hp p hmem') (hstate p hmem') fun hn hwalk => absurd ⟨hn, hwalk⟩ hanswered).of_dict
        (by simp)

theorem ranks_slots {order : List SlotNo} (hlength : order.length = 4) (hdiffer : order.Nodup) :
    slotsInOrder (s.withDict (s.dict.withRanks order)) := by
  obtain ⟨hd, -, hp⟩ := (slotsInOrder_iff s).mp h
  have hslot (n : SlotNo) : (s.withDict (s.dict.withRanks order)).slot n =
      { s.slot n with rank := Fin.ofNat 4 (order.idxOf n) } := by
    simp [State.slot, Dict.withRanks]
  have hmem (n : SlotNo) : n ∈ order := by
    have hcard : order.toFinset = Finset.univ := by
      rw [← Finset.card_eq_iff_eq_univ, List.toFinset_card_of_nodup hdiffer, hlength]
      rfl
    exact List.mem_toFinset.mp (hcard ▸ Finset.mem_univ n)
  refine (slotsInOrder_iff _).mpr ⟨⟨hd.memory, fun n => ?_, fun a b => ?_, fun a b hab => ?_⟩, fun op hop => ?_,
    fun p hp' => ?_⟩
  · rw [hslot]
    exact { hd.legal n with }
  · rw [hslot, hslot]
    exact hd.apart a b
  · have ha := List.idxOf_lt_length_iff.mpr (hmem a)
    have hb := List.idxOf_lt_length_iff.mpr (hmem b)
    have hindex : order.idxOf a = order.idxOf b := by
      simp only [hslot, Fin.ext_iff, Fin.val_ofNat] at hab
      omega
    exact (List.idxOf_inj (hmem a)).mp hindex
  · cases hidle.symm.trans hop
  · have hsound := hp p hp'
    exact hsound.of_slot rfl (by rw [hslot]; exact id) (by rw [hslot]; exact hsound.waiting)

end

/-! ### Operations begun -/

/-- An operation that finds its slot as it needs it begins; where it is a RELEASE_SLOT, no probe walks in a free
slot. -/
theorem beginUpkeep_slots {s : State} {n : SlotNo} {op : UpkeepOp} (h : slotsInOrder s)
    (hop : operationSound s op)
    (hprobe : ∀ tag, .probe tag ∈ (s.gate n).waiting → (s.slot n).access = .lookup ∨ (s.slot n).access = .full)
    (hrelease : ∀ m, op = .release m → (s.gate n).holder = none →
      m = n ∧ ∀ p ∈ s.mp.probes, p.slot = n → p.walk = none) : slotsInOrder (s.beginUpkeep n op) := by
  have hbegun : slotsInOrder (s.withMp { s.mp with upkeep := some op }) :=
    withUpkeep_slots h rfl fun o ho => Option.some.inj ho ▸ hop
  refine claimGate_slots hbegun fun hfree => ⟨fun tag htag => hprobe tag ?_, fun _ m hm =>
    hrelease m (Option.some.inj hm) hfree⟩
  rcases List.mem_append.mp htag with htag | htag
  · exact htag
  · cases List.mem_singleton.mp htag

theorem formatting_legal {s : State} {n : SlotNo} {b : Nat} (hd : descriptorsInOrder s)
    (hlock : (s.slot n).lock = false) (hformattable : (s.slot n).formattable = true)
    (hlegal : b ∈ bucketCounts) (hroom : 4 * b ≤ (s.slot n).size / 4) :
    (s.slot n).access = .shut ∧ descriptorLegal s ((s.slot n).formatting b) := by
  have hcases : (s.slot n).state = .unformatted ∨ ((s.slot n).state = .ready ∧ (s.slot n).access = .shut) := by
    simpa [Slot.formattable] using hformattable
  have hshut : (s.slot n).access = .shut := by
    rcases hcases with hstate | ⟨-, hshut⟩
    · exact ((hd.legal n).shut (by rw [hstate]; nofun)).1
    · exact hshut
  have hwindow : (s.slot n).state ≠ .vacant := by
    rcases hcases with hstate | ⟨hstate, -⟩ <;> rw [hstate] <;> nofun
  exact ⟨hshut, {
    shut := fun _ => ⟨hshut, hlock⟩
    vacant := nofun
    window := fun _ => (hd.legal n).window hwindow
    buckets := fun _ => ⟨bucketCounts_pow hlegal, by
      change 4 * (4 * b) ≤ (s.slot n).size
      omega⟩ }⟩

theorem operationBegun_slots {s u : State} {n : SlotNo} {op : UpkeepOp} (h : slotsInOrder s)
    (hg : gatesInOrder s) (hidle : s.mp.upkeep = none) (hbegun : OperationBegun s u n op) :
    slotsInOrder (u.beginUpkeep n op) := by
  obtain ⟨hd, -, hp⟩ := (slotsInOrder_iff s).mp h
  cases hbegun with
  | format hlock hformattable hlegal hroom =>
      obtain ⟨hshut, hformatting⟩ := formatting_legal hd hlock hformattable hlegal hroom
      have hslots := withSlot_slots h hidle (withSlot_descriptors_sameWindow hd hformatting rfl rfl rfl)
        (fun _ _ _ => nofun) fun p hmem hn hwalk =>
          absurd (hn ▸ hshut) (access_ne_shut ((hp p hmem).waiting hwalk))
      refine beginUpkeep_slots hslots ?_ (fun tag htag => absurd htag (no_waiting_of_shut hg h hshut tag)) nofun
      rw [operationSound, State.slot_withSlot_self]
      rfl
  | release hlock hstate haccess =>
      exact beginUpkeep_slots h ⟨hstate, haccess, hlock⟩ (fun _ htag => access_of_waiting hg h htag)
        fun m hm hfree => ⟨(UpkeepOp.release.inj hm).symm, not_walking_of_free hg hfree⟩
  | entry _ haccess hlater =>
      have hready := (hd.legal n).ready haccess
      exact beginUpkeep_slots h ⟨hready, rfl, rfl, walkInside_start hd hready _ _,
        fun m hm => (Slot.consulted_iff _).mp (hlater m hm)⟩ (fun _ htag => access_of_waiting hg h htag) nofun

theorem storeChanged_slots {s u : State} (h : slotsInOrder s) (hidle : s.mp.upkeep = none)
    (hchanged : StoreChanged s u) : slotsInOrder u := by
  cases hchanged with
  | thinned ht => exact thinned_slots h ht
  | memory hsize hvacant => exact memory_slots h hidle hsize hvacant
  | window hlock hstate hlegal haligned hinside hapart =>
      exact window_slots h hidle hlock hstate hlegal haligned hinside hapart
  | access a _ hready => exact access_slots h hidle hready a
  | ranks hlength hdiffer => exact kept_slots (ranks_slots h hidle hlength hdiffer) ⟨by simp, by simp⟩
  | lock hready => exact lock_slots h hidle hready

theorem commandStores_slots {s t : State} (h : slotsInOrder s) (hg : gatesInOrder s)
    (hidle : s.mp.upkeep = none) (hstores : commandStores s t) : slotsInOrder t := by
  rcases hstores with ⟨u, hchanged, hkept⟩ | ⟨u, n, op, hbegun, rfl⟩
  · exact kept_slots (storeChanged_slots h hidle hchanged) hkept
  · exact operationBegun_slots h hg hidle hbegun

/-! ### The ends of operations -/

/-- An upkeep claim dropped leaves a gate whose waiting probes can be taken. -/
theorem dropUpkeep_slots {s : State} {n : SlotNo} (h : slotsInOrder s.clearUpkeep)
    (hprobe : ∀ tag, .probe tag ∈ (s.gate n).waiting → (s.slot n).access = .lookup ∨ (s.slot n).access = .full) :
    slotsInOrder (s.dropUpkeep n) := by
  refine kept_slots (serveGate_slots (withGate_slots h n _) fun _ => .of_idle rfl fun tag htag => hprobe tag ?_)
    (withCp_kept _ _)
  rw [State.gate_withGate_self] at htag
  exact List.mem_of_mem_filter htag

theorem abandonFormat_slots {s : State} {n : SlotNo} {k : Nat} (h : slotsInOrder s)
    (hop : s.mp.upkeep = some (.format n k)) : slotsInOrder (s.abandonFormat n).clearUpkeep := by
  obtain ⟨hd, hsound, hp⟩ := (slotsInOrder_iff s).mp h
  have hstate : (s.slot n).state = .formatting := hsound _ hop
  obtain ⟨hshut, hlock⟩ := (hd.legal n).shut (by rw [hstate]; nofun)
  have hlegal : descriptorLegal s.clearUpkeep ((s.slot n).unformatted (s.slot n).base (s.slot n).size) := {
    shut := fun _ => ⟨rfl, hlock⟩
    vacant := nofun
    window := fun _ => (hd.legal n).window (by rw [hstate]; nofun)
    buckets := nofun }
  exact withSlot_slots (clearUpkeep_slots h) rfl
    (withSlot_descriptors_sameWindow (hd.of_dict rfl) hlegal rfl rfl rfl) (fun _ _ _ => nofun)
    fun p hmem hn hwalk => absurd (hn ▸ hshut) (access_ne_shut ((hp p hmem).waiting hwalk))

theorem formatComplete_slots {s : State} {n : SlotNo} {k : Nat} (h : slotsInOrder s) (hg : gatesInOrder s)
    (hop : s.mp.upkeep = some (.format n k)) :
    slotsInOrder ((s.withSlot n (s.slot n).formatted).done.clearUpkeep.releaseGate n) := by
  obtain ⟨hd, hsound, hp⟩ := (slotsInOrder_iff s).mp h
  have hstate : (s.slot n).state = .formatting := hsound _ hop
  obtain ⟨hshut, hlock⟩ := (hd.legal n).shut (by rw [hstate]; nofun)
  have hlegal : descriptorLegal s.clearUpkeep (s.slot n).formatted := {
    shut := fun hnot => absurd rfl hnot
    vacant := nofun
    window := fun _ => (hd.legal n).window (by rw [hstate]; nofun)
    buckets := fun _ => (hd.legal n).buckets (.inl hstate) }
  have hformatted := withSlot_slots (clearUpkeep_slots h) rfl
    (withSlot_descriptors_sameWindow (hd.of_dict rfl) hlegal rfl rfl rfl) (fun _ _ _ => nofun)
    fun p hmem hn hwalk => absurd (hn ▸ hshut) (access_ne_shut ((hp p hmem).waiting hwalk))
  have hdone : slotsInOrder (s.withSlot n (s.slot n).formatted).done.clearUpkeep :=
    kept_slots hformatted ⟨by simp [State.withSlot], by simp [State.clearUpkeep]⟩
  refine releaseGate_slots hdone (.of_idle rfl fun tag htag => ?_)
  have hclaim : .probe tag ∈ (s.gate n).waiting := by simpa [State.gate, State.clearUpkeep] using htag
  exact absurd hclaim (no_waiting_of_shut hg h hshut tag)

/-- The end of an entry operation changes counts and free list alone. -/
theorem EntryOp.descriptor_eq (op : EntryOp) (d : Slot) : ∃ count free head, op.descriptor d =
    { d with entryCount := count, freeCount := free, freeHead := head } := by
  unfold EntryOp.descriptor
  split
  · exact ⟨_, _, _, rfl⟩
  · split <;> exact ⟨_, _, _, rfl⟩

theorem answerEntryOp_store (s : State) (op : EntryOp) :
    StoreKept (s.withSlot op.slot (op.descriptor (s.slot op.slot))) (s.answerEntryOp op) := by
  unfold State.answerEntryOp
  dsimp only
  split <;> exact ⟨by simp, by simp⟩

theorem endEntryOp_slots {s : State} {op : EntryOp} (h : slotsInOrder s) (hg : gatesInOrder s)
    (hop : s.mp.upkeep = some (.entry op)) : slotsInOrder (s.endEntryOp op) := by
  obtain ⟨hd, hsound, hp⟩ := (slotsInOrder_iff s).mp h
  obtain ⟨hready, -, -, -, hlater⟩ : operationSound s (.entry op) := hsound _ hop
  have hreleased : slotsInOrder (s.clearUpkeep.releaseGate op.slot) :=
    releaseGate_slots (clearUpkeep_slots h) (.of_idle rfl fun _ htag => access_of_waiting hg h htag)
  unfold State.endEntryOp
  split
  · obtain ⟨count, free, head, hdescriptor⟩ := op.descriptor_eq (s.slot op.slot)
    have hwritten : slotsInOrder (s.clearUpkeep.withSlot op.slot (op.descriptor (s.slot op.slot))) := by
      rw [hdescriptor]
      exact withSlot_slots (clearUpkeep_slots h) rfl
        (withSlot_descriptors_sameWindow (hd.of_dict rfl) { hd.legal op.slot with } rfl rfl rfl)
        (fun p hmem hn => hn ▸ (hp p hmem).not_vacant hd) fun p hmem hn hwalk => hn ▸ (hp p hmem).waiting hwalk
    have hstore := answerEntryOp_store s op
    have hanswered : slotsInOrder (s.answerEntryOp op).clearUpkeep :=
      kept_slots hwritten ⟨hstore.dict, by rw [State.clearUpkeep, hstore.mp]; rfl⟩
    have hgate : (s.answerEntryOp op).clearUpkeep.gate op.slot = s.gate op.slot := hstore.gate op.slot
    have hslot : (s.answerEntryOp op).clearUpkeep.slot op.slot = op.descriptor (s.slot op.slot) :=
      (hstore.slot op.slot).trans (State.slot_withSlot_self ..)
    refine releaseGate_slots hanswered (.of_idle rfl fun tag htag => ?_)
    rw [hslot, hdescriptor]
    exact access_of_waiting hg h (hgate ▸ htag)
  · next n rest hleft =>
    have hslots : op.laterSlots = n :: rest := by
      unfold State.slotsLeft at hleft
      split at hleft
      · exact hleft
      · cases hleft
    have hslot (m : SlotNo) : (s.clearUpkeep.releaseGate op.slot).slot m = s.slot m :=
      releaseGate_slot_of_idle rfl _ _
    have hconsulted : ∀ m ∈ n :: rest, (s.slot m).access = .lookup ∨ (s.slot m).access = .full := hslots ▸ hlater
    obtain ⟨hd', -, -⟩ := (slotsInOrder_iff _).mp hreleased
    have hn := hconsulted n List.mem_cons_self
    have hready' : ((s.clearUpkeep.releaseGate op.slot).slot n).state = .ready := by
      rw [hslot]; exact (hd.legal n).ready (access_ne_shut hn)
    refine beginUpkeep_slots hreleased ⟨hready', rfl, rfl, walkInside_start hd' hready' _ _, fun m hm => ?_⟩
      (fun _ _ => ?_) nofun
    · rw [hslot]; exact hconsulted m (List.mem_cons_of_mem _ hm)
    · rw [hslot]; exact hn

/-! ### Probes and grants -/

theorem issue_slots {s : State} (h : slotsInOrder s) (hg : gatesInOrder s) (p : Pair) (tag : Fin 32) :
    slotsInOrder (s.issue p tag) := by
  unfold State.issue
  dsimp only
  split
  · next hconsulted =>
    have haccess := (Slot.consulted_iff _).mp hconsulted
    obtain ⟨hd, hop, hp⟩ := (slotsInOrder_iff s).mp h
    refine claimGate_slots ((slotsInOrder_iff _).mpr ⟨hd.of_dict rfl,
      fun op h => operationSound_of_dict (hop op h) rfl, fun q hq => probeSound.of_dict (s := s) ?_ rfl⟩)
      fun hfree => ?_
    · rcases List.mem_append.mp hq with hq | hq
      · exact hp q hq
      · rw [List.mem_singleton.mp hq]
        exact ⟨fun _ => haccess, nofun⟩
    · have hwaiting : (s.gate p.slot).waiting = [] := hg.served p.slot hfree
      refine ⟨fun _ _ => haccess, fun hclaim => ?_⟩
      have hclaim' : .upkeep ∈ (s.gate p.slot).waiting ++ [Claim.probe tag] := hclaim
      rw [hwaiting] at hclaim'
      cases List.mem_singleton.mp hclaim'
  · exact thinned_slots h ((withTe_kept s _).thinned.trans (tryDecide_thinned _))

theorem holderProbe_holds {s : State} {n : SlotNo} {p : Probe} (h : s.holderProbe n = some p) :
    (s.gate n).holder = some (.probe p.tag) := by
  unfold State.holderProbe at h
  split at h
  · next tag hholder =>
    have htag := List.find?_some h
    rw [hholder, eq_of_beq htag]
  · cases h

theorem endProbe_slots {s : State} {n : SlotNo} {p : Probe} (h : slotsInOrder s) (hg : gatesInOrder s)
    (hholds : s.holderProbe n = some p) (r : PairResult) : slotsInOrder (s.endProbe n p r) := by
  obtain ⟨hd, hop, hp⟩ := (slotsInOrder_iff s).mp h
  have hfreed : slotsInOrder (s.freeTagOf p.tag) :=
    thinned_slots h ⟨rfl, rfl, fun q hq => ⟨q, List.mem_of_mem_filter hq, rfl, rfl⟩⟩
  have hreleased : slotsInOrder ((s.freeTagOf p.tag).releaseGate n) := by
    refine releaseGate_slots hfreed ⟨fun tag htag => access_of_waiting hg h htag, fun hclaim m hm => ?_⟩
    obtain ⟨op, hop', hslot⟩ := (hg.upkeep n).mp (.inr hclaim)
    rw [show s.mp.upkeep = some (.release m) from hm] at hop'
    cases hop'
    refine ⟨hslot, fun q hq hqn => ?_⟩
    obtain ⟨hmem, htag⟩ := List.mem_filter.mp hq
    by_contra hwalk
    have hholder := (hg.taken n q.tag).mpr ⟨q, hmem, rfl, hqn, Option.isSome_iff_ne_none.mpr hwalk⟩
    rw [holderProbe_holds hholds] at hholder
    have hsame : p.tag = q.tag := Claim.probe.inj (Option.some.inj hholder)
    simp [hsame] at htag
  unfold State.endProbe
  dsimp only
  split
  · exact hreleased
  · exact thinned_slots hreleased (deliver_thinned _ _ _)

theorem grantLookup_slots {s : State} (h : slotsInOrder s) (n : SlotNo) (c : Nat) :
    slotsInOrder (s.grantLookup n c) := by
  obtain ⟨hd, hop, hp⟩ := (slotsInOrder_iff s).mp h
  refine (slotsInOrder_iff _).mpr ⟨hd.of_dict rfl, fun op h => operationSound_of_dict (hop op h) rfl,
    fun q hq => probeSound.of_dict (s := s) ?_ rfl⟩
  obtain ⟨p, hmem, rfl⟩ := List.mem_map.mp hq
  split
  · refine ⟨fun hnone => (hp p hmem).waiting (Option.map_eq_none_iff.mp hnone), fun w hw => ?_⟩
    obtain ⟨v, hv, rfl⟩ := Option.map_eq_some_iff.mp hw
    obtain ⟨hstate, hinside⟩ := (hp p hmem).walking v hv
    exact ⟨hstate, walkInside_advance hinside _⟩
  · exact hp p hmem

/-- An access of an entry operation moves its walk by a cell read, or leaves it alone. -/
theorem EntryOp.perform_walk (op : EntryOp) (d : Slot) (m : List Host.Cell) (c : Nat) :
    ((op.perform d m c).1.walk = op.walk ∨ ∃ bytes, (op.perform d m c).1.walk = op.walk.advance bytes) ∧
      (op.perform d m c).1.laterSlots = op.laterSlots := by
  have hwalk (bytes : List Byte) : (op.walkOn bytes).walk = op.walk.advance bytes ∧
      (op.walkOn bytes).laterSlots = op.laterSlots := by
    simp only [EntryOp.walkOn, EntryOp.afterWalk, EntryOp.checkAdd, EntryOp.endWith, EntryOp.proceed]
    repeat' split
    all_goals exact ⟨rfl, rfl⟩
  unfold EntryOp.perform
  split
  · exact ⟨.inr ⟨_, (hwalk _).1⟩, (hwalk _).2⟩
  all_goals exact ⟨.inl rfl, rfl⟩

theorem grantUpkeep_slots {s : State} {op : UpkeepOp} (h : slotsInOrder s) (hop : s.mp.upkeep = some op)
    (c : Nat) : slotsInOrder (s.grantUpkeep op c) := by
  have hsound := ((slotsInOrder_iff s).mp h).2.1 op hop
  have hgranted : operationSound s (op.perform (s.slot op.slot) s.sdram c).1 := by
    cases op with
    | format n k => exact hsound
    | release n => exact hsound
    | entry e =>
        obtain ⟨hstate, hbase, hsize, hinside, hlater⟩ := hsound
        obtain ⟨hslot, -⟩ := EntryOp.perform_keeps e (s.slot e.slot) s.sdram c
        obtain ⟨hwalk, hleft⟩ := EntryOp.perform_walk e (s.slot e.slot) s.sdram c
        change operationSound s (.entry (e.perform (s.slot e.slot) s.sdram c).1)
        rw [operationSound, hslot, hleft]
        rcases hwalk with hwalk | ⟨bytes, hwalk⟩
        · rw [hwalk]
          exact ⟨hstate, hbase, hsize, hinside, hlater⟩
        · obtain ⟨hbase', hsize', -⟩ := e.walk.advance_stays bytes
          rw [hwalk, hbase', hsize']
          exact ⟨hstate, hbase, hsize, walkInside_advance hinside bytes, hlater⟩
  exact kept_slots (withUpkeep_slots (m := { s.mp with
    lookupRun := 0, upkeep := some (op.perform (s.slot op.slot) s.sdram c).1 }) h rfl
    fun o ho => Option.some.inj ho ▸ hgranted) ⟨rfl, rfl⟩

/-! ### Every step -/

theorem storeStep_slots {s t : State} (hq : queuesInBounds s) (hg : gatesInOrder s) (h : slotsInOrder s)
    (hstep : StoreStep s t) : slotsInOrder t := by
  cases hstep with
  | thinned ht => exact thinned_slots h ht
  | command hidle before hstores =>
      have hnone : s.mp.upkeep = none := Option.not_isSome_iff_eq_none.mp (by
        rw [← hq.operation, hidle]; nofun)
      exact commandStores_slots (kept_slots h before) (kept_gates hg before) (by rw [before.mp]; exact hnone)
        hstores
  | @abandon u _ n k busy before after =>
      have hu := kept_slots h before
      have hshut := (hu.shut n (by rw [hu.formatting n k busy]; nofun)).1
      exact thinned_slots (dropUpkeep_slots (abandonFormat_slots hu busy) fun tag htag =>
        absurd htag (no_waiting_of_shut (kept_gates hg before) hu hshut tag)) after
  | drop _ before after =>
      have hu := kept_slots h before
      exact thinned_slots (dropUpkeep_slots (clearUpkeep_slots hu) fun tag htag =>
        access_of_waiting (kept_gates hg before) hu htag) after
  | formatComplete busy _ => exact formatComplete_slots h hg busy
  | entryEnd busy _ => exact endEntryOp_slots h hg busy
  | issue p _ => exact issue_slots h hg p _
  | probeEnd holds => exact endProbe_slots h hg holds _
  | lookup n c => exact grantLookup_slots h n c
  | upkeep busy c => exact grantUpkeep_slots h busy c

theorem hardReset_slots {s t : State} (h : execHardReset s = .next t) : slotsInOrder t := by
  cases h
  have hslot (n : SlotNo) : Dict.reset.slots[n] = Slot.reset n := slotReset_slot n
  refine (slotsInOrder_iff _).mpr ⟨⟨List.mem_cons_self, fun n => ?_, fun a b _ => ?_, fun a b hab => ?_⟩,
    fun _ hop => ?_, fun _ hp => absurd hp List.not_mem_nil⟩
  · change descriptorLegal _ Dict.reset.slots[n]
    rw [hslot]
    exact ⟨fun _ => ⟨rfl, rfl⟩, fun _ => ⟨rfl, rfl, rfl⟩, fun hstate => absurd rfl hstate, nofun⟩
  · change ¬shareByte Dict.reset.slots[a].base Dict.reset.slots[a].size _ _
    rw [hslot]
    exact not_shareByte_zero _ _ _
  · change Dict.reset.slots[a].rank = Dict.reset.slots[b].rank at hab
    rw [hslot, hslot] at hab
    exact hab
  · cases hop

end Sys2Proof.Machine

section

open Sys2Proof Sys2Proof.Machine Sys2Proof.Rules

/-- Settles O57: every step, by what it does to the dictionary store and the Memory Port. -/
theorem slotsStayLegalAndApart : Obligations.SlotsStayLegalAndApart := by
  unfold Obligations.SlotsStayLegalAndApart
  intro s t hq hg h hstep
  unfold step at hstep
  split at hstep
  · cases hstep; exact h
  · next c rest _ =>
    have hwaiting : StoreKept s (s.withPending rest) := ⟨rfl, rfl⟩
    have hbounds : queuesInBounds (s.withPending rest) := { hq with }
    by_cases hc : c = .hardReset
    · subst hc; exact hardReset_slots hstep
    · exact storeStep_slots hbounds (kept_gates hg hwaiting) (kept_slots h hwaiting) (exec_storeStep hc hstep)

end
end

section
/-!
PROOF. The commands on slots, where the Command Port is ready: what they refuse and what they do (R21 to R24, R27,
R28, R31 to R34, R67, R86).
-/

namespace Sys2Proof.Machine

open Sys2Proof Sys2Proof.Rules

/-! ### Rows that refuse, and rows that claim a gate -/

theorem slotOf_of_lt {v : Byte} {n : SlotNo} (h : v.toNat = n.val) : slotOf v = some n := by
  unfold slotOf
  rw [dif_pos (h ▸ n.isLt)]
  exact congrArg some (Fin.ext h)

theorem slotOf_of_gt {v : Byte} (h : 3 < v.toNat) : slotOf v = none := dif_neg (by omega)

/-- A command row, where the Command Port is ready, whose command is refused. -/
theorem exec_refuses {i : Instr} {c : Command} {s : State} {code : Byte} {st : Status}
    (hrow : commandOf i = some c) (hcode : c.code = code) (h : Ready s)
    (hcmd : runCommand c (s.beginExecution code) = (s.beginExecution code).refuse st) :
    exec i s = .next (answered s st code []) := exec_answers hrow hcode h rfl rfl hcmd

theorem serveGate_of_held {s : State} {n : SlotNo} {c : Claim} (h : (s.gate n).holder = some c) :
    s.serveGate n = s := by rw [State.serveGate, h]

theorem serveGate_of_free {s : State} {n : SlotNo} (h : (s.gate n).holder = none) :
    s.serveGate n = takeClaims n (s.gate n).waiting s := by rw [State.serveGate, h]

theorem withGate_withGate (s : State) (n : SlotNo) (g g' : Gate) :
    (s.withGate n g).withGate n g' = s.withGate n g' := by simp [State.withGate, State.withMp]

/-- A claim at a held gate waits at the tail. -/
theorem claimGate_of_held {s : State} {n : SlotNo} {c held : Claim} (h : (s.gate n).holder = some held) :
    s.claimGate n c = s.withGate n ⟨some held, (s.gate n).waiting ++ [c]⟩ := by
  rw [State.claimGate, serveGate_of_held (c := held) (by rw [State.gate_withGate_self]; exact h), ← h]

/-- A claim at a free gate is taken at once. -/
theorem claimGate_of_free {s : State} {n : SlotNo} {c : Claim} (h : (s.gate n).holder = none)
    (hserved : gateServed s n) : s.claimGate n c = takeClaims n [c] (s.withGate n ⟨none, [c]⟩) := by
  rw [State.claimGate, serveGate_of_free (by rw [State.gate_withGate_self]; exact h), State.gate_withGate_self,
    hserved h, ← h]
  rfl

/-- An operation that does not end as soon as it is taken claims its gate: at once where the gate is free. -/
theorem beginUpkeep_eq_claimed {s : State} {n : SlotNo} {op : UpkeepOp} (hserved : gateServed s n)
    (hop : (s.gate n).holder = none → ∀ m, op ≠ .release m) : s.beginUpkeep n op = claimed s n op := by
  cases hholder : (s.gate n).holder with
  | some held =>
      refine (claimGate_of_held (s := s.withMp { s.mp with upkeep := some op }) hholder).trans ?_
      rw [claimed, hholder]
      rfl
  | none =>
      have htaken : takeClaims n [.upkeep]
          ((s.withMp { s.mp with upkeep := some op }).withGate n ⟨none, [.upkeep]⟩) =
          ((s.withMp { s.mp with upkeep := some op }).withGate n ⟨none, [.upkeep]⟩).withGate n
            ⟨some .upkeep, []⟩ := by
        unfold takeClaims
        split
        · next m hm => exact absurd (Option.some.inj hm) (hop hholder m)
        · rfl
      refine (claimGate_of_free (s := s.withMp { s.mp with upkeep := some op }) hholder hserved).trans ?_
      rw [htaken, withGate_withGate, claimed, hholder]
      rfl

/-- A command row, where the Command Port is ready, whose command begins an upkeep operation. -/
theorem exec_claims {i : Instr} {c : Command} {s u : State} {code : Byte} {n : SlotNo} {op : UpkeepOp}
    (hrow : commandOf i = some c) (hcode : c.code = code) (h : Ready s) (hserved : gateServed u n)
    (hop : (u.gate n).holder = none → ∀ m, op ≠ .release m)
    (hcmd : runCommand c (s.beginExecution code) = (u.beginExecution code).beginUpkeep n op) :
    exec i s = .next (executing (claimed u n op) code) := by
  subst hcode
  rw [exec_of_command hrow, hostCommand_of_ready h, hcmd]
  exact congrArg _ (beginUpkeep_eq_claimed (s := u.beginExecution c.code) hserved hop)

/-! ### SET_MEMORY and SET_WINDOW (R21, R22, R23) -/

theorem not_all_vacant_iff (s : State) :
    (!allFour.all fun n => (s.slot n).state == .vacant) = true ↔ ∃ n, (s.slot n).state ≠ .vacant := by
  rw [Bool.not_eq_true', ← Bool.not_eq_true, all_allFour, not_forall]
  simp

theorem windowSizes_iff (size : Nat) : size ∈ windowSizes ↔ ∃ e, 16 ≤ e ∧ e ≤ 24 ∧ size = 2 ^ e := by
  refine ⟨windowSizes_pow, ?_⟩
  rintro ⟨e, hlow, hhigh, rfl⟩
  interval_cases e <;> decide

/-- Windows of at least one byte overlap as the model tests it exactly where they share a byte. -/
theorem overlaps_iff {s : State} {n : SlotNo} {base size : Nat} (hpos : 0 < size)
    (hwindows : ∀ m, (s.slot m).state ≠ .vacant → 0 < (s.slot m).size) :
    s.overlaps n base size = true ↔ ∃ m, m ≠ n ∧ (s.slot m).state ≠ .vacant ∧
      shareByte base size (s.slot m).base (s.slot m).size := by
  simp only [State.overlaps, List.any_eq_true, Bool.and_eq_true, bne_iff_ne, decide_eq_true_eq, ne_eq]
  constructor
  · rintro ⟨m, -, ⟨⟨hm, hstate⟩, hlow⟩, hhigh⟩
    have hsize := hwindows m hstate
    exact ⟨m, hm, hstate, max base (s.slot m).base, by omega, by omega, by omega, by omega⟩
  · rintro ⟨m, hm, hstate, x, h1, h2, h3, h4⟩
    exact ⟨m, mem_allFour m, ⟨⟨hm, hstate⟩, by omega⟩, by omega⟩

theorem runCommand_setWindow {v : Byte} {n : SlotNo} (hv : v.toNat = n.val) (base size : BitVec 32)
    (s : State) : runCommand (.setWindow v base size) s =
      if (s.slot n).lock then s.refuse .locked
      else if s.dict.memMiB = 0 ∨ ((s.slot n).state ≠ .vacant ∧ (s.slot n).state ≠ .unformatted) then
        s.refuse .badState
      else if ¬windowSizes.contains size.toNat ∨ base.toNat % size.toNat ≠ 0 then s.refuse .badArg
      else if s.dict.memBytes < base.toNat + size.toNat then s.refuse .badArg
      else if s.overlaps n base.toNat size.toNat then s.refuse .overlap
      else (s.withSlot n ((s.slot n).unformatted base.toNat size.toNat)).done := by
  rw [runCommand, cmdSetWindow, slotOf_of_lt hv]

/-- A slot that is neither VACANT nor UNFORMATTED. -/
theorem laidOut_iff (d : Slot) : (d.state ≠ .vacant ∧ d.state ≠ .unformatted) ↔
    (d.state = .formatting ∨ d.state = .ready) := by
  cases d.state <;> simp

theorem exec_setWindow {s : State} {v : Byte} {n : SlotNo} {base size : BitVec 32} (h : Ready s)
    (hv : v.toNat = n.val) : exec (.setWindow v base size) s = .next
      (if (s.slot n).lock then answered s .locked 0x18 []
      else if s.dict.memMiB = 0 ∨ (s.slot n).state = .formatting ∨ (s.slot n).state = .ready then
        answered s .badState 0x18 []
      else if size.toNat ∉ windowSizes then answered s .badArg 0x18 []
      else if ¬size.toNat ∣ base.toNat then answered s .badArg 0x18 []
      else if s.dict.memMiB * 2 ^ 20 < base.toNat + size.toNat then answered s .badArg 0x18 []
      else if s.overlaps n base.toNat size.toNat then answered s .overlap 0x18 []
      else answered (s.withSlot n (laidBare (s.slot n) .unformatted base.toNat size.toNat))
        .done 0x18 []) := by
  have hcmd := runCommand_setWindow hv base size (s.beginExecution 0x18)
  split
  · next hlock => exact exec_refuses rfl rfl h (hcmd.trans (if_pos hlock))
  next hlock =>
  replace hcmd := hcmd.trans (if_neg hlock)
  split
  · next hstate =>
    exact exec_refuses rfl rfl h (hcmd.trans (if_pos (hstate.imp_right (laidOut_iff _).mpr)))
  next hstate =>
  replace hcmd := hcmd.trans (if_neg (mt (Or.imp_right (laidOut_iff _).mp) hstate))
  split
  · next hsize => exact exec_refuses rfl rfl h (hcmd.trans (if_pos (.inl (by simpa using hsize))))
  next hsize =>
  split
  · next haligned =>
    exact exec_refuses rfl rfl h (hcmd.trans (if_pos (.inr (mt Nat.dvd_of_mod_eq_zero haligned))))
  next haligned =>
  replace hcmd := hcmd.trans (if_neg (not_or.mpr ⟨by simpa using hsize,
    not_not.mpr (Nat.mod_eq_zero_of_dvd (not_not.mp haligned))⟩))
  split
  · next hmemory => exact exec_refuses rfl rfl h (hcmd.trans (if_pos hmemory))
  next hmemory =>
  replace hcmd := hcmd.trans (if_neg hmemory)
  split
  · next hoverlap => exact exec_refuses rfl rfl h (hcmd.trans (if_pos hoverlap))
  · next hoverlap => exact exec_answers rfl rfl h rfl rfl (hcmd.trans (if_neg hoverlap))

end Sys2Proof.Machine

section

open Sys2Proof Sys2Proof.Machine Sys2Proof.Rules

/-- Settles O14: each check of the two commands, in order. -/
theorem memorySizeAndWindowsAreChecked : Obligations.MemorySizeAndWindowsAreChecked := by
  unfold Obligations.MemorySizeAndWindowsAreChecked
  refine ⟨fun s v h => ?_, fun s v base size h hv => ?_, fun s v n base size h hv hwindows => ?_⟩
  · split
    · next hsize =>
      exact exec_refuses rfl rfl h (if_pos (by simpa [memorySizes] using hsize))
    next hsize =>
    have hsize' : ¬(!memorySizes.contains v.toNat) = true := by simpa [memorySizes] using hsize
    split
    · next hstate =>
      exact exec_refuses rfl rfl h ((if_neg hsize').trans (if_pos ((not_all_vacant_iff s).mpr hstate)))
    · next hstate =>
      exact exec_answers rfl rfl h rfl rfl ((if_neg hsize').trans (if_neg (mt (not_all_vacant_iff s).mp hstate)))
  · exact exec_refuses rfl rfl h (by rw [runCommand, cmdSetWindow, slotOf_of_gt hv])
  · rw [exec_setWindow h hv]
    by_cases hsize : ∃ e, 16 ≤ e ∧ e ≤ 24 ∧ size.toNat = 2 ^ e
    · obtain ⟨e, -, -, he⟩ := id hsize
      have hoverlaps := overlaps_iff (s := s) (n := n) (base := base.toNat) (he ▸ Nat.two_pow_pos e) hwindows
      simp only [hsize, (windowSizes_iff _).mpr hsize, not_true_eq_false, if_false]
      classical
      rw [if_congr hoverlaps rfl rfl]
    · simp only [hsize, mt (windowSizes_iff _).mp hsize, not_false_eq_true, if_true]

end
end

section
/-!
PROOF. RELEASE_SLOT, SET_RANKS, LOCK_SLOT and SLOT_INFO (R22, R27, R31, R32, R34, R66, R86).
-/

namespace Sys2Proof.Machine

open Sys2Proof Sys2Proof.Rules

/-! ### RELEASE_SLOT (R27, R66) -/

/-- An answer changes the Command Port alone, so a gate may be replaced before it. -/
theorem withGate_respond (s : State) (n : SlotNo) (g : Gate) (st : Status) (d : List Byte) :
    (s.respond st d).withGate n g = (s.withGate n g).respond st d := by
  unfold State.respond
  split
  · rw [if_pos (by assumption)]; rfl
  · rw [if_neg (by assumption)]; rfl

/-- A free gate that is written free again. -/
theorem gates_set_free {s : State} {n : SlotNo} (hfree : (s.gate n).holder = none) (hserved : gateServed s n) :
    s.mp.gates.set n ⟨none, []⟩ = s.mp.gates := by
  have hgate : (⟨none, []⟩ : Gate) = s.mp.gates[n] := by
    rw [← hfree, ← hserved hfree]
    rfl
  rw [hgate]
  exact Vector.set_getElem_self ..

/-- A RELEASE_SLOT whose gate is free ends in the step that takes it. -/
theorem beginUpkeep_release_of_free {s : State} {n : SlotNo} (hfree : (s.gate n).holder = none)
    (hserved : gateServed s n) : s.beginUpkeep n (.release n) =
      (upkeepOver (s.withSlot n (laidBare (s.slot n) .vacant 0 0))).done := by
  have hclaim := claimGate_of_free (s := s.withMp { s.mp with upkeep := some (.release n) }) (c := .upkeep)
    hfree hserved
  refine hclaim.trans ((withGate_respond _ n ⟨none, []⟩ .done []).trans ?_)
  have hgates : (s.mp.gates.set n ⟨none, [.upkeep]⟩).set n ⟨none, []⟩ = s.mp.gates := by
    rw [Vector.set_set, gates_set_free hfree hserved]
  exact congrArg (fun gates => ((s.withSlot n (laidBare (s.slot n) .vacant 0 0)).withMp
    { s.mp with upkeep := none, gates := gates }).done) hgates

theorem exec_releaseSlot {s : State} {v : Byte} {n : SlotNo} (h : Ready s) (hv : v.toNat = n.val)
    (hserved : gateServed s n) : exec (.releaseSlot v) s = .next
      (if (s.slot n).lock then answered s .locked 0x1A []
      else if (s.slot n).state = .formatting ∨ (s.slot n).access ≠ .shut then answered s .badState 0x1A []
      else if (s.gate n).holder = none then
        answered (upkeepOver (s.withSlot n (laidBare (s.slot n) .vacant 0 0))) .done 0x1A []
      else executing (claimed s n (.release n)) 0x1A) := by
  have hcmd : runCommand (.releaseSlot v) (s.beginExecution 0x1A) =
      if (s.slot n).lock then (s.beginExecution 0x1A).refuse .locked
      else if (s.slot n).state = .formatting ∨ (s.slot n).access ≠ .shut then
        (s.beginExecution 0x1A).refuse .badState
      else (s.beginExecution 0x1A).beginUpkeep n (.release n) := by
    rw [runCommand, cmdReleaseSlot, slotOf_of_lt hv]
    rfl
  split
  · next hlock => exact exec_refuses rfl rfl h (hcmd.trans (if_pos hlock))
  next hlock =>
  replace hcmd := hcmd.trans (if_neg hlock)
  split
  · next hstate => exact exec_refuses rfl rfl h (hcmd.trans (if_pos hstate))
  next hstate =>
  replace hcmd := hcmd.trans (if_neg hstate)
  split
  · next hfree =>
    exact exec_answers rfl rfl h rfl rfl
      (hcmd.trans (beginUpkeep_release_of_free (s := s.beginExecution 0x1A) hfree hserved))
  · next hheld => exact exec_claims rfl rfl h hserved (fun hfree => absurd hfree hheld) hcmd

/-! ### SET_RANKS (R31, R86) -/

/-- A change of the lookup view, in the words of the statements. -/
theorem signalRescan_noteViewChange (s : State) : s.signalRescan.noteViewChange = viewSignalled s := by
  unfold State.signalRescan
  split
  · next hempty =>
    rw [viewSignalled, hempty]
    simp [State.noteViewChange]
  · next hempty =>
    have hfalse : s.te.window.isEmpty = false := by simpa using hempty
    rw [viewSignalled, hfalse]
    simp [State.noteViewChange, State.setRescanPending]

theorem rankListOf_of_permutation {r : Fin 4 → Byte} {order : Fin 4 → SlotNo}
    (hr : ∀ i, (r i).toNat = (order i).val) (horder : Function.Injective order) :
    rankListOf (r 0) (r 1) (r 2) (r 3) = some (List.ofFn order) := by
  have hdiffer : (List.ofFn order).Nodup := List.nodup_ofFn.mpr horder
  simp only [rankListOf, slotOf_of_lt (hr 0), slotOf_of_lt (hr 1), slotOf_of_lt (hr 2), slotOf_of_lt (hr 3)]
  exact if_pos hdiffer

theorem eq_of_slotOf {v : Byte} {n : SlotNo} (h : slotOf v = some n) : v.toNat = n.val := by
  unfold slotOf at h
  split at h
  · exact congrArg Fin.val (Option.some.inj h)
  · cases h

/-- The numbers SET_RANKS takes name a permutation of the slots. -/
theorem permutation_of_rankListOf {r : Fin 4 → Byte} {l : List SlotNo}
    (h : rankListOf (r 0) (r 1) (r 2) (r 3) = some l) :
    ∃ order : Fin 4 → SlotNo, (∀ i, (r i).toNat = (order i).val) ∧ Function.Injective order := by
  unfold rankListOf at h
  split at h
  · next a b c d ha hb hc hd =>
    split at h
    · next hdiffer =>
      refine ⟨![a, b, c, d], fun i => ?_, List.nodup_ofFn.mp hdiffer⟩
      fin_cases i
      exacts [eq_of_slotOf ha, eq_of_slotOf hb, eq_of_slotOf hc, eq_of_slotOf hd]
    · cases h
  · cases h

/-- Numbers that SET_RANKS does not take: one out of range, or one twice. -/
theorem rankListOf_of_not_permutation {r : Fin 4 → Byte}
    (h : ¬(∀ i, (r i).toNat ≤ 3) ∨ ¬(∀ i j, (r i).toNat = (r j).toNat → i = j)) :
    rankListOf (r 0) (r 1) (r 2) (r 3) = none := by
  by_contra hsome
  obtain ⟨l, hl⟩ := Option.ne_none_iff_exists'.mp hsome
  obtain ⟨order, hr, horder⟩ := permutation_of_rankListOf hl
  rcases h with hrange | htwice
  · exact hrange fun i => by have := (order i).isLt; have := hr i; omega
  · exact htwice fun i j hij => horder (Fin.ext (by rw [← hr i, ← hr j, hij]))

theorem exec_setRanks {s : State} {r : Fin 4 → Byte} {order : Fin 4 → SlotNo} (h : Ready s)
    (hr : ∀ i, (r i).toNat = (order i).val) (horder : Function.Injective order) :
    exec (.setRanks (r 0) (r 1) (r 2) (r 3)) s =
      .next (answered (viewSignalled (s.withDict (s.dict.withRanks (List.ofFn order)))) .done 0x1C []) := by
  refine exec_answers rfl rfl h rfl rfl ?_
  rw [runCommand, cmdSetRanks, rankListOf_of_permutation hr horder]
  exact congrArg State.done (signalRescan_noteViewChange _)

/-- The slot a permutation names at place `i` has rank `i`. -/
theorem withRanks_slot (s : State) {order : Fin 4 → SlotNo} (horder : Function.Injective order) (i : Fin 4) :
    (s.dict.withRanks (List.ofFn order)).slots[order i] = { s.slot (order i) with rank := i } := by
  have hindex : (List.ofFn order).idxOf (order i) = i.val := by
    have hget := (List.nodup_ofFn.mpr horder).idxOf_getElem i.val (by simp)
    rwa [List.getElem_ofFn] at hget
  have hrank : Fin.ofNat 4 ((List.ofFn order).idxOf (order i)) = i := by
    rw [hindex]
    exact Fin.ofNat_val_eq_self i
  refine (Vector.getElem_ofFn ..).trans ?_
  exact congrArg (fun r => { s.slot (order i) with rank := r }) hrank

/-! ### LOCK_SLOT and SLOT_INFO (R32, R34, R185) -/

/-- The summary byte of SLOT_INFO: state, access, lock and rank side by side. -/
theorem summary_eq (st : SlotState) (a : Access) (l : Bool) (r : Fin 4) :
    st.code ||| (a.code <<< 2) ||| (byteOfBool l <<< 4) ||| (byteOf r.val <<< 5) = BitVec.ofNat 8
      ((match st with
        | .vacant => 0
        | .unformatted => 1
        | .formatting => 2
        | .ready => 3) +
      (match a with
        | .shut => 0
        | .lookup => 4
        | .maintain => 8
        | .full => 12) + (if l then 16 else 0) + 32 * r.val) := by
  cases st <;> cases a <;> cases l <;> revert r <;> decide

theorem linkBytes_eq (l : Link) : linkBytes l = bytesOf24 (BitVec.ofNat 24 (l.getD 0xFFFFFF)) := by
  cases l <;> rfl

theorem slotInfo_eq (d : Slot) : d.info = ([BitVec.ofNat 8
      ((match d.state with
        | .vacant => 0
        | .unformatted => 1
        | .formatting => 2
        | .ready => 3) +
      (match d.access with
        | .shut => 0
        | .lookup => 4
        | .maintain => 8
        | .full => 12) +
      (if d.lock then 16 else 0) + 32 * d.rank.val)] : List Byte) ++
    bytesOf32 (BitVec.ofNat 32 d.base) ++
    [BitVec.ofNat 8 (if d.size = 0 then 0 else Nat.log2 d.size)] ++
    ([d.buckets, d.entryCount, d.freeCount, d.freeHead.getD 0xFFFFFF].flatMap fun v =>
      bytesOf24 (BitVec.ofNat 24 v)) := by
  rw [Slot.info, summary_eq, linkBytes_eq]
  simp only [List.flatMap_cons, List.flatMap_nil, List.append_nil, List.append_assoc]
  rfl

theorem exec_lockSlot {s : State} {v : Byte} {n : SlotNo} (h : Ready s) (hv : v.toNat = n.val) :
    exec (.lockSlot v) s = .next
      (if (s.slot n).state ≠ .ready then answered s .badState 0x1D []
      else answered (s.withSlot n { s.slot n with lock := true }) .done 0x1D []) := by
  have hcmd : runCommand (.lockSlot v) (s.beginExecution 0x1D) =
      if (s.slot n).state ≠ .ready then (s.beginExecution 0x1D).refuse .badState
      else ((s.beginExecution 0x1D).withSlot n { s.slot n with lock := true }).done := by
    rw [runCommand, cmdLockSlot, slotOf_of_lt hv]
    rfl
  split
  · next hstate => exact exec_refuses rfl rfl h (hcmd.trans (if_pos hstate))
  · next hstate => exact exec_answers rfl rfl h rfl rfl (hcmd.trans (if_neg hstate))

theorem exec_slotInfo {s : State} {v : Byte} {n : SlotNo} (h : Ready s) (hv : v.toNat = n.val) :
    exec (.slotInfo v) s = .next (answered s .done 0x1E (s.slot n).info) :=
  exec_answers rfl rfl h rfl rfl (by rw [runCommand, cmdSlotInfo, slotOf_of_lt hv]; rfl)

end Sys2Proof.Machine

section

open Sys2Proof Sys2Proof.Machine Sys2Proof.Rules

/-- Settles O15: each command by its checks and its effect. -/
theorem slotIsReleasedRankedLockedAndRead : Obligations.SlotIsReleasedRankedLockedAndRead := by
  unfold Obligations.SlotIsReleasedRankedLockedAndRead
  refine ⟨⟨fun s v h hv => ?_, fun s v n h hv hserved => exec_releaseSlot h hv hserved⟩,
    ⟨fun s r h hbad => ?_, fun s r order h hr horder => ⟨_, withRanks_slot s horder, exec_setRanks h hr horder⟩⟩,
    fun s v h => ⟨fun hv => ⟨?_, ?_⟩, fun n hv => ⟨exec_lockSlot h hv, fun data hdata => ?_⟩⟩⟩
  · exact exec_refuses rfl rfl h (by rw [runCommand, cmdReleaseSlot, slotOf_of_gt hv])
  · exact exec_refuses rfl rfl h (by rw [runCommand, cmdSetRanks, rankListOf_of_not_permutation hbad])
  · exact exec_refuses rfl rfl h (by rw [runCommand, cmdLockSlot, slotOf_of_gt hv])
  · exact exec_refuses rfl rfl h (by rw [runCommand, cmdSlotInfo, slotOf_of_gt hv])
  · rw [hdata, exec_slotInfo h hv]
    exact congrArg (fun data => Host.Outcome.next (answered s .done 0x1E data)) (slotInfo_eq _)

end
end

section
/-!
PROOF. The entry commands up to the claim of the gate (R29, R30, R49 to R51, R57, R58, R66).
-/

namespace Sys2Proof.Machine

open Sys2Proof Sys2Proof.Rules

/-! ### The checks of the arguments, in the words of the statements -/

theorem outlineOk_iff (outline : List Stroke) : outlineOk outline = true ↔ legalOutline outline := by
  simp only [outlineOk, isStroke, Bool.and_eq_true, decide_eq_true_eq, List.all_eq_true, and_assoc]
  rfl

/-- The flags have no bit above bit 3 exactly where they are below 16. -/
theorem noOtherFlag_iff : ∀ flags : Byte, flags &&& ~~~entryFlagMask = 0 ↔ flags.toNat < 16 := by decide

theorem writeArgs_iff (outline : List Stroke) (flags : Byte) (text : List Byte) :
    (outlineOk outline && writeArgsOk flags text) = true ↔ legalWrite outline flags text := by
  rw [Bool.and_eq_true, outlineOk_iff, writeArgsOk, Bool.and_eq_true, beq_iff_eq, decide_eq_true_eq,
    noOtherFlag_iff, legalWrite, and_comm (a := text.length ≤ 160)]

theorem isTextItem_iff (b : Byte) : isTextItem b = true ↔ textItem b := by
  simp only [isTextItem, isPrintable, textItem, Bool.or_eq_true, Bool.and_eq_true, decide_eq_true_eq, beq_iff_eq,
    ← BitVec.toNat_inj, or_assoc]
  rfl

theorem textItems_iff (text : List Byte) : text.all isTextItem = true ↔ ∀ b ∈ text, textItem b := by
  simp only [List.all_eq_true, isTextItem_iff]

/-! ### The entry writes (R29, R30, R49 to R51) -/

/-- The protection verdict: a locked slot refuses LOCKED, one that no write is let into PROTECTED (R29, R30). -/
theorem writeVerdict_eq (d : Slot) : writeVerdict d =
    if d.lock then some .locked
    else if d.access = .shut ∨ d.access = .lookup then some .protectedSlot
    else none := by
  unfold writeVerdict
  cases d.access <;> rfl

/-- A command row whose command sets notices and is refused. -/
theorem exec_notices_refuses {i : Instr} {c : Command} {s : State} {code mask : Byte} {st : Status}
    (hrow : commandOf i = some c) (hcode : c.code = code) (h : Ready s)
    (hcmd : runCommand c (s.beginExecution code) = ((s.beginExecution code).setNotices mask).refuse st) :
    exec i s = .next (answered (noticed s mask) st code []) := exec_answers hrow hcode h rfl rfl hcmd

open Classical in
/-- A row whose command is an entry write. -/
theorem exec_entryWrite {i : Instr} {c : Command} {s : State} {v code flags : Byte} {kind : EntryKind}
    {n : SlotNo} {outline : List Stroke} {text : List Byte} (hrow : commandOf i = some c) (hcode : c.code = code)
    (hrun : ∀ u, runCommand c u = cmdEntryWrite kind v outline flags text u) (h : Ready s) (hv : v.toNat = n.val)
    (hserved : gateServed s n) : exec i s = .next
      (if (s.slot n).lock then answered (noticed s 0x04) .locked code []
      else if (s.slot n).access = .shut ∨ (s.slot n).access = .lookup then
        answered (noticed s 0x04) .protectedSlot code []
      else if ¬legalWrite outline flags text then answered s .badArg code []
      else if ¬∀ b ∈ text, textItem b then answered s .badText code []
      else executing
        (claimed s n (.entry (EntryOp.start kind n (s.slot n) outline flags text false []))) code) := by
  have hcmd : runCommand c (s.beginExecution code) =
      match writeVerdict (s.slot n) with
      | some st => ((s.beginExecution code).setNotices protect).refuse st
      | none =>
          if !(outlineOk outline && writeArgsOk flags text) then (s.beginExecution code).refuse .badArg
          else if !text.all isTextItem then (s.beginExecution code).refuse .badText
          else (s.beginExecution code).beginEntryOp kind n outline flags text false [] := by
    rw [hrun, cmdEntryWrite, slotOf_of_lt hv]
    rfl
  rw [writeVerdict_eq] at hcmd
  split
  · next hlock => exact exec_notices_refuses hrow hcode h (hcmd.trans (by rw [if_pos hlock]; rfl))
  next hlock =>
  rw [if_neg hlock] at hcmd
  split
  · next haccess => exact exec_notices_refuses hrow hcode h (hcmd.trans (by rw [if_pos haccess]; rfl))
  next haccess =>
  rw [if_neg haccess] at hcmd
  split
  · next hargs =>
    rw [← writeArgs_iff] at hargs
    exact exec_refuses hrow hcode h (hcmd.trans (if_pos (by rwa [Bool.not_eq_true', ← Bool.not_eq_true])))
  next hargs =>
  rw [not_not, ← writeArgs_iff] at hargs
  replace hcmd := hcmd.trans (if_neg (by rw [hargs]; nofun))
  split
  · next htext =>
    rw [← textItems_iff] at htext
    exact exec_refuses hrow hcode h (hcmd.trans (if_pos (by simpa using htext)))
  · next htext =>
    rw [not_not, ← textItems_iff] at htext
    exact exec_claims hrow hcode h hserved (fun _ _ => nofun) (hcmd.trans (if_neg (by rw [htext]; nofun)))

/-! ### FETCH_ENTRY (R57, R58) -/

open Classical in
theorem exec_fetchNamed {s : State} {v : Byte} {n : SlotNo} {outline : List Stroke} (h : Ready s)
    (hv : v.toNat = n.val) (hserved : gateServed s n) : exec (.fetchEntry v outline) s = .next
      (if (s.slot n).access = .shut then answered s .protectedSlot 0x22 []
      else if ¬legalOutline outline then answered s .badArg 0x22 []
      else executing
        (claimed s n (.entry (EntryOp.start .fetch n (s.slot n) outline 0 [] false []))) 0x22) := by
  have hany : v ≠ anySlot := by rintro rfl; have := n.isLt; have : (255 : Nat) = n.val := hv; omega
  have hcmd : runCommand (.fetchEntry v outline) (s.beginExecution 0x22) =
      if (s.slot n).access = .shut then (s.beginExecution 0x22).refuse .protectedSlot
      else if !outlineOk outline then (s.beginExecution 0x22).refuse .badArg
      else (s.beginExecution 0x22).beginEntryOp .fetch n outline 0 [] false [] := by
    rw [runCommand, cmdFetchEntry, if_neg hany, cmdFetchNamed, slotOf_of_lt hv]
    rfl
  rw [← outlineOk_iff]
  split
  · next hshut => exact exec_refuses rfl rfl h (hcmd.trans (if_pos hshut))
  next hshut =>
  replace hcmd := hcmd.trans (if_neg hshut)
  split
  · next houtline => exact exec_refuses rfl rfl h (hcmd.trans (if_pos (by simpa using houtline)))
  · next houtline =>
    exact exec_claims rfl rfl h hserved (fun _ _ => nofun) (hcmd.trans (if_neg (by simpa using houtline)))

theorem mem_rankOrder (d : Dict) (n : SlotNo) : n ∈ d.rankOrder := by
  simp only [Dict.rankOrder, List.mem_flatMap, List.mem_filter, beq_iff_eq]
  exact ⟨d.slots[n].rank, mem_allFour _, mem_allFour n, rfl⟩

/-- The slots in rank order, their ranks rising. -/
theorem rankOrder_pairwise {s : State} (h : ranksDiffer s) :
    s.dict.rankOrder.Pairwise fun a b => (s.slot a).rank.val < (s.slot b).rank.val := by
  have hdiffer : allFour.Nodup := by decide
  have hrising : allFour.Pairwise fun a b => a.val < b.val := by decide
  refine List.pairwise_flatMap.mpr ⟨fun r _ => ?_, hrising.imp fun {r r'} hlt a ha b hb => ?_⟩
  · refine (hdiffer.filter _).imp_of_mem fun {a b} ha hb hab => ?_
    have hra : (s.slot a).rank = r := beq_iff_eq.mp (List.mem_filter.mp ha).2
    have hrb : (s.slot b).rank = r := beq_iff_eq.mp (List.mem_filter.mp hb).2
    exact absurd (h a b (hra.trans hrb.symm)) hab
  · have hra : (s.slot a).rank = r := beq_iff_eq.mp (List.mem_filter.mp ha).2
    have hrb : (s.slot b).rank = r' := beq_iff_eq.mp (List.mem_filter.mp hb).2
    rwa [hra, hrb]

theorem consultedSlots_inRankOrder {s : State} (h : ranksDiffer s) :
    consultedInRankOrder s s.dict.consultedSlots := by
  refine ⟨fun n => ?_, (rankOrder_pairwise h).filter _⟩
  simp only [Dict.consultedSlots, List.mem_filter, mem_rankOrder, true_and, Slot.consulted_iff]
  rfl

/-- There is one list of the consulted slots in rank order. -/
theorem eq_consultedSlots {s : State} {order : List SlotNo} (h : ranksDiffer s)
    (horder : consultedInRankOrder s order) : s.dict.consultedSlots = order := by
  obtain ⟨hmem, hrising⟩ := consultedSlots_inRankOrder h
  have hperm : s.dict.consultedSlots.Perm order :=
    (List.perm_ext_iff_of_nodup (hrising.imp fun hlt => by rintro rfl; exact lt_irrefl _ hlt)
      (horder.2.imp fun hlt => by rintro rfl; exact lt_irrefl _ hlt)).mpr
      fun n => (hmem n).trans (horder.1 n).symm
  exact hperm.eq_of_pairwise (fun _ _ _ _ hlt hgt => absurd hlt (lt_asymm hgt)) hrising horder.2

open Classical in
theorem exec_fetchAny {s : State} {outline : List Stroke} (h : Ready s) (hranks : ranksDiffer s)
    (hserved : ∀ n, gateServed s n) : ∀ order, consultedInRankOrder s order →
    exec (.fetchEntryAny outline) s = .next
      (if ¬legalOutline outline then answered s .badArg 0x22 []
      else
        match order with
        | [] => answered s .notFound 0x22 []
        | n :: rest => executing
            (claimed s n (.entry (EntryOp.start .fetch n (s.slot n) outline 0 [] true rest))) 0x22) := by
  intro order horder
  have hcmd : runCommand (.fetchEntry anySlot outline) (s.beginExecution 0x22) =
      if !outlineOk outline then (s.beginExecution 0x22).refuse .badArg
      else
        match s.dict.consultedSlots with
        | [] => (s.beginExecution 0x22).refuse .notFound
        | n :: rest => (s.beginExecution 0x22).beginEntryOp .fetch n outline 0 [] true rest := rfl
  rw [eq_consultedSlots hranks horder] at hcmd
  rw [← outlineOk_iff]
  split
  · next houtline => exact exec_refuses rfl rfl h (hcmd.trans (if_pos (by simpa using houtline)))
  next houtline =>
  replace hcmd := hcmd.trans (if_neg (by simpa using houtline))
  cases order with
  | nil => exact exec_refuses rfl rfl h hcmd
  | cons n rest => exact exec_claims rfl rfl h (hserved n) (fun _ _ => nofun) hcmd

end Sys2Proof.Machine

section

open Sys2Proof Sys2Proof.Machine Sys2Proof.Rules

/-- Settles O19: the three rows run one command. -/
theorem entryWritesAreCheckedThenClaimTheGate : Obligations.EntryWritesAreCheckedThenClaimTheGate := by
  unfold Obligations.EntryWritesAreCheckedThenClaimTheGate
  intro s v flags outline text row kind code fl tx h hrow
  obtain ⟨c, hc, hcode, hrun⟩ : ∃ c, commandOf row = some c ∧ c.code = code ∧
      ∀ u, runCommand c u = cmdEntryWrite kind v outline fl tx u := by
    simp only [List.mem_cons, List.not_mem_nil, or_false, Prod.mk.injEq] at hrow
    rcases hrow with ⟨rfl, rfl, rfl, rfl, rfl⟩ | ⟨rfl, rfl, rfl, rfl, rfl⟩ | ⟨rfl, rfl, rfl, rfl, rfl⟩ <;>
      exact ⟨_, rfl, rfl, fun _ => rfl⟩
  refine ⟨fun hv => ?_, fun n hv hserved => exec_entryWrite hc hcode hrun h hv hserved⟩
  exact exec_refuses hc hcode h (by rw [hrun, cmdEntryWrite, slotOf_of_gt hv])

/-- Settles O20: a slot named, and ANY. -/
theorem fetchIsCheckedThenClaimsTheGate : Obligations.FetchIsCheckedThenClaimsTheGate := by
  unfold Obligations.FetchIsCheckedThenClaimsTheGate
  refine ⟨fun s v outline h hany => ⟨fun hv => ?_, fun n hv hserved => exec_fetchNamed h hv hserved⟩,
    fun s outline order h hranks horder hserved => exec_fetchAny h hranks hserved order horder⟩
  refine exec_refuses rfl rfl h ?_
  exact (if_neg hany).trans (by rw [cmdFetchNamed, slotOf_of_gt hv])

end
end

section
/-!
PROOF. FORMAT: its checks, its accesses and its completion (R22, R24, R25, R61, R65, R66, R183).
-/

namespace Sys2Proof.Machine

open Sys2Proof Sys2Proof.Rules

/-! ### FORMAT begins (R22, R24) -/

theorem not_formattable_iff (d : Slot) : (!d.formattable) = true ↔
    (d.state = .vacant ∨ d.state = .formatting ∨ (d.state = .ready ∧ d.access ≠ .shut)) := by
  unfold Slot.formattable
  cases d.state <;> cases d.access <;> decide

theorem bucketCounts_iff (b : Nat) : b ∈ bucketCounts ↔ ∃ e, 10 ≤ e ∧ e ≤ 18 ∧ b = 2 ^ e := by
  refine ⟨bucketCounts_pow, ?_⟩
  rintro ⟨e, hlow, hhigh, rfl⟩
  interval_cases e <;> decide

open Classical in
theorem exec_format {s : State} {v : Byte} {n : SlotNo} {buckets : BitVec 32} (h : Ready s)
    (hv : v.toNat = n.val) (hserved : gateServed s n) : exec (.format v buckets) s = .next
      (if (s.slot n).lock then answered s .locked 0x19 []
      else if (s.slot n).state = .vacant ∨ (s.slot n).state = .formatting ∨
          ((s.slot n).state = .ready ∧ (s.slot n).access ≠ .shut) then answered s .badState 0x19 []
      else if ¬∃ e, 10 ≤ e ∧ e ≤ 18 ∧ buckets.toNat = 2 ^ e then answered s .badArg 0x19 []
      else if (s.slot n).size < 4 * (4 * buckets.toNat) then answered s .badArg 0x19 []
      else executing
        (claimed (s.withSlot n ((s.slot n).formatting buckets.toNat)) n (.format n 0)) 0x19) := by
  have hcmd : runCommand (.format v buckets) (s.beginExecution 0x19) =
      if (s.slot n).lock then (s.beginExecution 0x19).refuse .locked
      else if !(s.slot n).formattable then (s.beginExecution 0x19).refuse .badState
      else if ¬bucketCounts.contains buckets.toNat ∨ (s.slot n).size / 4 < 4 * buckets.toNat then
        (s.beginExecution 0x19).refuse .badArg
      else ((s.withSlot n ((s.slot n).formatting buckets.toNat)).beginExecution 0x19).beginUpkeep n
        (.format n 0) := by
    rw [runCommand, cmdFormat, slotOf_of_lt hv]
    rfl
  split
  · next hlock => exact exec_refuses rfl rfl h (hcmd.trans (if_pos hlock))
  next hlock =>
  replace hcmd := hcmd.trans (if_neg hlock)
  split
  · next hstate => exact exec_refuses rfl rfl h (hcmd.trans (if_pos ((not_formattable_iff _).mpr hstate)))
  next hstate =>
  replace hcmd := hcmd.trans (if_neg (mt (not_formattable_iff _).mp hstate))
  split
  · next hcount =>
    rw [← bucketCounts_iff] at hcount
    exact exec_refuses rfl rfl h (hcmd.trans (if_pos (.inl (mt List.contains_iff_mem.mp hcount))))
  next hcount =>
  rw [not_not, ← bucketCounts_iff] at hcount
  split
  · next hsize => exact exec_refuses rfl rfl h (hcmd.trans (if_pos (.inr (by omega))))
  · next hsize =>
    exact exec_claims rfl rfl h hserved (fun _ _ => nofun) (hcmd.trans (if_neg (not_or.mpr
      ⟨not_not.mpr (List.contains_iff_mem.mpr hcount), by omega⟩)))

/-! ### The gate given up (R65, R66) -/

/-- A RELEASE_SLOT that nothing waits behind ends as it is taken, and leaves the gate free. -/
theorem takeClaims_finishRelease {s : State} {n : SlotNo} (g : Gate) (hrestarts : s.cp.restarts = 0) :
    takeClaims n [] ((s.withGate n g).finishRelease n) =
      commandOver (upkeepOver ((s.withSlot n (laidBare (s.slot n) .vacant 0 0)).withGate n ⟨none, []⟩)) .done [] := by
  have hfinish : (s.withGate n g).finishRelease n =
      commandOver (upkeepOver ((s.withSlot n (laidBare (s.slot n) .vacant 0 0)).withGate n g)) .done [] :=
    if_pos hrestarts
  have hgate : (s.mp.gates.set n g).set n ⟨none, []⟩ = s.mp.gates.set n ⟨none, []⟩ := by rw [Vector.set_set]
  rw [hfinish]
  exact congrArg (fun gates => commandOver ((s.withSlot n (laidBare (s.slot n) .vacant 0 0)).withMp
    { s.mp with upkeep := none, gates := gates }) .done []) hgate

/-- The gate's holder ends, in the words of the statements: the oldest claim is taken. -/
theorem releaseGate_eq_released {s : State} {n : SlotNo} (hrelease : ∀ m rest, s.mp.upkeep = some (.release m) →
    (s.gate n).waiting = .upkeep :: rest → rest = [] ∧ s.cp.restarts = 0) : s.releaseGate n = released s n := by
  have hserve : s.releaseGate n =
      takeClaims n (s.gate n).waiting (s.withGate n { s.gate n with holder := none }) := by
    rw [State.releaseGate, serveGate_of_free (by rw [State.gate_withGate_self]), State.gate_withGate_self]
  rw [hserve]
  unfold released
  cases hwaiting : (s.gate n).waiting with
  | nil => exact withGate_withGate s n _ _
  | cons c rest =>
      cases c with
      | probe tag => exact congrArg (State.takeProbe · n tag) (withGate_withGate s n _ ⟨some (.probe tag), rest⟩)
      | upkeep =>
          dsimp only
          rw [takeClaims]
          split
          · next m hop =>
            obtain ⟨rfl, hrestarts⟩ := hrelease m rest hop hwaiting
            exact (takeClaims_finishRelease _ hrestarts).trans (by rw [show s.mp.upkeep = _ from hop])
          · next hop =>
            refine (withGate_withGate s n _ _).trans ?_
            split
            · next m hrel => exact absurd hrel (hop m)
            · rfl

theorem exec_formatComplete {s : State} {n : SlotNo}
    (hop : s.mp.upkeep = some (.format n ((s.slot n).size / 32))) (hholder : (s.gate n).holder = some .upkeep)
    (hrestarts : s.cp.restarts = 0) :
    exec .formatComplete s =
      .next (released (upkeepOver (commandOver (s.withSlot n (s.slot n).formatted) .done [])) n) := by
  have hdone : (s.withSlot n (s.slot n).formatted).done =
      commandOver (s.withSlot n (s.slot n).formatted) .done [] := if_pos hrestarts
  have hexec : exec .formatComplete s =
      .next (((s.withSlot n (s.slot n).formatted).done.clearUpkeep).releaseGate n) := by
    refine congrArg Host.Outcome.next ?_
    rw [hop]
    exact if_pos ⟨rfl, hholder⟩
  rw [hexec, hdone]
  exact congrArg _ (releaseGate_eq_released nofun)

/-! ### The arbiter's grant to the upkeep engine (R61, R62, R69) -/

theorem inWindow_iff (s : State) (base size c : Nat) :
    s.inWindow base size c = true ↔ cellExists s base size c := by
  rw [State.inWindow, Bool.and_eq_true, decide_eq_true_eq, decide_eq_true_eq]
  rfl

theorem upkeepAccess_of_waits {s : State} {op : UpkeepOp} {c : Nat} (h : upkeepWaits s op c) :
    s.upkeepAccess = some (op, c) := by
  obtain ⟨hop, hholder, haccess, hcell⟩ := h
  rw [State.upkeepAccess, hop]
  simp [hholder, haccess, (inWindow_iff ..).mpr hcell]

/-- The cell a FORMAT writes lies in its slot's window. -/
theorem cell_lt_of_waits {s : State} {n : SlotNo} {i c : Nat} (h : upkeepWaits s (.format n i) c) :
    c < (s.slot n).cells := h.2.2.2.1

theorem lookupWaits_of_probeAccess {s : State} {m : SlotNo} {c : Nat} (h : s.probeAccess m = some c) :
    lookupWaits s m c := by
  unfold State.probeAccess at h
  obtain ⟨w, hw, haccess⟩ := Option.bind_eq_some_iff.mp h
  obtain ⟨p, hp, hwalk⟩ := Option.bind_eq_some_iff.mp hw
  obtain ⟨haccess, hcell⟩ := Option.filter_eq_some_iff.mp haccess
  unfold State.holderProbe at hp
  split at hp
  · next tag hholder => exact ⟨tag, p, w, hholder, hp, hwalk, haccess, (inWindow_iff ..).mp hcell⟩
  · cases hp

/-- What the walker presents waits at its slot. -/
theorem lookupWaits_of_presented {s : State} {n m : SlotNo} {c : Nat} (h : s.presented n = some (m, c)) :
    lookupWaits s m c := by
  obtain ⟨k, -, hk⟩ := List.exists_of_findSome?_eq_some h
  obtain ⟨d, hd, heq⟩ := Option.map_eq_some_iff.mp hk
  cases heq
  exact lookupWaits_of_probeAccess hd

theorem exec_arbiterGrant_of_upkeep {s : State} {op : UpkeepOp} {c : Nat} (h : upkeepGranted s op c)
    (n : SlotNo) : exec (.arbiterGrant n) s = .next (s.grantUpkeep op c) := by
  obtain ⟨hwaits, hturn⟩ := h
  have haccess := upkeepAccess_of_waits hwaits
  refine congrArg Host.Outcome.next ?_
  rw [haccess]
  cases hpresented : s.presented n with
  | none => rfl
  | some lookup =>
      have hrun : ¬s.mp.lookupRun < s.mp.share :=
        not_lt.mpr (hturn.resolve_left fun hnone => hnone _ _ (lookupWaits_of_presented hpresented))
      exact if_neg hrun

/-! ### One cell laid out (R25, R183) -/

theorem writeCell_storedIn {m : List Host.Cell} (base c i : Nat) (bytes : List Byte) (h : Memory.wf m = true) :
    storedIn m (writeCell m base c i bytes) (base + 32 * c + i) bytes :=
  ⟨fun j hj => readByte_writeBytes_inside bytes m _ j hj h,
    fun b hb => readByte_writeBytes_outside bytes m _ b hb⟩

theorem perform_format (d : Slot) (m : List Host.Cell) (c : Nat) (n : SlotNo) (i : Nat) :
    (UpkeepOp.perform d m c (.format n i)).2 = writeCell m d.base c (formatBytes d c).1 (formatBytes d c).2 := rfl

/-- The bytes of cell `c` as FORMAT writes them are stored in its window. -/
theorem perform_format_storedIn {d : Slot} {m : List Host.Cell} {n : SlotNo} {c : Nat} (hc : c < d.cells)
    (h : Memory.wf m = true) :
    (c < d.buckets / 8 → storedIn m (UpkeepOp.perform d m c (.format n c)).2 (d.base + 32 * c)
        (List.replicate 8 [0x00, 0xFF, 0xFF, 0xFF]).flatten) ∧
    (d.buckets / 8 ≤ c → storedIn m (UpkeepOp.perform d m c (.format n c)).2 (d.base + 32 * c + 3)
        (linkAsBytes (if c + 1 = d.size / 32 then none else some (c + 1)))) := by
  have hlink : linkBytes (if c + 1 < d.cells then some (c + 1) else none) =
      linkAsBytes (if c + 1 = d.size / 32 then none else some (c + 1)) := by
    have hcells : c + 1 < d.cells ↔ ¬c + 1 = d.size / 32 := by
      have : d.cells = d.size / 32 := rfl
      omega
    rw [linkBytes_eq, linkAsBytes, if_congr hcells rfl rfl, ite_not]
  have hempty : bucketHeadBytes none = [0x00, 0xFF, 0xFF, 0xFF] := by decide
  rw [perform_format]
  constructor <;> intro hdirectory
  · have hbytes : formatBytes d c = (0, (List.replicate 8 [0x00, 0xFF, 0xFF, 0xFF]).flatten) := by
      rw [formatBytes, if_pos hdirectory, hempty]
    rw [hbytes]
    exact writeCell_storedIn d.base c 0 _ h
  · have hbytes : formatBytes d c =
        (3, linkAsBytes (if c + 1 = d.size / 32 then none else some (c + 1))) := by
      rw [formatBytes, if_neg (not_lt.mpr hdirectory), hlink]
    rw [hbytes]
    exact writeCell_storedIn d.base c 3 _ h

end Sys2Proof.Machine

section

open Sys2Proof Sys2Proof.Machine Sys2Proof.Rules

/-- Settles O25: its checks, its accesses and its completion. -/
theorem formatLaysOutTheWindow : Obligations.FormatLaysOutTheWindow := by
  unfold Obligations.FormatLaysOutTheWindow
  refine ⟨⟨fun s v buckets h hv => ?_, fun s v n buckets h hv hserved => exec_format h hv hserved,
    fun s n hop hholder _ hrestarts => exec_formatComplete hop hholder hrestarts⟩,
    fun s n slot c hwf hgranted => ⟨_, exec_arbiterGrant_of_upkeep hgranted slot, ?_⟩⟩
  · exact exec_refuses rfl rfl h (by rw [runCommand, cmdFormat, slotOf_of_gt hv])
  · exact perform_format_storedIn (cell_lt_of_waits hgranted.1) hwf

end
end

section
/-!
PROOF. SET_ACCESS: its checks, the change of the lookup view, and the waiting probes answered MISS (R22, R28, R67,
R86).
-/

namespace Sys2Proof.Machine

open Sys2Proof Sys2Proof.Rules

/-! ### What a decision of the TE leaves of the probes, of rescan-pending and of the table (R84, R85, R90, R126) -/

/-- From `s` to `t` the TE may have decided: probes are withdrawn at most, rescan-pending stays set, and a new probe
table has no result yet. -/
structure MayDecide (s t : State) : Prop where
  mp : t.mp = s.mp ∨ ∃ tags, t.mp = s.mp.withdraw tags
  rescan : s.te.rescanPending = true → t.te.rescanPending = true
  table : t.te.table = s.te.table ∨
    ∀ table, t.te.table = some table → ∀ pair ∈ table.pairs, pair.result = .unissued

theorem settleRecords_rescanPending (s : State) (gone : List Record) :
    (s.settleRecords gone).te.rescanPending = s.te.rescanPending := by
  unfold State.settleRecords
  dsimp only
  split <;> rfl

theorem changeWindow_rescanPending (s : State) (w : List Record) :
    (s.changeWindow w).te.rescanPending = s.te.rescanPending :=
  (congrArg Te.rescanPending (State.sendUpdates_frame _ _).2.2.2.2.2.1).trans (settleRecords_rescanPending _ _)

theorem testView_rescanPending (s : State) (t : ProbeTable) (h : s.te.rescanPending = true) :
    (s.testView t).te.rescanPending = true := by
  unfold State.testView
  split
  · rfl
  · exact h

theorem mem_pairsFor {window : List Record} {v : Stroke} {slots : List SlotNo} {p : Pair}
    (h : p ∈ pairsFor window v slots) : p.result = .unissued := by
  obtain ⟨j, -, hj⟩ := List.mem_flatMap.mp h
  obtain ⟨n, -, rfl⟩ := List.mem_map.mp hj
  rfl

/-- A replay leaves rescan-pending alone, and ends with no table or with one just recorded. -/
theorem replayFrom_te : ∀ (strokes : List Stroke) (window : List Record) (s : State),
    (replayFrom strokes window s).te.rescanPending = s.te.rescanPending ∧
      ∀ table, (replayFrom strokes window s).te.table = some table → ∀ pair ∈ table.pairs, pair.result = .unissued
  | [], window, s => ⟨changeWindow_rescanPending s window, nofun⟩
  | v :: rest, window, s => by
      unfold replayFrom
      split
      · refine ⟨rfl, fun table htable pair hpair => ?_⟩
        cases htable
        exact mem_pairsFor hpair
      · exact replayFrom_te rest _ s

theorem completeResolution_mayDecide (s : State) (t : ProbeTable) (d : Decision) :
    MayDecide s (s.completeResolution t d) where
  mp := .inr ⟨pendingTags t.pairs, by simp [State.completeResolution, State.clearTable]⟩
  rescan := fun h => testView_rescanPending _ t ((changeWindow_rescanPending _ _).trans h)
  table := .inr nofun

theorem completeReplayed_mayDecide (s : State) (t : ProbeTable) (r : Replay) (d : Decision) :
    MayDecide s (s.completeReplayed t r d) where
  mp := .inr ⟨pendingTags t.pairs, by simp [State.completeReplayed, State.clearTable]⟩
  rescan := fun h => (replayFrom_te _ _ _).1.trans (testView_rescanPending (s.clearTable t) t h)
  table := .inr (replayFrom_te _ _ _).2

theorem tryDecide_mayDecide (s : State) : MayDecide s s.tryDecide := by
  unfold State.tryDecide
  repeat' split
  · exact ⟨.inl rfl, id, .inl rfl⟩
  · exact ⟨.inl rfl, id, .inl rfl⟩
  · exact completeResolution_mayDecide s _ _
  · exact completeReplayed_mayDecide s _ _ _

/-- Results that leave the outcome open decide nothing (R84). -/
theorem decisionOf_of_undecided {pairs : List Pair} (h : undecided pairs) : decisionOf pairs = .undecided := by
  obtain ⟨before, p, after, rfl, hmissed, hopen⟩ := h
  induction before with
  | nil =>
      rw [List.nil_append, decisionOf]
      rcases hopen with hopen | ⟨tag, hopen⟩ <;> rw [hopen]
  | cons q before ih =>
      rw [List.cons_append, decisionOf, hmissed q (List.mem_cons_self ..)]
      exact ih fun r hr => hmissed r (List.mem_cons_of_mem _ hr)

theorem tryDecide_of_quiet {s : State} (h : quiet s) : s.tryDecide = s := by
  unfold State.tryDecide
  split
  · rfl
  · next t ht => rw [decisionOf_of_undecided (h t ht)]

/-- A probe left after a withdrawal was there, on the same tag. -/
theorem withdraw_mem {m : Mp} {tags : List (Fin 32)} {q : Probe} (h : q ∈ (m.withdraw tags).probes) :
    ∃ p ∈ m.probes, q.tag = p.tag ∧ q.slot = p.slot ∧ q.walk = p.walk := by
  obtain ⟨p, hp, hq⟩ := List.mem_filterMap.mp h
  refine ⟨p, hp, ?_⟩
  split at hq
  · split at hq <;> cases hq
    exact ⟨rfl, rfl, rfl⟩
  · cases hq; exact ⟨rfl, rfl, rfl⟩

theorem withdraw_waiting {m : Mp} {tags : List (Fin 32)} {n : SlotNo} {c : Claim}
    (h : c ∈ (m.withdraw tags).gates[n].waiting) : c ∈ m.gates[n].waiting := by
  have hgate : (m.withdraw tags).gates[n].waiting = m.gates[n].waiting.filter (Claim.notOn tags) := by
    simp [Mp.withdraw]
  exact (List.mem_filter.mp (hgate ▸ h)).1

/-- A probe there after a possible decision was there before, on the same tag. -/
theorem MayDecide.probe {s t : State} (h : MayDecide s t) {q : Probe} (hq : q ∈ t.mp.probes) :
    ∃ p ∈ s.mp.probes, q.tag = p.tag ∧ q.slot = p.slot ∧ q.walk = p.walk := by
  obtain hmp | ⟨tags, hmp⟩ := h.mp
  · exact ⟨q, hmp ▸ hq, rfl, rfl, rfl⟩
  · exact withdraw_mem (tags := tags) (hmp ▸ hq)

theorem MayDecide.claim {s t : State} (h : MayDecide s t) {n : SlotNo} {c : Claim} (hc : c ∈ (t.gate n).waiting) :
    c ∈ (s.gate n).waiting := by
  obtain hmp | ⟨tags, hmp⟩ := h.mp
  · rwa [State.gate, hmp] at hc
  · rw [State.gate, hmp] at hc
    exact withdraw_waiting hc

/-! ### Waiting probes answered MISS (R67) -/

theorem mem_waitingInto {s : State} {n : SlotNo} {tag : Fin 32} :
    tag ∈ s.mp.waitingInto n ↔ ∃ p ∈ s.mp.probes, p.tag = tag ∧ p.slot = n ∧ p.walk = none := by
  simp only [Mp.waitingInto, List.mem_map, List.mem_filter, Bool.and_eq_true, beq_iff_eq, Option.isNone_iff_eq_none]
  exact ⟨fun ⟨p, ⟨hp, hslot, hwalk⟩, htag⟩ => ⟨p, hp, htag, hslot, hwalk⟩,
    fun ⟨p, hp, htag, hslot, hwalk⟩ => ⟨p, ⟨hp, hslot, hwalk⟩, htag⟩⟩

/-- Outstanding probes on one tag are one probe. -/
theorem eq_of_tag {s : State} (h : gatesInOrder s) {p q : Probe} (hp : p ∈ s.mp.probes) (hq : q ∈ s.mp.probes)
    (htag : p.tag = q.tag) : p = q := List.inj_on_of_nodup_map h.tags hp hq htag

/-- The tag of an outstanding probe waits into a slot exactly where the probe does. -/
theorem tag_waitingInto_iff {s : State} (h : gatesInOrder s) {n : SlotNo} {p : Probe} (hp : p ∈ s.mp.probes) :
    p.tag ∈ s.mp.waitingInto n ↔ p.slot = n ∧ p.walk = none := by
  rw [mem_waitingInto]
  constructor
  · rintro ⟨q, hq, htag, hslot, hwalk⟩
    cases eq_of_tag h hq hp htag
    exact ⟨hslot, hwalk⟩
  · rintro ⟨hslot, hwalk⟩
    exact ⟨p, hp, rfl, hslot, hwalk⟩

/-- The probes left are those that do not wait into the slot. -/
theorem withdraw_waitingInto_probes {s : State} (h : gatesInOrder s) (n : SlotNo) :
    (s.mp.withdraw (s.mp.waitingInto n)).probes =
      s.mp.probes.filter fun p => !(decide (p.slot = n) && p.walk.isNone) := by
  rw [← List.filterMap_eq_filter]
  refine List.filterMap_congr (f := fun p : Probe => if (s.mp.waitingInto n).contains p.tag then
    (if p.walk.isSome then some { p with withdrawn := true } else none) else some p) fun p hp => ?_
  have hiff := tag_waitingInto_iff h (n := n) hp
  by_cases hwaits : p.slot = n ∧ p.walk = none
  · simp [hiff.mpr hwaits, hwaits, Option.guard]
  · have hkept : (decide (p.slot = n) && p.walk.isNone) = false := by
      rw [← Bool.not_eq_true, Bool.and_eq_true, decide_eq_true_eq, Option.isNone_iff_eq_none]
      exact hwaits
    simp [mt hiff.mp hwaits, hkept, Option.guard]

theorem enter_ne_pending {tags : List (Fin 32)} {tag : Fin 32} (h : tag ∈ tags) (p : Pair) :
    (Pair.enter tags .miss p).result ≠ .pending tag := by
  unfold Pair.enter
  split
  · next other hother =>
    split
    · nofun
    · next hnot =>
      rw [hother]
      rintro ⟨⟩
      exact hnot (List.contains_iff_mem.mpr h)
  · next hother => exact hother tag

/-- The claims of the probes into the slot are at its gate alone. -/
theorem withdraw_waitingInto_gates {s : State} (h : gatesInOrder s) (n : SlotNo) :
    (s.mp.withdraw (s.mp.waitingInto n)).gates = s.mp.gates.set n { s.gate n with
      waiting := (s.gate n).waiting.filter fun c => decide (c = .upkeep) } := by
  refine Vector.ext fun i hi => ?_
  rw [Mp.withdraw, Vector.getElem_ofFn, Vector.getElem_set]
  split
  · next hin =>
    subst hin
    have hfilter : (s.gate n).waiting.filter (Claim.notOn (s.mp.waitingInto n)) =
        (s.gate n).waiting.filter fun c => decide (c = .upkeep) := by
      refine List.filter_congr fun c hc => ?_
      cases c with
      | upkeep => rfl
      | probe tag =>
          have hmem : tag ∈ s.mp.waitingInto n := mem_waitingInto.mpr ((h.waiting n tag).mp hc)
          simp [Claim.notOn, hmem]
    exact congrArg (fun w => ({ s.gate n with waiting := w } : Gate)) hfilter
  · next hin =>
    have hfilter : (s.gate ⟨i, hi⟩).waiting.filter (Claim.notOn (s.mp.waitingInto n)) = (s.gate ⟨i, hi⟩).waiting := by
      refine List.filter_eq_self.mpr fun c hc => ?_
      cases c with
      | upkeep => rfl
      | probe tag =>
          obtain ⟨p, hp, rfl, hslot, -⟩ := (h.waiting ⟨i, hi⟩ tag).mp hc
          have hnot : p.tag ∉ s.mp.waitingInto n := fun hmem =>
            hin (congrArg Fin.val (((tag_waitingInto_iff h hp).mp hmem).1.symm.trans hslot))
          simp [Claim.notOn, hnot]
    exact congrArg (fun w => ({ s.gate ⟨i, hi⟩ with waiting := w } : Gate)) hfilter

/-- A result entered for the tags that wait into the slot, in the words of the statements. -/
theorem enter_waitingInto (s : State) (n : SlotNo) (p : Pair) :
    Pair.enter (s.mp.waitingInto n) .miss p = match p.result with
      | .pending tag =>
          if s.mp.probes.any fun q => (decide (q.slot = n) && q.walk.isNone) && decide (q.tag = tag) then
            { p with result := .miss }
          else p
      | _ => p := by
  obtain ⟨cand, slot, outline, result⟩ := p
  cases result with
  | pending tag =>
      have hiff : (s.mp.waitingInto n).contains tag = true ↔
          (s.mp.probes.any fun q => (decide (q.slot = n) && q.walk.isNone) && decide (q.tag = tag)) = true := by
        rw [List.contains_iff_mem, mem_waitingInto]
        simp only [List.any_eq_true, Bool.and_eq_true, decide_eq_true_eq, Option.isNone_iff_eq_none]
        exact exists_congr fun q => and_congr_right fun _ => and_comm
      exact if_congr hiff rfl rfl
  | unissued => rfl
  | miss => rfl
  | hit flags text => rfl

theorem missAnswered_table (s : State) (n : SlotNo) : (missAnswered s n).te.table =
    s.te.table.map fun t => { t with pairs := t.pairs.map (Pair.enter (s.mp.waitingInto n) .miss) } := by
  rw [show Pair.enter (s.mp.waitingInto n) .miss = _ from funext (enter_waitingInto s n)]
  rfl

/-- Waiting probes are answered MISS, in the words of the statements, and the TE may decide. -/
theorem answerMiss_eq {s : State} (h : gatesInOrder s) (n : SlotNo) :
    s.answerMiss n = (missAnswered s n).tryDecide := by
  have hmp : s.mp.withdraw (s.mp.waitingInto n) = (missAnswered s n).mp :=
    congrArg₂ (fun probes gates => { s.mp with probes := probes, gates := gates })
      (withdraw_waitingInto_probes h n) (withdraw_waitingInto_gates h n)
  exact congrArg₂ (fun mp table => ((s.withMp mp).withTe { s.te with table := table }).tryDecide) hmp
    (missAnswered_table s n).symm

theorem gatesInOrder_of_mp {s t : State} (h : gatesInOrder s) (hmp : t.mp = s.mp) : gatesInOrder t := by
  obtain ⟨tags, served, once, taken, waiting, upkeep, notBoth⟩ := h
  constructor <;> simpa only [gateServed, State.gate, hmp]

/-! ### SET_ACCESS (R22, R28, R86) -/

theorem accessOf_eq_lookup (code : Byte) :
    accessOf code = [(0, Access.shut), (1, .lookup), (2, .maintain), (3, .full)].lookup code.toNat := by
  revert code
  decide

theorem accessOf_of_gt {code : Byte} (h : 3 < code.toNat) : accessOf code = none := by
  revert code
  decide

theorem runCommand_setAccess {v code : Byte} {n : SlotNo} {a : Access} (hv : v.toNat = n.val)
    (ha : accessOf code = some a) (s : State) : runCommand (.setAccess v code) s =
      if (s.slot n).lock then s.refuse .locked
      else if (s.slot n).state ≠ .ready then s.refuse .badState
      else (s.giveAccess n a).done := by
  rw [runCommand, cmdSetAccess, slotOf_of_lt hv, ha]

theorem runCommand_setAccess_accepted {s : State} {v code : Byte} {n : SlotNo} {a : Access} (hv : v.toNat = n.val)
    (ha : accessOf code = some a) (hlock : (s.slot n).lock = false) (hstate : (s.slot n).state = .ready) :
    runCommand (.setAccess v code) s = (s.giveAccess n a).done := by
  rw [runCommand_setAccess hv ha, if_neg (by simp [hlock]), if_neg (not_not.mpr hstate)]

/-- A change that leaves alone whether the slot is consulted. -/
theorem giveAccess_of_same {s : State} {n : SlotNo} {a : Access}
    (h : ((s.slot n).access = .lookup ∨ (s.slot n).access = .full) ↔ (a = .lookup ∨ a = .full)) :
    s.giveAccess n a = s.withSlot n { s.slot n with access := a } := by
  refine if_pos (Bool.eq_iff_iff.mpr ?_)
  rw [Slot.consulted_iff, Slot.consulted_iff]
  exact h

/-- A change that makes the slot consulted. -/
theorem giveAccess_of_begins {s : State} {n : SlotNo} {a : Access}
    (hbefore : ¬((s.slot n).access = .lookup ∨ (s.slot n).access = .full)) (hafter : a = .lookup ∨ a = .full) :
    s.giveAccess n a = viewSignalled (s.withSlot n { s.slot n with access := a }) := by
  have hnew : ({ s.slot n with access := a } : Slot).consulted = true := (Slot.consulted_iff _).mpr hafter
  have hdiffer : (s.slot n).consulted ≠ ({ s.slot n with access := a } : Slot).consulted := fun heq =>
    hbefore ((Slot.consulted_iff _).mp (heq.trans hnew))
  exact (if_neg hdiffer).trans ((if_pos hnew).trans (signalRescan_noteViewChange _))

/-- A change that stops the slot being consulted. -/
theorem giveAccess_of_stops {s : State} {n : SlotNo} {a : Access} (h : gatesInOrder s)
    (hbefore : (s.slot n).access = .lookup ∨ (s.slot n).access = .full) (hafter : ¬(a = .lookup ∨ a = .full)) :
    s.giveAccess n a =
      (missAnswered (viewSignalled (s.withSlot n { s.slot n with access := a })) n).tryDecide := by
  have hnew : ¬({ s.slot n with access := a } : Slot).consulted = true := mt (Slot.consulted_iff _).mp hafter
  have hdiffer : (s.slot n).consulted ≠ ({ s.slot n with access := a } : Slot).consulted := fun heq =>
    hnew (heq.symm.trans ((Slot.consulted_iff _).mpr hbefore))
  refine (if_neg hdiffer).trans ((if_neg hnew).trans ?_)
  have hgiven : gatesInOrder (viewSignalled (s.withSlot n { s.slot n with access := a })) :=
    gatesInOrder_of_mp h rfl
  rw [signalRescan_noteViewChange]
  exact answerMiss_eq hgiven n

theorem exec_setAccess_of_bad {s : State} {v code : Byte} (h : Ready s) (hbad : 3 < v.toNat ∨ 3 < code.toNat) :
    exec (.setAccess v code) s = .next (answered s .badArg 0x1B []) := by
  refine exec_refuses rfl rfl h ?_
  rw [runCommand, cmdSetAccess]
  rcases hbad with hslot | haccess
  · rw [slotOf_of_gt hslot]
  · rw [accessOf_of_gt haccess]
    split <;> trivial

/-- An accepted SET_ACCESS that leads to `t`. -/
theorem exec_setAccess_accepted {s t : State} {v code : Byte} {n : SlotNo} {a : Access} (h : Ready s)
    (hv : v.toNat = n.val) (ha : accessOf code = some a) (hlock : (s.slot n).lock = false)
    (hstate : (s.slot n).state = .ready) (hcp : t.cp = s.cp)
    (hgiven : (s.beginExecution 0x1B).giveAccess n a = t.beginExecution 0x1B) :
    exec (.setAccess v code) s = .next (answered t .done 0x1B []) := by
  have hcmd := runCommand_setAccess_accepted (s := s.beginExecution 0x1B) hv ha hlock hstate
  rw [hgiven] at hcmd
  exact exec_answers rfl rfl h (congrArg Cp.executing hcp) (congrArg Cp.restarts hcp) hcmd

/-- The access given, the slot is not consulted. -/
theorem not_consulted_code {code : Byte} : ¬((if code.toNat = 0 then Access.shut else .maintain) = .lookup ∨
    (if code.toNat = 0 then Access.shut else .maintain) = .full) := by
  split <;> decide

theorem accessOf_of_stops {code : Byte} (h : code.toNat = 0 ∨ code.toNat = 2) :
    accessOf code = some (if code.toNat = 0 then .shut else .maintain) := by
  rw [accessOf_eq_lookup]
  rcases h with h | h <;> rw [h] <;> rfl

theorem exec_setAccess_of_stops {s : State} {v code : Byte} {n : SlotNo} {u : State}
    (h : stopsConsulting s v code n u) :
    exec (.setAccess v code) s = .next (u.beginExecution 0x1B).tryDecide.done := by
  obtain ⟨hready, hgates, hv, hcode, hlock, hstate, hbefore, rfl⟩ := h
  have hcmd := runCommand_setAccess_accepted (s := s.beginExecution 0x1B) hv (accessOf_of_stops hcode) hlock hstate
  have hgiven := giveAccess_of_stops (s := s.beginExecution 0x1B) (gatesInOrder_of_mp hgates rfl) hbefore
    (not_consulted_code (code := code))
  rw [hgiven] at hcmd
  exact congrArg Host.Outcome.next ((hostCommand_of_ready hready (.setAccess v code) _).trans hcmd)

theorem stopsConsulting_cp {s : State} {v code : Byte} {n : SlotNo} {u : State} (h : stopsConsulting s v code n u) :
    u.cp = s.cp := h.answers ▸ rfl

/-! ### After the change (R67, R86) -/

theorem tryDecide_outsideTranslation (s : State) : outsideTranslation s s.tryDecide := by
  obtain ⟨hksu, hstrokes, hdict, hsdram, hspeakers, hspi, hspdo, hpending, hqueue, -, -, hrestarts, hresp, hreport,
    hnotice, htrigger⟩ := State.tryDecide_frame s
  exact ⟨hksu, hstrokes, hsdram, hspeakers, hspi, hspdo, hpending, congrArg Dict.memMiB hdict, hqueue, hrestarts,
    hresp, hreport, hnotice, htrigger⟩

/-- A probe that waited into the slot is not among those left. -/
theorem tag_ne_of_missAnswered {s : State} (h : gatesInOrder s) {n : SlotNo} {p q : Probe}
    (hp : p ∈ s.mp.probes) (hslot : p.slot = n) (hwalk : p.walk = none) (hq : q ∈ (missAnswered s n).mp.probes) :
    q.tag ≠ p.tag := by
  obtain ⟨hq, hkept⟩ := List.mem_filter.mp hq
  intro htag
  cases eq_of_tag h hq hp htag
  simp [hslot, hwalk] at hkept

/-- The claim of a probe that waited into the slot is at no gate. -/
theorem claim_of_missAnswered {s : State} (h : gatesInOrder s) {n : SlotNo} {p : Probe}
    (hp : p ∈ s.mp.probes) (hslot : p.slot = n) (m : SlotNo) :
    .probe p.tag ∉ ((missAnswered s n).gate m).waiting := by
  intro hclaim
  by_cases hm : m = n
  · have hgate : (missAnswered s n).gate n = { s.gate n with
        waiting := (s.gate n).waiting.filter fun c => decide (c = .upkeep) } := State.gate_withGate_self ..
    rw [hm, hgate] at hclaim
    simp at hclaim
  · have hgate : (missAnswered s n).gate m = s.gate m := (State.gate_withGate s n m _).trans (if_neg (Ne.symm hm))
    rw [hgate] at hclaim
    obtain ⟨q, hq, htag, hslot', -⟩ := (h.waiting m p.tag).mp hclaim
    cases eq_of_tag h hq hp htag
    exact hm (hslot'.symm.trans hslot)

/-- No pair awaits the result of a probe that waited into the slot. -/
theorem result_of_missAnswered {s : State} {n : SlotNo} {p : Probe} (hp : p ∈ s.mp.probes)
    (hslot : p.slot = n) (hwalk : p.walk = none) {table : ProbeTable}
    (htable : (missAnswered s n).te.table = some table) {pair : Pair} (hpair : pair ∈ table.pairs) :
    pair.result ≠ .pending p.tag := by
  obtain ⟨t, -, rfl⟩ := Option.map_eq_some_iff.mp ((missAnswered_table s n).symm.trans htable)
  obtain ⟨q, -, rfl⟩ := List.mem_map.mp hpair
  exact enter_ne_pending (mem_waitingInto.mpr ⟨p, hp, rfl, hslot, hwalk⟩) q

theorem done_of_noRestart {s : State} (h : s.cp.restarts = 0) : s.done = commandOver s .done [] := if_pos h

/-- A slot that is consulted no more: whatever the TE decides, the probes that waited into it are gone. -/
theorem setAccess_stopped {s : State} (hready : Ready s) (hgates : gatesInOrder s) (n : SlotNo) (d : Slot) :
    let u := missAnswered (viewSignalled (s.withSlot n d)) n
    let t := (u.beginExecution 0x1B).tryDecide.done
    outsideTranslation s t ∧ t.dict = u.dict ∧ t.mp.upkeep = s.mp.upkeep ∧
      t.cp.responses = s.cp.responses ++ [⟨.done, 0x1B, []⟩] ∧ t.cp.executing = none ∧
      (s.te.window ≠ [] → t.te.rescanPending = true) ∧
      (∀ p ∈ t.mp.probes, p.slot = n → p.walk.isSome = true) ∧
      ∀ p ∈ s.mp.probes, p.slot = n → p.walk = none →
        (∀ q ∈ t.mp.probes, q.tag ≠ p.tag) ∧ (∀ m, .probe p.tag ∉ (t.gate m).waiting) ∧
        ∀ table, t.te.table = some table → ∀ pair ∈ table.pairs, pair.result ≠ .pending p.tag := by
  intro u t
  have hdecides := tryDecide_mayDecide (u.beginExecution 0x1B)
  obtain ⟨-, -, hdict, -, -, -, -, -, -, hexecuting, hresponses, hrestarts, -⟩ :=
    State.tryDecide_frame (u.beginExecution 0x1B)
  have ht : t = commandOver (u.beginExecution 0x1B).tryDecide .done [] :=
    done_of_noRestart (hrestarts.trans hready.noRestart)
  have hview : gatesInOrder (viewSignalled (s.withSlot n d)) := gatesInOrder_of_mp hgates rfl
  rw [ht]
  refine ⟨tryDecide_outsideTranslation (u.beginExecution 0x1B), hdict, (tryDecide_thinned _).upkeep, ?_, rfl,
    fun hwindow => ?_, fun q hq hslot => ?_, fun p hp hslot hwalk => ⟨fun q hq => ?_, fun m hclaim => ?_, ?_⟩⟩
  · show _ ++ [(⟨.done, (u.beginExecution 0x1B).tryDecide.cp.executing.getD 0, []⟩ : Response)] = _
    rw [hexecuting, hresponses]
    rfl
  · have hsignalled : (s.te.rescanPending || !s.te.window.isEmpty) = true := by simp [hwindow]
    exact hdecides.rescan hsignalled
  · obtain ⟨p, hp, -, hslot', hwalk⟩ := hdecides.probe hq
    have hkept := (List.mem_filter.mp hp).2
    rw [hwalk]
    simpa [← hslot', hslot, Option.isSome_iff_ne_none] using hkept
  · obtain ⟨r, hr, htag, -⟩ := hdecides.probe hq
    exact htag ▸ tag_ne_of_missAnswered hview hp hslot hwalk hr
  · exact claim_of_missAnswered hview hp hslot m (hdecides.claim hclaim)
  · intro table htable pair hpair
    rcases hdecides.table with hsame | hnew
    · exact result_of_missAnswered (s := viewSignalled (s.withSlot n d)) hp hslot hwalk (hsame.symm.trans htable) hpair
    · rw [hnew table htable pair hpair]
      nofun

end Sys2Proof.Machine

section

open Sys2Proof Sys2Proof.Machine Sys2Proof.Rules

/-- Settles O16: the three kinds of change, and what the TE may decide on the last. -/
theorem accessChangesAndAnswersWaitingProbes : Obligations.AccessChangesAndAnswersWaitingProbes := by
  unfold Obligations.AccessChangesAndAnswersWaitingProbes
  refine ⟨fun s v code h hbad => exec_setAccess_of_bad h hbad, fun s v code n a h hv ha => ?_, fun s v code n u h =>
    ⟨fun hquiet => ?_, _, exec_setAccess_of_stops h, ?_⟩⟩
  · have hcode : accessOf code = some a := (accessOf_eq_lookup code).trans ha
    have hcmd := runCommand_setAccess hv hcode (s.beginExecution 0x1B)
    refine ⟨fun hlock => exec_refuses rfl rfl h (hcmd.trans (if_pos hlock)), fun hlock hstate => ?_,
      fun hlock hstate => ⟨fun hsame => ?_, fun hbefore hafter => ?_⟩⟩
    · exact exec_refuses rfl rfl h
        (hcmd.trans ((if_neg (Bool.eq_false_iff.mp hlock)).trans (if_pos hstate)))
    · exact exec_setAccess_accepted h hv hcode hlock hstate rfl (giveAccess_of_same hsame)
    · exact exec_setAccess_accepted h hv hcode hlock hstate rfl (giveAccess_of_begins hbefore hafter)
  · rw [exec_setAccess_of_stops h, tryDecide_of_quiet (s := u.beginExecution 0x1B) hquiet]
    have hcp := stopsConsulting_cp h
    exact congrArg _ (respond_beginExecution (hcp ▸ h.ready.noCommand) (hcp ▸ h.ready.noRestart) _ _ _)
  · obtain ⟨hready, hgates, -, -, -, -, -, rfl⟩ := h
    exact setAccess_stopped hready hgates _ _

end
end

section
/-!
PROOF. An entry operation access by access: what its walk decides, and what each stage past the walk stores (R43,
R45, R47, R49, R52 to R57, R61, R183).
-/

namespace Sys2Proof.Machine

open Sys2Proof Sys2Proof.Rules

/-! ### Cells and links in the words of the statements -/

theorem readBytes_eq (m : List Host.Cell) : ∀ (n a : Nat),
    readBytes m a n = (List.range n).map fun i => readByte m (a + i)
  | 0, _ => rfl
  | n + 1, a => by
      simp [readBytes, readBytes_eq m n, List.range_succ_eq_map, Function.comp_def, Nat.add_right_comm,
        Nat.add_assoc]

theorem readCell_eq (m : List Host.Cell) (base c : Nat) : readCell m base c = cellBytesOf m base c :=
  readBytes_eq m 32 _

theorem length_payloadOf (outline : List Stroke) (text : List Byte) :
    (payloadOf outline text).length = 3 * outline.length + text.length := by
  rw [payloadOf, List.length_append, length_strokeBytes]

theorem EntryOp.need_eq (op : EntryOp) : op.need = cellsFor (3 * op.outline.length + op.text.length) :=
  congrArg cellsFor (length_payloadOf _ _)

theorem linkBytes_eq_linkAsBytes (l : Link) : linkBytes l = linkAsBytes l := linkBytes_eq l

/-! ### The grant of an entry operation's access (R69) -/

theorem exec_arbiterGrant_entry {s : State} {op : EntryOp} {c : Nat} (h : upkeepGranted s (.entry op) c)
    (n : SlotNo) : exec (.arbiterGrant n) s = .next ((s.withMp
      { s.mp with
        lookupRun := 0
        upkeep := some (.entry (op.perform (s.slot op.slot) s.sdram c).1) }).withSdram
      (op.perform (s.slot op.slot) s.sdram c).2) := exec_arbiterGrant_of_upkeep h n

theorem access_of_granted {s : State} {op : EntryOp} {c : Nat} (h : upkeepGranted s (.entry op) c) :
    op.access = some c := by
  obtain ⟨⟨-, -, haccess, -⟩, -⟩ := h
  exact haccess

/-! ### The end of the walk decides (R49, R52, R54, R56, R57) -/

theorem Walk.access_isNone_iff (w : Walk) : w.access.isNone = true ↔ w.phase = .found ∨ w.phase = .absent := by
  unfold Walk.access
  cases w.phase <;> simp

/-- The operation with its walk one access further. -/
def EntryOp.withWalk (op : EntryOp) (w : Walk) : EntryOp := { op with walk := w, bucketLink := w.bucketLink }

theorem perform_of_walking {op : EntryOp} (h : op.stage = .walking) (d : Slot) (m : List Host.Cell) (c : Nat) :
    op.perform d m c = (op.walkOn (cellBytesOf m d.base c), m) := by
  rw [EntryOp.perform, h, readCell_eq]

/-- A walk that goes on decides nothing. -/
theorem EntryOp.walkOn_of_goesOn {op : EntryOp} {bytes : List Byte} {w : Walk} (hw : op.walk.advance bytes = w)
    (hfound : w.phase ≠ .found) (habsent : w.phase ≠ .absent) : op.walkOn bytes = op.withWalk w := by
  subst hw
  exact if_neg (mt (Walk.access_isNone_iff _).mp (not_or.mpr ⟨hfound, habsent⟩))

/-- A walk that ends decides the operation. -/
theorem EntryOp.walkOn_of_ends {op : EntryOp} {bytes : List Byte} {w : Walk} (hw : op.walk.advance bytes = w)
    (h : w.phase = .found ∨ w.phase = .absent) : op.walkOn bytes = (op.withWalk w).afterWalk := by
  subst hw
  exact if_pos ((Walk.access_isNone_iff _).mpr h)

theorem EntryOp.ends_of_eq {op t : EntryOp} {st : Status} (h : t = op.endWith st) :
    t.stage = .ended ∧ t.status = st := h ▸ ⟨rfl, rfl⟩

theorem EntryOp.goesOn_of_eq {op t : EntryOp} {stage : EntryStage} (h : t = op.proceed stage) :
    t.stage = stage ∧ t.status = .done := h ▸ ⟨rfl, rfl⟩

/-- An addition whose outline is absent: the chain is checked before the free cells (R52, R54). -/
theorem EntryOp.checkAdd_decides (op : EntryOp) :
    (32 ≤ op.walk.seen → op.checkAdd = op.endWith .bucketFull) ∧
      (op.walk.seen < 32 → op.freeCount < op.need → op.checkAdd = op.endWith .noSpace) ∧
      (op.walk.seen < 32 → op.need ≤ op.freeCount → op.checkAdd = op.proceed .take) :=
  ⟨fun hfull => if_pos hfull, fun hroom hfree => (if_neg (not_le.mpr hroom)).trans (if_pos hfree),
    fun hroom hfree => (if_neg (not_le.mpr hroom)).trans (if_neg (not_lt.mpr hfree))⟩

/-- The checks of a walk that found its outline (R49, R54, R57). -/
theorem EntryOp.afterWalk_of_found {op : EntryOp} (h : op.walk.phase = .found) : op.afterWalk =
    match op.kind with
    | .add => op.endWith .duplicate
    | .replace =>
        if op.freeCount + op.walk.entry.cells < op.need then op.endWith .noSpace else op.proceed .unlink
    | .retire => op.proceed .unlink
    | .fetch => op.endWith .done := by
  have hfound : op.isFound = true := by rw [EntryOp.isFound, h]; rfl
  unfold EntryOp.afterWalk EntryOp.oldCells
  rw [hfound]
  cases op.kind <;> rfl

/-- The checks of a walk that did not find it (R49, R56, R57). -/
theorem EntryOp.afterWalk_of_absent {op : EntryOp} (h : op.walk.phase = .absent) : op.afterWalk =
    match op.kind with
    | .add => op.checkAdd
    | .replace => op.checkAdd
    | .retire => op.endWith .notFound
    | .fetch => op.endWith .notFound := by
  have habsent : op.isFound = false := by rw [EntryOp.isFound, h]; rfl
  unfold EntryOp.afterWalk
  rw [habsent]
  cases op.kind <;> rfl

/-- The decision changes the stage and the status alone. -/
theorem EntryOp.afterWalk_frame (op : EntryOp) :
    op.afterWalk = { op with stage := op.afterWalk.stage, status := op.afterWalk.status } := by
  unfold EntryOp.afterWalk EntryOp.checkAdd
  split <;> (repeat' split) <;> rfl

/-! ### The stores past the walk (R45, R53, R55, R183) -/

theorem writeBytes_storedIn {m : List Host.Cell} (a : Nat) (bytes : List Byte) (h : Memory.wf m = true) :
    storedIn m (writeBytes m a bytes) a bytes :=
  ⟨fun i hi => readByte_writeBytes_inside bytes m a i hi h, fun b hb => readByte_writeBytes_outside bytes m a b hb⟩

/-- The directory cell and the byte in it are where the bucket head lies (R183). -/
theorem writeCell_bucketHead (m : List Host.Cell) (base bucket : Nat) (l : Link) :
    writeCell m base (directoryCell bucket) (directoryByte bucket) (bucketHeadBytes l) =
      writeBytes m (base + 4 * bucket) (0x00 :: linkAsBytes l) := by
  have hplace : cellAddr base (directoryCell bucket) + directoryByte bucket = base + 4 * bucket := by
    simp only [cellAddr, directoryCell, directoryByte, Config.cellBytes]
    omega
  rw [writeCell, hplace, bucketHeadBytes, linkBytes_eq_linkAsBytes]

theorem headCellBytes_eq (next : Link) (cells : List Nat) (outline : List Stroke) (flags : Byte) (text : List Byte) :
    headCellBytes next cells[1]? outline flags text = entryCell next cells outline flags text 0 := by
  rw [headCellBytes, linkBytes_eq_linkAsBytes, linkBytes_eq_linkAsBytes]
  rfl

theorem contCellBytes_eq (next : Link) (cells : List Nat) (outline : List Stroke) (flags : Byte) (text : List Byte)
    {i : Nat} (hi : i ≠ 0) :
    contCellBytes cells[i + 1]? i outline text = entryCell next cells outline flags text i := by
  rw [contCellBytes, entryCell, if_neg hi, linkBytes_eq_linkAsBytes, payloadOf,
    show 23 + 29 * (i - 1) = 29 * i - 6 by omega]

/-- The memory after an access is what it was with the bytes of its stage stored. -/
theorem perform_memory {op : EntryOp} {c : Nat} (hcont : op.stage ≠ .writeCont 0) (haccess : op.access = some c)
    (d : Slot) (m : List Host.Cell) :
    (op.perform d m c).2 = (stored d op).elim m fun store => writeBytes m store.1 store.2 := by
  unfold EntryOp.access at haccess
  unfold EntryOp.perform stored
  cases hstage : op.stage with
  | walking => rfl
  | returnRead cell => rfl
  | take => rfl
  | ended => rfl
  | unlink =>
      cases hprev : op.walk.prev with
      | some p => simp [writeCell, cellAddr, linkBytes_eq_linkAsBytes]
      | none =>
          simp only [hstage, hprev, Option.some.injEq] at haccess
          simp [← haccess, writeCell_bucketHead]
  | returnWrite cell next => simp [writeCell, cellAddr, linkBytes_eq_linkAsBytes]
  | writeHead =>
      simp only [hstage] at haccess
      simp [haccess, writeCell, cellAddr, headCellBytes_eq]
  | writeCont i =>
      simp only [hstage] at haccess
      have hi : i ≠ 0 := by rintro rfl; exact hcont hstage
      simp [haccess, writeCell, cellAddr, contCellBytes_eq op.bucketLink op.taken op.outline op.flags op.text hi]
  | writeBucket =>
      simp only [hstage, Option.some.injEq] at haccess
      simp [← haccess, writeCell_bucketHead]

end Sys2Proof.Machine

section

open Sys2Proof Sys2Proof.Machine Sys2Proof.Rules

/-- Settles O21: a walk that goes on, and its end by the operation's kind. -/
theorem walkDecidesTheEntryOperation : Obligations.WalkDecidesTheEntryOperation := by
  unfold Obligations.WalkDecidesTheEntryOperation
  intro s n op c w hstage hgranted hw granted
  have hexec := exec_arbiterGrant_entry hgranted n
  rw [perform_of_walking hstage] at hexec
  refine ⟨fun hfound habsent => ?_, fun hends => ⟨(op.withWalk w).afterWalk, ?_, EntryOp.afterWalk_frame _, ?_⟩⟩
  · rw [EntryOp.walkOn_of_goesOn hw hfound habsent] at hexec
    exact hexec
  · rw [EntryOp.walkOn_of_ends hw hends] at hexec
    exact hexec
  · have hfound := @EntryOp.afterWalk_of_found (op.withWalk w)
    have habsent := @EntryOp.afterWalk_of_absent (op.withWalk w)
    obtain ⟨hfull, hshort, hadded⟩ := EntryOp.checkAdd_decides (op.withWalk w)
    rw [EntryOp.need_eq] at hfound hshort hadded
    rw [show (op.withWalk w).kind = op.kind from rfl] at hfound habsent
    intro need old ends goesOn adds
    have hadds (h : (op.withWalk w).afterWalk = (op.withWalk w).checkAdd) : adds :=
      ⟨fun hseen => EntryOp.ends_of_eq (h.trans (hfull hseen)),
        fun hseen hfree => EntryOp.ends_of_eq (h.trans (hshort hseen hfree)),
        fun hseen hfree => EntryOp.goesOn_of_eq (h.trans (hadded hseen hfree))⟩
    cases hkind : op.kind <;> simp only [hkind] at hfound habsent ⊢
    case add => exact ⟨fun h => EntryOp.ends_of_eq (hfound h), fun h => hadds (habsent h)⟩
    case replace =>
      exact ⟨fun h hfree => EntryOp.ends_of_eq ((hfound h).trans (if_pos hfree)),
        fun h hfree => EntryOp.goesOn_of_eq ((hfound h).trans (if_neg (not_lt.mpr hfree))),
        fun h => hadds (habsent h)⟩
    case retire => exact ⟨fun h => EntryOp.goesOn_of_eq (hfound h), fun h => EntryOp.ends_of_eq (habsent h)⟩
    case fetch => exact ⟨fun h => EntryOp.ends_of_eq (hfound h), fun h => EntryOp.ends_of_eq (habsent h)⟩

/-- Settles O22: the memory after an access, then the operation after it, stage by stage. -/
theorem entryOperationStoresOnlyItsBytes : Obligations.EntryOperationStoresOnlyItsBytes := by
  unfold Obligations.EntryOperationStoresOnlyItsBytes
  intro s n op c hwf hwalking hcont hgranted
  have haccess := access_of_granted hgranted
  have hmemory := perform_memory hcont haccess (s.slot op.slot) s.sdram
  refine ⟨_, _, exec_arbiterGrant_entry hgranted n, fun a bytes hstored => ?_, fun hstored => ?_, ?_⟩
  · rw [hmemory, hstored]
    exact writeBytes_storedIn a bytes hwf
  · rw [hmemory, hstored]
    rfl
  · intro cell need
    unfold EntryOp.access at haccess
    unfold EntryOp.perform
    cases hstage : op.stage <;> simp only [hstage] at haccess ⊢
    case unlink => cases hprev : op.walk.prev <;> simp [EntryOp.unlinked, hprev]
    case returnRead k =>
      cases haccess
      rw [readCell_eq]
      rfl
    case returnWrite k next => cases next <;> rfl
    case take =>
      rw [readCell_eq, EntryOp.took, EntryOp.need_eq]
      rfl
    case writeHead => rfl
    case writeCont i => rfl
    case writeBucket => rfl

end
end

section
/-!
PROOF. The end of an entry operation: its descriptor, its response, its change notice and its gate (R53, R55 to R60,
R65, R122, R123, R166, R177).
-/

namespace Sys2Proof.Machine

open Sys2Proof Sys2Proof.Rules

/-! ### The change notice (R122, R123) -/

theorem runTest_iff_infix {outline : List Stroke} (h : outline ≠ []) :
    ∀ sequence : List Stroke, runTest outline sequence = true ↔ outline <:+: sequence
  | [] => by simp [runTest, h]
  | v :: rest => by
      rw [runTest, Bool.or_eq_true, List.isPrefixOf_iff_prefix, runTest_iff_infix h rest, List.infix_cons_iff]

theorem runTest_iff_isRun {outline : List Stroke} (h : outline ≠ []) (sequence : List Stroke) :
    runTest outline sequence = true ↔ isRun outline sequence := by
  rw [runTest_iff_infix h, isRun]
  exact ⟨fun ⟨before, after, heq⟩ => ⟨h, before, after, heq.symm⟩,
    fun ⟨_, before, after, heq⟩ => ⟨before, after, heq.symm⟩⟩

/-- The TE is busy in two of its states (R77). -/
theorem TeState.not_idle_iff (t : TeState) : (!t.idle) = true ↔ t = .resolving ∨ t = .rescanning := by
  cases t <;> decide

theorem changeNotice_eq_noticeTaken (s : State) {outline : List Stroke} (h : outline ≠ []) :
    s.changeNotice outline = noticeTaken s outline := by
  have hif : (!s.te.state.idle || runTest outline (strokesOf s.te.window)) = true ↔
      (s.te.state = .resolving ∨ s.te.state = .rescanning) ∨ isRun outline (strokesOf s.te.window) := by
    rw [Bool.or_eq_true, TeState.not_idle_iff, runTest_iff_isRun h]
  unfold State.changeNotice noticeTaken
  classical exact if_congr hif rfl rfl

/-! ### The command ends (R53, R55 to R59, R166, R177) -/

theorem respond_eq_commandEnds (s : State) (st : Status) (data : List Byte) :
    s.respond st data = Rules.commandEnds s st data := rfl

theorem withSlot_self (s : State) (n : SlotNo) : s.withSlot n (s.slot n) = s := by
  simp [State.withSlot, State.slot, State.withDict]

/-- A refusal leaves the descriptor, carries no data and sends no notice. -/
theorem answerEntryOp_of_refused {op : EntryOp} (h : op.status ≠ .done) (s : State) :
    s.answerEntryOp op = Rules.commandEnds s op.status [] := by
  have hdescriptor : op.descriptor (s.slot op.slot) = s.slot op.slot := if_pos h
  have hdata : op.data = [] := if_pos h
  have hnotifies : op.notifies (s.slot op.slot) = false := by simp [EntryOp.notifies, h]
  simp only [State.answerEntryOp, hdescriptor, hdata, hnotifies, withSlot_self]
  rfl

/-- A fetch leaves the descriptor and sends no notice. -/
theorem answerEntryOp_of_fetched {op : EntryOp} (h : op.status = .done) (hkind : op.kind = .fetch) (s : State) :
    s.answerEntryOp op = Rules.commandEnds s .done op.data := by
  have hdescriptor : op.descriptor (s.slot op.slot) = s.slot op.slot := by
    simp [EntryOp.descriptor, h, hkind]
  have hnotifies : op.notifies (s.slot op.slot) = false := by simp [EntryOp.notifies, hkind]
  simp only [State.answerEntryOp, hdescriptor, hnotifies, withSlot_self, h]
  rfl

/-- A write sends a notice where its slot is FULL (R59). -/
theorem answerEntryOp_of_written {op : EntryOp} (h : op.status = .done) (hkind : op.kind ≠ .fetch)
    (houtline : op.outline ≠ []) (s : State) : s.answerEntryOp op =
      if (s.slot op.slot).access = .full then
        noticeTaken (Rules.commandEnds (s.withSlot op.slot (op.descriptor (s.slot op.slot))) .done op.data) op.outline
      else Rules.commandEnds (s.withSlot op.slot (op.descriptor (s.slot op.slot))) .done op.data := by
  have hnotifies : op.notifies (s.slot op.slot) = true ↔ (s.slot op.slot).access = .full := by
    simp [EntryOp.notifies, h, hkind]
  simp only [State.answerEntryOp, hnotifies, h, changeNotice_eq_noticeTaken _ houtline]
  rfl

theorem EntryOp.isFound_iff (op : EntryOp) : op.isFound = true ↔ op.walk.phase = .found := beq_iff_eq

theorem EntryOp.oldCells_eq (op : EntryOp) [Decidable (op.walk.phase = .found)] : op.oldCells =
    if op.walk.phase = .found then cellsFor (3 * op.walk.entry.strokes + op.walk.entry.textLen) else 0 :=
  if_congr op.isFound_iff rfl rfl

/-! ### The gate given up, or the next slot searched (R58, R65) -/

theorem exec_upkeepOperationEnd {s : State} {op : EntryOp} (hop : s.mp.upkeep = some (.entry op))
    (hstage : op.stage = .ended) (hholder : (s.gate op.slot).holder = some .upkeep) :
    exec .upkeepOperationEnd s = .next (s.endEntryOp op) := by
  refine congrArg Host.Outcome.next ?_
  rw [hop]
  exact if_pos ⟨hstage, hholder⟩

/-- A gate given up when the upkeep engine has nothing to do. -/
theorem releaseGate_upkeepOver (s : State) (n : SlotNo) :
    (upkeepOver s).releaseGate n = released (upkeepOver s) n := releaseGate_eq_released nofun

theorem endEntryOp_answers {s : State} {op : EntryOp} (h : op.any = false ∨ op.status ≠ .notFound ∨
    op.laterSlots = [] ∨ s.cp.restarts ≠ 0) :
    s.endEntryOp op = released (upkeepOver (s.answerEntryOp op)) op.slot := by
  have hslots : s.slotsLeft op = [] := by
    rcases h with h | h | h | h <;> simp [State.slotsLeft, h]
  rw [State.endEntryOp, hslots]
  exact releaseGate_upkeepOver ..

/-- A gate that is given up is served. -/
theorem gateServed_released {s : State} {n : SlotNo} (hidle : s.mp.upkeep = none) (m : SlotNo)
    (hserved : gateServed s n) : gateServed (released s m) n := by
  have hgate (g : Gate) (hg : g.holder = none → g.waiting = []) : gateServed (s.withGate m g) n := by
    unfold gateServed
    rw [State.gate_withGate]
    split
    · exact hg
    · exact hserved
  unfold released
  cases (s.gate m).waiting with
  | nil => exact hgate _ fun _ => rfl
  | cons c rest =>
      cases c with
      | probe tag => exact hgate ⟨some (.probe tag), rest⟩ nofun
      | upkeep =>
          rw [hidle]
          exact hgate ⟨some .upkeep, rest⟩ nofun

theorem endEntryOp_searches {s : State} {op : EntryOp} {n : SlotNo} {rest : List SlotNo} (hany : op.any = true)
    (hstatus : op.status = .notFound) (hlater : op.laterSlots = n :: rest) (hrestarts : s.cp.restarts = 0)
    (hserved : gateServed s n) : s.endEntryOp op = claimed (released (upkeepOver s) op.slot) n
      (.entry (EntryOp.start .fetch n (s.slot n) op.outline 0 [] true rest)) := by
  have hslots : s.slotsLeft op = n :: rest := by simp [State.slotsLeft, hany, hstatus, hlater, hrestarts]
  have hslot : ((upkeepOver s).releaseGate op.slot).slot n = s.slot n := releaseGate_slot_of_idle rfl ..
  rw [State.endEntryOp, hslots]
  show ((upkeepOver s).releaseGate op.slot).beginEntryOp .fetch n op.outline 0 [] true rest = _
  rw [State.beginEntryOp, hslot, releaseGate_upkeepOver]
  exact beginUpkeep_eq_claimed (gateServed_released rfl op.slot hserved) fun _ _ => nofun

end Sys2Proof.Machine

section

open Sys2Proof Sys2Proof.Machine Sys2Proof.Rules

/-- Settles O23: the command ends, or the next slot is searched. -/
theorem entryOperationEndsWithItsResponse : Obligations.EntryOperationEndsWithItsResponse := by
  unfold Obligations.EntryOperationEndsWithItsResponse
  refine ⟨fun s op hop hstage hholder _ houtline hlast => ?_,
    fun s op n rest hop hstage hholder _ hany hstatus hlater hrestarts hserved =>
      (exec_upkeepOperationEnd hop hstage hholder).trans
        (congrArg _ (endEntryOp_searches hany hstatus hlater hrestarts hserved))⟩
  intro d found old head data count written
  rw [exec_upkeepOperationEnd hop hstage hholder, endEntryOp_answers hlast]
  refine congrArg (fun t => Host.Outcome.next (released (upkeepOver t) op.slot)) ?_
  have hold : op.oldCells = old := EntryOp.oldCells_eq op
  by_cases hstatus : op.status = .done
  · rw [if_neg (not_not.mpr hstatus)]
    have hdata : op.data = data := by
      unfold EntryOp.data
      rw [if_neg (not_not.mpr hstatus), hold]
      simp only [data, head]
      cases op.kind <;> rfl
    by_cases hkind : op.kind = .fetch
    · rw [if_pos hkind, answerEntryOp_of_fetched hstatus hkind, hdata]
    · have hdescriptor : op.descriptor d = { d with
          entryCount := count, freeHead := op.freeHead, freeCount := op.freeCount } := by
        unfold EntryOp.descriptor
        rw [if_neg (not_not.mpr hstatus)]
        simp only [count, found, ← op.isFound_iff]
        cases hwrite : op.kind with
        | fetch => exact absurd hwrite hkind
        | add => rfl
        | replace => rfl
        | retire => rfl
      rw [if_neg hkind, answerEntryOp_of_written hstatus hkind houtline, hdescriptor, hdata]
  · rw [if_pos hstatus, answerEntryOp_of_refused hstatus]

end
end

section
/-!
SUPPORT. What the cells of an entry read as (R41, R42, R43, R183): links and outlines are told apart by their bytes,
a head cell gives the entry's counts, links and first payload bytes, each continuation cell the next ones.
-/

namespace Sys2Proof.Machine

open Sys2Proof Sys2Proof.Rules

/-! ### Numbers, links and outlines read back from their bytes -/

theorem word24_extract (v : BitVec 24) :
    word24 (v.extractLsb' 16 8) (v.extractLsb' 8 8) (v.extractLsb' 0 8) = v := by
  have hhigh : v.extractLsb' 16 8 ++ v.extractLsb' 8 8 = v.extractLsb' 8 16 :=
    BitVec.extractLsb'_append_extractLsb'_eq_extractLsb' rfl
  have hall : v.extractLsb' 8 16 ++ v.extractLsb' 0 8 = v.extractLsb' 0 24 :=
    BitVec.extractLsb'_append_extractLsb'_eq_extractLsb' rfl
  rw [word24, hhigh, hall, BitVec.extractLsb'_eq_self]

theorem linkOf_linkAsBytes {l : Link} (h : ∀ c, l = some c → c < 0xFFFFFF) : linkOf (linkAsBytes l) = l := by
  have hword : linkOf (linkAsBytes l) = if (BitVec.ofNat 24 (l.getD 0xFFFFFF)).toNat = noneLink then none
      else some (BitVec.ofNat 24 (l.getD 0xFFFFFF)).toNat := by
    simp only [linkAsBytes, bytesOf24, linkOf, word24_extract]
  rw [hword]
  cases l with
  | none => rfl
  | some c =>
      have hc := h c rfl
      have hvalue : (BitVec.ofNat 24 ((some c).getD 0xFFFFFF)).toNat = c := Nat.mod_eq_of_lt (by simp; omega)
      rw [hvalue, if_neg (by unfold noneLink; omega)]

theorem bytesOf24_injective {v v' : BitVec 24} (h : bytesOf24 v = bytesOf24 v') : v = v' := by
  simp only [bytesOf24, List.cons.injEq, and_true] at h
  obtain ⟨hhigh, hmiddle, hlow⟩ := h
  rw [← word24_extract v, hhigh, hmiddle, hlow, word24_extract]

theorem strokeBytes_injective : ∀ {o o' : List Stroke}, strokeBytes o = strokeBytes o' → o = o'
  | [], [], _ => rfl
  | [], _ :: _, h => by simp [strokeBytes, bytesOf24] at h
  | _ :: _, [], h => by simp [strokeBytes, bytesOf24] at h
  | v :: o, v' :: o', h => by
      obtain ⟨hv, ho⟩ := List.append_inj h rfl
      rw [bytesOf24_injective hv, strokeBytes_injective ho]

/-! ### The number of cells of an entry (R43) -/

theorem cellsFor_pos (size : Nat) : 1 ≤ cellsFor size := by unfold cellsFor; split <;> omega

theorem le_of_cellsFor (size : Nat) : size ≤ 23 + 29 * (cellsFor size - 1) := by
  unfold cellsFor; split <;> omega

theorem cellsFor_least {size c : Nat} (hc : 1 ≤ c) (hsize : size ≤ 23 + 29 * (c - 1)) : cellsFor size ≤ c := by
  unfold cellsFor; split <;> omega

theorem cellsFor_le_seven {size : Nat} (h : size ≤ 184) : cellsFor size ≤ 7 :=
  cellsFor_least (by decide) (by omega)

end Sys2Proof.Machine

namespace Sys2Proof.Rules

open Sys2Proof Sys2Proof.Machine

/-! ### The cells of an entry, as a walk reads them (R42, R183) -/

/-- An entry's payload: the strokes of its outline, then its text (R42). -/
def Held.payload (e : Held) : List Byte := payloadOf e.outline e.text

/-- An entry as a walk has it whose bytes read so far are these. -/
def Held.regs (e : Held) (c : Nat) (next : Link) (bytes : List Byte) : EntryRegs where
  cell := c
  next := next
  cont := e.cells[1]?
  strokes := e.outline.length
  textLen := e.text.length
  flags := e.flags
  payload := bytes

/-- The payload bytes of the first `k` cells of an entry, 23 of the head cell and 29 of each other: the last of them
may hold fewer bytes of the payload. -/
structure Held.Read (e : Held) (k : Nat) (bytes : List Byte) : Prop where
  length : bytes.length = 23 + 29 * (k - 1)
  payload : e.payload.take (23 + 29 * (k - 1)) <+: bytes

theorem Held.length_payload (e : Held) : e.payload.length = 3 * e.outline.length + e.text.length :=
  length_payloadOf _ _

/-- What is read of the payload begins with what the cells read hold of it. -/
theorem Held.Read.take {e : Held} {k : Nat} {bytes : List Byte} (h : e.Read k bytes) {n : Nat}
    (hread : n ≤ 23 + 29 * (k - 1)) (hlength : n ≤ e.payload.length) : bytes.take n = e.payload.take n := by
  have hprefix := h.payload.take n
  rw [List.take_take, min_eq_left hread] at hprefix
  exact (hprefix.eq_of_length (by simp [h.length]; omega)).symm

theorem Held.Read.outline {e : Held} {k : Nat} {bytes : List Byte} (h : e.Read k bytes)
    (hread : 3 * e.outline.length ≤ 23 + 29 * (k - 1)) :
    bytes.take (3 * e.outline.length) = strokeBytes e.outline := by
  rw [h.take hread (by rw [e.length_payload]; omega), ← length_strokeBytes]
  exact List.take_left

/-- The text is read when the whole payload is. -/
theorem Held.Read.text {e : Held} {k : Nat} {bytes : List Byte} (h : e.Read k bytes) (c : Nat) (next : Link)
    (hread : 3 * e.outline.length + e.text.length ≤ 23 + 29 * (k - 1)) : (e.regs c next bytes).text = e.text := by
  have hpayload : bytes.take e.payload.length = strokeBytes e.outline ++ e.text := by
    rw [h.take (by rwa [e.length_payload]) le_rfl, List.take_length]
    rfl
  show (bytes.drop (3 * e.outline.length)).take e.text.length = e.text
  rw [List.take_drop, ← e.length_payload, hpayload, ← length_strokeBytes, List.drop_left]

/-- One more cell read. -/
theorem Held.Read.append {e : Held} {k : Nat} {bytes more : List Byte} (h : e.Read k bytes) (hk : 1 ≤ k)
    (hlength : more.length = 29) (hmore : (e.payload.drop (23 + 29 * (k - 1))).take 29 <+: more) :
    e.Read (k + 1) (bytes ++ more) := by
  have hplace : 23 + 29 * (k + 1 - 1) = 23 + 29 * (k - 1) + 29 := by omega
  refine ⟨by rw [List.length_append, h.length, hlength, hplace], ?_⟩
  rw [hplace, List.take_add]
  by_cases hwhole : 23 + 29 * (k - 1) ≤ e.payload.length
  · have hbytes := h.payload.eq_of_length (by rw [List.length_take, h.length]; omega)
    rw [hbytes]
    exact (List.prefix_append_right_inj _).mpr hmore
  · rw [List.drop_of_length_le (by omega), List.take_nil, List.append_nil]
    exact h.payload.trans (List.prefix_append _ _)

/-! ### Single cells -/

@[simp] theorem length_cellBytesOf (m : List Host.Cell) (base c : Nat) : (cellBytesOf m base c).length = 32 := by
  simp [cellBytesOf]

/-- The layout of a head cell (R183). -/
theorem entryIn_layout (c : Nat) (l l' : Link) (strokes textLen flags : Byte) (bytes : List Byte) :
    entryIn c (linkAsBytes l ++ linkAsBytes l' ++ [strokes, textLen, flags] ++ bytes) =
      ⟨c, linkOf (linkAsBytes l), linkOf (linkAsBytes l'), strokes.toNat, textLen.toNat, flags, bytes⟩ := rfl

theorem contLinkIn_layout (l : Link) (bytes : List Byte) :
    contLinkIn (linkAsBytes l ++ bytes) = linkOf (linkAsBytes l) := rfl

theorem contPayloadIn_layout (l : Link) (bytes : List Byte) : contPayloadIn (linkAsBytes l ++ bytes) = bytes := rfl

theorem length_linkAsBytes (l : Link) : (linkAsBytes l).length = 3 := rfl

section

variable {m : List Host.Cell} {d : Slot} {e : Held} {next : Link} (h : holdsEntry m d e next)
include h

theorem holdsEntry.size_le : 3 * e.outline.length + e.text.length ≤ 184 := by
  obtain ⟨⟨-, hstrokes, -⟩, htext, -⟩ := h
  omega

/-- A cell of the entry lies in the window. -/
theorem holdsEntry.cell_lt {i c : Nat} (hc : e.cells[i]? = some c) : c < d.size / 32 := by
  obtain ⟨-, -, -, hcells, -⟩ := h
  exact hcells c (List.mem_of_getElem? hc)

/-- The bytes of the `i`-th cell, up to the end of the payload. -/
theorem holdsEntry.cell_prefix {i c : Nat} (hc : e.cells[i]? = some c) :
    entryCell next e.cells e.outline e.flags e.text i <+: cellBytesOf m d.base c := by
  obtain ⟨-, -, -, -, -, hbytes⟩ := h
  obtain ⟨hi, rfl⟩ := List.getElem?_eq_some_iff.mp hc
  exact List.isPrefixOf_iff_prefix.mp (hbytes i hi)

/-- The entry has a cell for every place below its cell count. -/
theorem holdsEntry.exists_cell {i : Nat} (hi : i < cellsFor (3 * e.outline.length + e.text.length)) :
    ∃ c, e.cells[i]? = some c := by
  obtain ⟨-, -, hcount, -⟩ := h
  exact ⟨_, List.getElem?_eq_getElem (hcount ▸ hi)⟩

/-- The link to a cell of the entry is read back. -/
theorem holdsEntry.link_eq (hsize : d.size ≤ 2 ^ 24) (i : Nat) : linkOf (linkAsBytes e.cells[i]?) = e.cells[i]? :=
  linkOf_linkAsBytes fun k hk => by have := h.cell_lt hk; omega

/-- The head cell as a walk reads it. -/
theorem holdsEntry.head (hsize : d.size ≤ 2 ^ 24) {c : Nat} (hc : e.cells[0]? = some c) :
    ∃ bytes, e.Read 1 bytes ∧ entryIn c (cellBytesOf m d.base c) = e.regs c next bytes := by
  obtain ⟨hstrokes, htext⟩ : e.outline.length < 256 ∧ e.text.length < 256 := by have := h.size_le; omega
  have hlink : linkOf (linkAsBytes next) = next := by
    obtain ⟨-, -, -, -, hnext, -⟩ := h
    exact linkOf_linkAsBytes fun k hk => by have := hnext k hk; omega
  obtain ⟨rest, hrest⟩ := h.cell_prefix hc
  rw [entryCell, if_pos rfl, List.append_assoc] at hrest
  have hlength := congrArg List.length hrest
  simp only [List.length_append, length_linkAsBytes, length_cellBytesOf, List.length_cons, List.length_nil] at hlength
  refine ⟨e.payload.take 23 ++ rest, ⟨?_, List.prefix_append _ _⟩, ?_⟩
  · rw [List.length_append]
    show ((strokeBytes e.outline ++ e.text).take 23).length + rest.length = 23
    omega
  · rw [← hrest, entryIn_layout, hlink, h.link_eq hsize]
    simp [Held.regs, Nat.mod_eq_of_lt, hstrokes, htext]
    rfl

/-- A continuation cell as a walk reads it. -/
theorem holdsEntry.cont (hsize : d.size ≤ 2 ^ 24) {i c : Nat} (hi : 1 ≤ i) (hc : e.cells[i]? = some c) :
    contLinkIn (cellBytesOf m d.base c) = e.cells[i + 1]? ∧ ∀ bytes, e.Read i bytes →
      e.Read (i + 1) (bytes ++ contPayloadIn (cellBytesOf m d.base c)) := by
  obtain ⟨rest, hrest⟩ := h.cell_prefix hc
  have hplace : 29 * i - 6 = 23 + 29 * (i - 1) := by omega
  rw [entryCell, if_neg (by omega), List.append_assoc, hplace] at hrest
  have hlength := congrArg List.length hrest
  rw [List.length_append, length_linkAsBytes, length_cellBytesOf] at hlength
  rw [← hrest, contLinkIn_layout, contPayloadIn_layout]
  exact ⟨h.link_eq hsize _, fun bytes hread => hread.append hi (by omega) (List.prefix_append _ _)⟩

end

end Sys2Proof.Rules
end

section
/-!
PROOF. The walk of a bucket chain (R39, R40, R44, R47, R48, R64): an entry of another outline is passed in at most two
accesses, the entry of the outline is read whole in one access for each of its cells.
-/

namespace Sys2Proof.Machine

open Sys2Proof Sys2Proof.Rules

/-! ### Accesses one after another -/

/-- In memory `m`, `n` accesses take the walk from `w` to `v`. -/
def leadsTo (m : List Host.Cell) (n : Nat) (w v : Walk) : Prop := ∀ k, walkOn m (n + k) w = walkOn m k v

theorem leadsTo_refl (m : List Host.Cell) (w : Walk) : leadsTo m 0 w w := fun k => by rw [Nat.zero_add]

theorem leadsTo.trans {m : List Host.Cell} {n n' : Nat} {w v u : Walk} (h : leadsTo m n w v)
    (h' : leadsTo m n' v u) : leadsTo m (n + n') w u := fun k => by rw [Nat.add_assoc, h, h']

/-- The next access first. -/
theorem leadsTo.access {m : List Host.Cell} {n c : Nat} {w v : Walk} (haccess : w.access = some c)
    (h : leadsTo m n (w.advance (cellBytesOf m w.base c)) v) : leadsTo m (n + 1) w v := fun k => by
  rw [Nat.add_right_comm, walkOn, haccess]
  exact h k

/-- A walk that has ended makes no further access. -/
theorem walkOn_of_ended {m : List Host.Cell} {w : Walk} (h : w.access = none) : ∀ k, walkOn m k w = w
  | 0 => rfl
  | k + 1 => by rw [walkOn, h]

theorem leadsTo.ends {m : List Host.Cell} {n k : Nat} {w v : Walk} (h : leadsTo m n w v) (hended : v.access = none)
    (hk : n ≤ k) : walkOn m k w = v := by
  obtain ⟨j, rfl⟩ := Nat.exists_eq_add_of_le hk
  rw [h, walkOn_of_ended hended]

/-! ### The walk's moves, case by case (R47, R48) -/

/-- The walk with another entry read. -/
def Walk.withEntry (w : Walk) (r : EntryRegs) : Walk := { w with entry := r }

theorem Walk.follow_of_lt {w : Walk} {c : Nat} (h : c < w.size / 32) : w.follow (some c) = some c :=
  Option.filter_eq_some_iff.mpr ⟨rfl, decide_eq_true h⟩

theorem Walk.phaseAt_of_lt {w : Walk} {c : Nat} (h : c < w.size / 32) : w.phaseAt (some c) = .headCell c := by
  rw [Walk.phaseAt, Walk.follow_of_lt h]

/-- The text of an entry that matches is read whole. -/
theorem Walk.matched_of_whole {w : Walk} (h : 3 * w.entry.strokes + w.entry.textLen ≤ w.entry.payload.length)
    (more : Link) : w.matched more = { w with phase := .found } :=
  if_neg (by simp [h])

/-- More of the text of an entry that matches is wanted. -/
theorem Walk.matched_of_more {w : Walk} {c : Nat} (hwant : w.wantText = true)
    (h : w.entry.payload.length < 3 * w.entry.strokes + w.entry.textLen) (hc : c < w.size / 32) :
    w.matched (some c) = { w with phase := .text c } := by
  rw [Walk.matched, if_pos (by simp [hwant, h]), Walk.follow_of_lt hc]

theorem Walk.compareHead_of_count {w : Walk} (h : w.entry.strokes ≠ w.outline.length) : w.compareHead = w.pass :=
  if_pos h

/-- The outline lies in the head cell. -/
theorem Walk.compareHead_of_short {w : Walk} (h : w.entry.strokes = w.outline.length)
    (hshort : 3 * w.outline.length ≤ 23) : w.compareHead =
      if w.entry.payload.take (3 * w.outline.length) = strokeBytes w.outline then w.matched w.entry.cont
      else w.pass := by
  rw [← length_strokeBytes] at hshort ⊢
  exact (if_neg (not_not.mpr h)).trans (if_pos hshort)

/-- The last byte of the eighth stroke lies in a continuation cell. -/
theorem Walk.compareHead_of_long {w : Walk} {c : Nat} (h : w.entry.strokes = w.outline.length)
    (hlong : 23 < 3 * w.outline.length) (hcont : w.entry.cont = some c) (hc : c < w.size / 32) : w.compareHead =
      if w.entry.payload = (strokeBytes w.outline).take 23 then { w with phase := .eighth c } else w.pass := by
  have hkey : ¬(strokeBytes w.outline).length ≤ 23 := by rw [length_strokeBytes]; omega
  refine (if_neg (not_not.mpr h)).trans ((if_neg hkey).trans ?_)
  rw [hcont, Walk.follow_of_lt hc]

/-- The key's last byte is compared in the first continuation cell. -/
theorem Walk.advance_of_eighth {w : Walk} {c : Nat} (h : w.phase = .eighth c) (bytes : List Byte) :
    w.advance bytes =
      if (w.entry.payload ++ contPayloadIn bytes).take (3 * w.outline.length) = strokeBytes w.outline then
        (w.withEntry { w.entry with payload := w.entry.payload ++ contPayloadIn bytes }).matched (contLinkIn bytes)
      else w.pass := by
  rw [Walk.advance, h, ← length_strokeBytes]
  rfl

/-! ### One entry -/

/-- The walk of a caller that wants the text, in the window of slot `d`. -/
structure Walk.WantsIn (w : Walk) (d : Slot) : Prop where
  base : w.base = d.base
  size : w.size = d.size
  wantText : w.wantText = true

/-- With the whole payload read, a matching entry needs no further access. -/
theorem matched_leadsTo_of_whole {m : List Host.Cell} {e : Held} {next more : Link} {c k : Nat} {w : Walk}
    {bytes : List Byte} (hread : e.Read k bytes)
    (hwhole : 3 * e.outline.length + e.text.length ≤ 23 + 29 * (k - 1)) :
    (e.regs c next bytes).text = e.text ∧ leadsTo m 0 ((w.withEntry (e.regs c next bytes)).matched more)
      { w with entry := e.regs c next bytes, phase := .found } := by
  refine ⟨hread.text c next hwhole, ?_⟩
  rw [Walk.matched_of_whole (hwhole.trans_eq hread.length.symm)]
  exact leadsTo_refl m _

section

variable {m : List Host.Cell} {d : Slot} {e : Held} {next : Link} (h : holdsEntry m d e next)
  (hsize : d.size ≤ 2 ^ 24)
include h hsize

/-- The rest of a matching entry is read in one access for each cell left. -/
theorem matched_leadsTo (c left : Nat) : ∀ {k : Nat} {w : Walk} {bytes : List Byte}, w.WantsIn d → 1 ≤ k →
    e.cells.length ≤ k + left → e.Read k bytes → ∃ n ≤ left, ∃ all, (e.regs c next all).text = e.text ∧
      leadsTo m n ((w.withEntry (e.regs c next bytes)).matched e.cells[k]?)
        { w with entry := e.regs c next all, phase := .found } := by
  obtain ⟨-, -, hcount, -⟩ := id h
  induction left with
  | zero =>
      intro k w bytes hw hk hleft hread
      have := le_of_cellsFor (3 * e.outline.length + e.text.length)
      exact ⟨0, le_rfl, bytes, matched_leadsTo_of_whole hread (by omega)⟩
  | succ left ih =>
      intro k w bytes hw hk hleft hread
      by_cases hwhole : 3 * e.outline.length + e.text.length ≤ 23 + 29 * (k - 1)
      · exact ⟨0, Nat.zero_le _, bytes, matched_leadsTo_of_whole hread hwhole⟩
      · have hk' : k < cellsFor (3 * e.outline.length + e.text.length) := by
          by_contra hlast
          have := le_of_cellsFor (3 * e.outline.length + e.text.length)
          omega
        obtain ⟨c', hc'⟩ := h.exists_cell hk'
        have hlt : c' < w.size / 32 := hw.size ▸ h.cell_lt hc'
        obtain ⟨hlink, hmore⟩ := h.cont hsize hk hc'
        obtain ⟨n, hn, all, htext, hleads⟩ := ih (w := { w with phase := .text c' }) { hw with }
          (Nat.le_add_left 1 k) (by omega) (hmore bytes hread)
        refine ⟨n + 1, by omega, all, htext, ?_⟩
        rw [hc', Walk.matched_of_more (w := w.withEntry (e.regs c next bytes)) hw.wantText
          (hread.length.trans_lt (not_le.mp hwhole)) hlt]
        rw [← hlink, ← hw.base] at hleads
        exact hleads.access rfl

/-- The first continuation cell of an entry whose outline does not fit its head cell. -/
theorem exists_eighth {w : Walk} (hw : w.WantsIn d) (hlong : 23 < 3 * e.outline.length) {bytes : List Byte}
    (hread : e.Read 1 bytes) : ∃ c', e.cells[1]? = some c' ∧ c' < w.size / 32 ∧
      bytes = (strokeBytes e.outline).take 23 ∧ contLinkIn (cellBytesOf m w.base c') = e.cells[2]? ∧
      e.Read 2 (bytes ++ contPayloadIn (cellBytesOf m w.base c')) ∧
      (bytes ++ contPayloadIn (cellBytesOf m w.base c')).take (3 * e.outline.length) = strokeBytes e.outline := by
  obtain ⟨⟨-, hstrokes, -⟩, -⟩ := id h
  have hcount := le_of_cellsFor (3 * e.outline.length + e.text.length)
  obtain ⟨c', hc'⟩ := h.exists_cell (i := 1) (by omega)
  obtain ⟨hlink, hmore⟩ := h.cont hsize le_rfl hc'
  have hhead : bytes = (strokeBytes e.outline).take 23 := by
    rw [← List.take_of_length_le (le_of_eq hread.length), hread.take le_rfl (by rw [e.length_payload]; omega)]
    exact List.take_append_of_le_length (by rw [length_strokeBytes]; omega)
  rw [hw.base]
  exact ⟨c', hc', hw.size ▸ h.cell_lt hc', hhead, hlink, hmore bytes hread,
    (hmore bytes hread).outline (by omega)⟩

/-- From its head cell on, the entry of the outline is read whole. -/
theorem compareHead_finds {w : Walk} {c : Nat} {bytes : List Byte} (hw : w.WantsIn d) (hread : e.Read 1 bytes)
    (hsame : e.outline = w.outline) : ∃ n ≤ e.cells.length - 1, ∃ all, (e.regs c next all).text = e.text ∧
      leadsTo m n (w.withEntry (e.regs c next bytes)).compareHead
        { w with entry := e.regs c next all, phase := .found } := by
  have hcount : e.outline.length = w.outline.length := congrArg List.length hsame
  by_cases hshort : 3 * w.outline.length ≤ 23
  · have hkey : bytes.take (3 * w.outline.length) = strokeBytes w.outline := by
      rw [← hsame]
      exact hread.outline (hcount ▸ hshort)
    have hmatched : (w.withEntry (e.regs c next bytes)).compareHead =
        (w.withEntry (e.regs c next bytes)).matched e.cells[1]? :=
      (Walk.compareHead_of_short (w := w.withEntry (e.regs c next bytes)) hcount hshort).trans (if_pos hkey)
    rw [hmatched]
    exact matched_leadsTo h hsize c _ hw le_rfl (by omega) hread
  · obtain ⟨c', hc', hlt, hhead, hlink, hread', houtline⟩ := exists_eighth h hsize hw (by omega) hread
    have heighth : (w.withEntry (e.regs c next bytes)).compareHead =
        { w.withEntry (e.regs c next bytes) with phase := .eighth c' } :=
      (Walk.compareHead_of_long (w := w.withEntry (e.regs c next bytes)) hcount (not_le.mp hshort) hc' hlt).trans
        (if_pos (hsame ▸ hhead))
    obtain ⟨n, hn, all, htext, hleads⟩ := matched_leadsTo h hsize c (e.cells.length - 2)
      (w := { w with phase := .eighth c' }) { hw with } (Nat.le_add_left 1 1) (by omega) hread'
    have hcells : 2 ≤ e.cells.length := (List.getElem?_eq_some_iff.mp hc').1
    refine ⟨n + 1, by omega, all, htext, ?_⟩
    rw [heighth]
    refine leadsTo.access rfl ?_
    rw [Walk.advance_of_eighth rfl, if_pos (hsame ▸ houtline)]
    rw [← hlink] at hleads
    exact hleads

/-- An entry of another outline is passed. -/
theorem compareHead_passes {w : Walk} {c : Nat} {bytes : List Byte} (hw : w.WantsIn d) (hread : e.Read 1 bytes)
    (hother : e.outline ≠ w.outline) : ∃ n ≤ 1,
      leadsTo m n (w.withEntry (e.regs c next bytes)).compareHead
        { w.withEntry (e.regs c next bytes) with prev := some c, phase := w.phaseAt next } := by
  have hpassed (hpass : (w.withEntry (e.regs c next bytes)).compareHead = (w.withEntry (e.regs c next bytes)).pass) :
      ∃ n ≤ 1, leadsTo m n (w.withEntry (e.regs c next bytes)).compareHead
        { w.withEntry (e.regs c next bytes) with prev := some c, phase := w.phaseAt next } :=
    ⟨0, Nat.zero_le 1, hpass ▸ leadsTo_refl m _⟩
  have hkey : strokeBytes e.outline ≠ strokeBytes w.outline := mt strokeBytes_injective hother
  by_cases hcount : e.outline.length = w.outline.length
  · by_cases hshort : 3 * w.outline.length ≤ 23
    · refine hpassed ((Walk.compareHead_of_short (w := w.withEntry (e.regs c next bytes)) hcount hshort).trans
        (if_neg ?_))
      have houtline : bytes.take (3 * w.outline.length) = strokeBytes e.outline := by
        rw [← hcount]
        exact hread.outline (by omega)
      exact houtline ▸ hkey
    · obtain ⟨c', hc', hlt, -, -, -, houtline⟩ := exists_eighth h hsize hw (by omega) hread
      have hlong := Walk.compareHead_of_long (w := w.withEntry (e.regs c next bytes)) hcount (not_le.mp hshort) hc' hlt
      by_cases hhead : bytes = (strokeBytes w.outline).take 23
      · refine ⟨1, le_rfl, ?_⟩
        rw [hlong.trans (if_pos hhead)]
        refine leadsTo.access rfl ?_
        rw [hcount] at houtline
        rw [Walk.advance_of_eighth rfl, if_neg (houtline ▸ hkey)]
        exact leadsTo_refl m _
      · exact hpassed (hlong.trans (if_neg hhead))
  · exact hpassed (Walk.compareHead_of_count (w := w.withEntry (e.regs c next bytes)) hcount)

/-- The head cell that the walk reads next. -/
theorem advance_of_headCell {w : Walk} {c : Nat} (hw : w.WantsIn d) (hc : e.cells[0]? = some c)
    (hphase : w.phase = .headCell c) : ∃ bytes, e.Read 1 bytes ∧ w.access = some c ∧
      w.advance (cellBytesOf m w.base c) =
        (Walk.withEntry { w with seen := w.seen + 1 } (e.regs c next bytes)).compareHead := by
  obtain ⟨bytes, hread, hentry⟩ := h.head hsize hc
  refine ⟨bytes, hread, by rw [Walk.access, hphase], ?_⟩
  rw [Walk.advance, hphase, hw.base, ← hentry]
  rfl

/-- An entry of the outline is found, its text read whole (R47, R48). -/
theorem headCell_finds {w : Walk} {c : Nat} (hw : w.WantsIn d) (hc : e.cells[0]? = some c)
    (hphase : w.phase = .headCell c) (hsame : e.outline = w.outline) : ∃ n ≤ 7, ∃ r, r.flags = e.flags ∧
      r.text = e.text ∧ r.cell = c ∧ leadsTo m n w { w with seen := w.seen + 1, entry := r, phase := .found } := by
  obtain ⟨bytes, hread, haccess, hadvance⟩ := advance_of_headCell h hsize hw hc hphase
  obtain ⟨n, hn, all, htext, hleads⟩ := compareHead_finds h hsize (w := { w with seen := w.seen + 1 }) (c := c)
    { hw with } hread hsame
  obtain ⟨-, -, hcount, -⟩ := id h
  have hcells := cellsFor_le_seven h.size_le
  exact ⟨n + 1, by omega, e.regs c next all, rfl, htext, rfl, leadsTo.access haccess (hadvance ▸ hleads)⟩

/-- An entry of another outline is passed (R47). -/
theorem headCell_passes {w : Walk} {c : Nat} (hw : w.WantsIn d) (hc : e.cells[0]? = some c)
    (hphase : w.phase = .headCell c) (hother : e.outline ≠ w.outline) : ∃ n ≤ 2, ∃ r, leadsTo m n w
      { w with seen := w.seen + 1, entry := r, prev := some c, phase := w.phaseAt next } := by
  obtain ⟨bytes, hread, haccess, hadvance⟩ := advance_of_headCell h hsize hw hc hphase
  obtain ⟨n, hn, hleads⟩ := compareHead_passes h hsize (w := { w with seen := w.seen + 1 }) (c := c)
    { hw with } hread hother
  exact ⟨n + 1, by omega, e.regs c next bytes, leadsTo.access haccess (hadvance ▸ hleads)⟩

end

/-! ### A bucket chain (R44, R47) -/

/-- The walk of a bucket whose chain begins at `head`, as it comes to link `l` of the chain. -/
def Walk.arrived (d : Slot) (outline : List Stroke) (head l prev : Link) (seen : Nat) (r : EntryRegs) : Walk :=
  { Walk.start d outline true with
    bucketLink := head
    phase := (Walk.start d outline true).phaseAt l
    prev := prev
    seen := seen
    entry := r }

theorem Walk.arrived_wantsIn (d : Slot) (outline : List Stroke) (head l prev : Link) (seen : Nat) (r : EntryRegs) :
    (Walk.arrived d outline head l prev seen r).WantsIn d := ⟨rfl, rfl, rfl⟩

theorem Walk.phase_arrived {d : Slot} {outline : List Stroke} {head l prev : Link} {seen c : Nat} {r : EntryRegs}
    (hc : c < d.size / 32) (hl : l = some c) : (Walk.arrived d outline head l prev seen r).phase = .headCell c := by
  rw [hl]
  exact Walk.phaseAt_of_lt hc

theorem advance_start (d : Slot) (outline : List Stroke) (bytes : List Byte) :
    (Walk.start d outline true).advance bytes =
      Walk.arrived d outline (bucketHeadIn bytes (bucketOf d.buckets outline))
        (bucketHeadIn bytes (bucketOf d.buckets outline)) none 0 EntryRegs.blank := rfl

/-- The link of a bucket head, read from its directory cell (R183). -/
theorem bucketHeadIn_eq {m : List Host.Cell} {base bucket : Nat} {head : Link}
    (h : ∀ i (hi : i < 3), readByte m (base + 4 * bucket + 1 + i) = (linkAsBytes head)[i]'hi) :
    bucketHeadIn (cellBytesOf m base (directoryCell bucket)) bucket = linkOf (linkAsBytes head) := by
  refine congrArg linkOf (List.ext_getElem ?_ fun i _ hi => ?_)
  · rw [List.length_take, List.length_drop, length_cellBytesOf, length_linkAsBytes, directoryByte]
    omega
  · rw [← h i hi]
    simp only [cellBytesOf, List.getElem_take, List.getElem_drop, List.getElem_map, List.getElem_range,
      directoryCell, directoryByte]
    congr 1
    omega

section

variable {m : List Host.Cell} {d : Slot} {outline : List Stroke} {head : Link}

/-- The first access of a walk reads the bucket head. -/
theorem start_leadsTo (hhead : linkOf (linkAsBytes head) = head)
    (hbytes : ∀ i (hi : i < 3), readByte m (d.base + 4 * bucketOf d.buckets outline + 1 + i) =
      (linkAsBytes head)[i]'hi) :
    leadsTo m 1 (Walk.start d outline true) (Walk.arrived d outline head head none 0 EntryRegs.blank) := by
  have hadvance : (Walk.start d outline true).advance
      (cellBytesOf m d.base (directoryCell (bucketOf d.buckets outline))) =
        Walk.arrived d outline head head none 0 EntryRegs.blank := by
    rw [advance_start, bucketHeadIn_eq hbytes, hhead]
  exact leadsTo.access (n := 0) rfl (hadvance ▸ leadsTo_refl m _)

/-- Entries of other outlines at the front of the chain are passed in at most two accesses each. -/
theorem chain_leadsTo (hsize : d.size ≤ 2 ^ 24) (before : List Held) : ∀ {tail : List Held},
    holdsChain m d head (before ++ tail) → (∀ x ∈ before, x.outline ≠ outline) →
    ∃ n ≤ 2 * before.length, ∃ l r, holdsChain m d l tail ∧
      leadsTo m n (Walk.arrived d outline head head none 0 EntryRegs.blank)
        (Walk.arrived d outline head l (before.getLast?.bind fun x => x.cells[0]?) before.length r) := by
  induction before using List.reverseRecOn with
  | nil => exact fun hchain _ => ⟨0, le_rfl, head, _, hchain, leadsTo_refl m _⟩
  | append_singleton before x ih =>
      intro tail hchain hother
      rw [List.append_assoc] at hchain
      obtain ⟨n, hn, l, r, ⟨rfl, next, hx, hchain⟩, hleads⟩ := ih hchain fun y hy => hother y (by simp [hy])
      obtain ⟨c, hc⟩ := hx.exists_cell (i := 0) (cellsFor_pos _)
      have hlast : ((before ++ [x]).getLast?.bind fun x => x.cells[0]?) = some c := by simp [hc]
      obtain ⟨n', hn', r', hleads'⟩ := headCell_passes hx hsize
        (Walk.arrived_wantsIn d outline head x.cells[0]? (before.getLast?.bind fun x => x.cells[0]?) before.length r)
        hc (Walk.phase_arrived (hx.cell_lt hc) hc) (hother x (by simp))
      rw [hlast, List.length_append, List.length_singleton]
      exact ⟨n + n', by omega, next, r', hchain, hleads.trans hleads'⟩

end

end Sys2Proof.Machine

section

open Sys2Proof Sys2Proof.Machine Sys2Proof.Rules

/-- Settles O18: the hash, the bucket and the cell count; then the chain, up to its end or to the outline's entry. -/
theorem walkFindsTheOutlineInItsChain : Obligations.WalkFindsTheOutlineInItsChain := by
  unfold Obligations.WalkFindsTheOutlineInItsChain
  refine ⟨⟨rfl, fun outline v => List.foldl_append .., fun v hv => Nat.mod_eq_of_lt (by omega), fun b outline hb =>
    ⟨bucketOf_lt hb outline, rfl⟩, fun size => ⟨cellsFor_pos size, le_of_cellsFor size, fun c => cellsFor_least,
    cellsFor_le_seven⟩⟩, ?_⟩
  intro m d outline chain head _ hlength hsize hhead hbytes hchain w
  have hlink : linkOf (linkAsBytes head) = head := linkOf_linkAsBytes fun c hc => by have := hhead c hc; omega
  have hstart := start_leadsTo hlink hbytes
  refine ⟨fun hother => ?_, fun before e after hsplit hbefore hsame => ?_⟩
  · obtain ⟨n, hn, l, r, rfl, hleads⟩ := chain_leadsTo hsize chain (tail := []) (by rwa [List.append_nil]) hother
    have hw := (hstart.trans hleads).ends (k := 70) rfl (by omega)
    exact ⟨congrArg Walk.phase hw, congrArg Walk.seen hw⟩
  · subst hsplit
    rw [List.length_append, List.length_cons] at hlength
    obtain ⟨n, hn, l, r, ⟨rfl, next, he, -⟩, hleads⟩ := chain_leadsTo hsize before hchain hbefore
    obtain ⟨c, hc⟩ := he.exists_cell (i := 0) (cellsFor_pos _)
    obtain ⟨n', hn', r', hflags, htext, hcell, hleads'⟩ := headCell_finds he hsize
      (Walk.arrived_wantsIn d outline head e.cells[0]? (before.getLast?.bind fun x => x.cells[0]?) before.length r)
      hc (Walk.phase_arrived (he.cell_lt hc) hc) hsame
    have hw := ((hstart.trans hleads).trans hleads').ends (k := 70) rfl (by omega)
    refine ⟨congrArg Walk.phase hw, congrArg Walk.seen hw, ?_, ?_, ?_, congrArg Walk.prev hw⟩
    · exact (congrArg (fun v => v.entry.flags) hw).trans hflags
    · exact (congrArg (fun v => v.entry.text) hw).trans htext
    · rw [hc]
      exact congrArg some ((congrArg (fun v => v.entry.cell) hw).trans hcell)

end
end

section
/-!
SUPPORT. The gates' invariant gate by gate (R63, R65): what a gate's holder and waiting list say of the probes and
the upkeep operation of its slot, and what a change in one slot asks of the other gates.
-/

namespace Sys2Proof.Machine

open Sys2Proof Sys2Proof.Rules

/-! ### One gate and its claims -/

/-- The probe on a tag walks in slot `n`. -/
def walksIn (s : State) (n : SlotNo) (tag : Fin 32) : Prop :=
  ∃ p ∈ s.mp.probes, p.tag = tag ∧ p.slot = n ∧ p.walk.isSome = true

/-- The probe on a tag waits into slot `n`. -/
def waitsInto (s : State) (n : SlotNo) (tag : Fin 32) : Prop :=
  ∃ p ∈ s.mp.probes, p.tag = tag ∧ p.slot = n ∧ p.walk = none

/-- The upkeep operation is one in slot `n`. -/
def operatesIn (s : State) (n : SlotNo) : Prop := ∃ op, s.mp.upkeep = some op ∧ op.slot = n

/-- A gate's holder and waiting list are the probes that walk, the probes that wait and the upkeep operation where
there is one, each once. -/
structure gateTrue (walks waits : Fin 32 → Prop) (operates : Prop) (g : Gate) : Prop where
  once : g.waiting.Nodup
  taken : ∀ tag, g.holder = some (.probe tag) ↔ walks tag
  waiting : ∀ tag, .probe tag ∈ g.waiting ↔ waits tag
  upkeep : (g.holder = some .upkeep ∨ .upkeep ∈ g.waiting) ↔ operates
  notBoth : g.holder = some .upkeep → .upkeep ∉ g.waiting

namespace gateTrue

variable {walks walks' waits waits' : Fin 32 → Prop} {operates operates' : Prop} {holder : Option Claim}
  {claims : List Claim} {tag : Fin 32} {g : Gate}

theorem congr (h : gateTrue walks waits operates g) (hwalks : ∀ tag, walks' tag ↔ walks tag)
    (hwaits : ∀ tag, waits' tag ↔ waits tag) (hoperates : operates' ↔ operates) :
    gateTrue walks' waits' operates' g where
  once := h.once
  taken := fun tag => (h.taken tag).trans (hwalks tag).symm
  waiting := fun tag => (h.waiting tag).trans (hwaits tag).symm
  upkeep := h.upkeep.trans hoperates.symm
  notBoth := h.notBoth

/-- The oldest claim is a probe's and is taken. -/
theorem takes_probe (h : gateTrue walks waits operates ⟨none, .probe tag :: claims⟩) :
    gateTrue (· = tag) (fun t => waits t ∧ t ≠ tag) operates ⟨some (.probe tag), claims⟩ := by
  obtain ⟨hnot, honce⟩ := List.nodup_cons.mp h.once
  refine ⟨honce, fun t => ?_, fun t => ?_, ?_, nofun⟩
  · simp [eq_comm]
  · have hwaiting := h.waiting t
    simp only [List.mem_cons, Claim.probe.injEq] at hwaiting
    rw [← hwaiting]
    exact ⟨fun ht => ⟨.inr ht, fun he => hnot (he ▸ ht)⟩, fun ⟨ht, hne⟩ => ht.resolve_left hne⟩
  · simpa using h.upkeep

/-- The oldest claim is the upkeep operation's and is taken. -/
theorem takes_upkeep (h : gateTrue walks waits operates ⟨none, .upkeep :: claims⟩) :
    gateTrue walks waits operates ⟨some .upkeep, claims⟩ := by
  obtain ⟨hnot, honce⟩ := List.nodup_cons.mp h.once
  refine ⟨honce, fun t => ?_, fun t => ?_, ?_, fun _ => hnot⟩
  · simpa using h.taken t
  · simpa using h.waiting t
  · simpa using h.upkeep

/-- The upkeep operation's claim, taken or waiting, is removed. -/
theorem drops_upkeep (h : gateTrue walks waits operates g) :
    gateTrue walks waits False
      { holder := if g.holder = some .upkeep then none else g.holder
        waiting := g.waiting.filter fun c => c != .upkeep } := by
  refine ⟨h.once.filter _, fun t => ?_, fun t => ?_, ?_, ?_⟩
  · rw [← h.taken t]
    dsimp only
    split
    · next hupkeep => simp [hupkeep]
    · exact Iff.rfl
  · simpa using h.waiting t
  · simp
  · simp

/-- With no operation left, the gate's list holds no upkeep claim to be removed. -/
theorem of_not_operates (h : gateTrue walks waits operates g) (hoperates : ¬operates) :
    g.holder ≠ some .upkeep ∧ .upkeep ∉ g.waiting := not_or.mp (mt h.upkeep.mp hoperates)

/-- The probe that holds the gate ends. -/
theorem drops_probe (h : gateTrue walks waits operates ⟨some (.probe tag), claims⟩) :
    gateTrue (fun _ => False) waits operates ⟨none, claims⟩ :=
  ⟨h.once, fun _ => by simp, h.waiting, by simpa using h.upkeep, nofun⟩

/-- The operation that holds the gate ends. -/
theorem drops_holder (h : gateTrue walks waits operates ⟨some .upkeep, claims⟩) :
    gateTrue walks waits False ⟨none, claims⟩ :=
  ⟨h.once, fun t => by simpa using h.taken t, h.waiting, by simpa using h.notBoth rfl, nofun⟩

/-- A new probe's claim arrives. -/
theorem adds_probe (h : gateTrue walks waits operates ⟨holder, claims⟩) (hnew : ¬waits tag) :
    gateTrue walks (fun t => waits t ∨ t = tag) operates ⟨holder, claims ++ [.probe tag]⟩ := by
  have hout : .probe tag ∉ claims := mt (h.waiting tag).mp hnew
  refine ⟨?_, h.taken, fun t => ?_, by simpa using h.upkeep, by simpa using h.notBoth⟩
  · exact (List.nodup_append_comm.mp (List.nodup_cons.mpr ⟨hout, h.once⟩))
  · rw [List.mem_append, List.mem_singleton, Claim.probe.injEq]
    exact or_congr (h.waiting t) Iff.rfl

/-- A new operation's claim arrives. -/
theorem adds_upkeep (h : gateTrue walks waits operates ⟨holder, claims⟩) (hnew : ¬operates) :
    gateTrue walks waits True ⟨holder, claims ++ [.upkeep]⟩ := by
  obtain ⟨hholder, hout⟩ := h.of_not_operates hnew
  refine ⟨?_, h.taken, fun t => by simpa using h.waiting t, by simp, fun hh => absurd hh hholder⟩
  exact (List.nodup_append_comm.mp (List.nodup_cons.mpr ⟨hout, h.once⟩))

/-- Waiting probes are withdrawn. -/
theorem withdraws (h : gateTrue walks waits operates ⟨holder, claims⟩) (tags : List (Fin 32)) :
    gateTrue walks (fun t => waits t ∧ t ∉ tags) operates ⟨holder, claims.filter (Claim.notOn tags)⟩ := by
  refine ⟨h.once.filter _, h.taken, fun t => ?_, ?_, fun hholder => ?_⟩
  · rw [List.mem_filter, ← h.waiting t]
    simp [Claim.notOn]
  · rw [← h.upkeep]
    simp [List.mem_filter, Claim.notOn]
  · exact fun hclaim => h.notBoth hholder (List.mem_of_mem_filter hclaim)

end gateTrue

/-! ### All gates -/

/-- Gate `g` would be true to the claims there are in slot `n`. -/
def gateFits (s : State) (n : SlotNo) (g : Gate) : Prop :=
  gateTrue (walksIn s n) (waitsInto s n) (operatesIn s n) g

theorem gateFits_of_inOrder {s : State} (h : gatesInOrder s) (n : SlotNo) : gateFits s n (s.gate n) :=
  ⟨h.once n, h.taken n, h.waiting n, h.upkeep n, h.notBoth n⟩

theorem gatesInOrder_of_fits {s : State} (htags : (s.mp.probes.map (·.tag)).Nodup) (hserved : ∀ n, gateServed s n)
    (hfits : ∀ n, gateFits s n (s.gate n)) : gatesInOrder s where
  tags := htags
  served := hserved
  once := fun n => (hfits n).once
  taken := fun n => (hfits n).taken
  waiting := fun n => (hfits n).waiting
  upkeep := fun n => (hfits n).upkeep
  notBoth := fun n => (hfits n).notBoth

/-- Every gate but that of slot `n` is in order. -/
structure othersInOrder (n : SlotNo) (s : State) : Prop where
  tags : (s.mp.probes.map (·.tag)).Nodup
  served : ∀ m, m ≠ n → gateServed s m
  fits : ∀ m, m ≠ n → gateFits s m (s.gate m)

theorem othersInOrder_of_inOrder {s : State} (h : gatesInOrder s) (n : SlotNo) : othersInOrder n s :=
  ⟨h.tags, fun m _ => h.served m, fun m _ => gateFits_of_inOrder h m⟩

/-- From `s` to `t` only the gate, the probes and the operation of slot `n` have changed. -/
structure OnlyAt (n : SlotNo) (s t : State) : Prop where
  gate : ∀ m, m ≠ n → t.gate m = s.gate m
  probe : ∀ q : Probe, q.slot ≠ n → (q ∈ t.mp.probes ↔ q ∈ s.mp.probes)
  upkeep : ∀ op : UpkeepOp, op.slot ≠ n → (t.mp.upkeep = some op ↔ s.mp.upkeep = some op)

theorem othersInOrder.of_onlyAt {n : SlotNo} {s t : State} (h : othersInOrder n s) (ht : OnlyAt n s t)
    (htags : (t.mp.probes.map (·.tag)).Nodup) : othersInOrder n t where
  tags := htags
  served := fun m hm => by unfold gateServed; rw [ht.gate m hm]; exact h.served m hm
  fits := fun m hm => by
    rw [ht.gate m hm]
    have hprobe (P : Probe → Prop) : (∃ p ∈ t.mp.probes, p.slot = m ∧ P p) ↔ ∃ p ∈ s.mp.probes, p.slot = m ∧ P p :=
      exists_congr fun p => ⟨fun ⟨hp, hslot, hP⟩ => ⟨(ht.probe p (hslot ▸ hm)).mp hp, hslot, hP⟩,
        fun ⟨hp, hslot, hP⟩ => ⟨(ht.probe p (hslot ▸ hm)).mpr hp, hslot, hP⟩⟩
    refine (h.fits m hm).congr (fun tag => ?_) (fun tag => ?_) ?_
    · simpa only [walksIn, and_left_comm] using hprobe fun p => p.tag = tag ∧ p.walk.isSome = true
    · simpa only [waitsInto, and_left_comm] using hprobe fun p => p.tag = tag ∧ p.walk = none
    · exact exists_congr fun op => ⟨fun ⟨hop, hslot⟩ => ⟨(ht.upkeep op (hslot ▸ hm)).mp hop, hslot⟩,
        fun ⟨hop, hslot⟩ => ⟨(ht.upkeep op (hslot ▸ hm)).mpr hop, hslot⟩⟩

/-- The gate of slot `n` is written as its claims ask, the others being in order. -/
theorem withGate_gates {s : State} {n : SlotNo} {g : Gate} (h : othersInOrder n s)
    (hserved : g.holder = none → g.waiting = []) (hfits : gateFits s n g) : gatesInOrder (s.withGate n g) := by
  have hgate (m : SlotNo) (hm : m ≠ n) : (s.withGate n g).gate m = s.gate m := by
    rw [State.gate_withGate, if_neg (Ne.symm hm)]
  refine gatesInOrder_of_fits h.tags (fun m => ?_) fun m => ?_
  · by_cases hm : m = n
    · subst hm
      unfold gateServed
      rw [State.gate_withGate_self]
      exact hserved
    · unfold gateServed
      rw [hgate m hm]
      exact h.served m hm
  · by_cases hm : m = n
    · subst hm
      rw [State.gate_withGate_self]
      exact hfits
    · rw [hgate m hm]
      exact h.fits m hm

/-! ### The taking of claims -/

/-- The probe that a tag in slot `n` belongs to is in no other slot. -/
theorem slot_eq_of_tag {s : State} (htags : (s.mp.probes.map (·.tag)).Nodup) {n : SlotNo} {p q : Probe}
    (hp : p ∈ s.mp.probes) (hq : q ∈ s.mp.probes) (htag : q.tag = p.tag) (hslot : p.slot = n) : q.slot = n := by
  rw [List.inj_on_of_nodup_map htags hq hp htag, hslot]

/-- The probe on the tag has its walk begun, the others are as they were. -/
theorem mem_takeProbe {s : State} {n : SlotNo} {tag : Fin 32} {q : Probe} :
    q ∈ (s.takeProbe n tag).mp.probes ↔ ∃ p ∈ s.mp.probes,
      (p.tag = tag ∧ q = { p with walk := some (Walk.start (s.slot n) p.outline true) }) ∨ (p.tag ≠ tag ∧ q = p) := by
  refine List.mem_map.trans (exists_congr fun p => and_congr_right fun _ => ?_)
  split
  · next htag => simp [htag, eq_comm]
  · next htag => simp [htag, eq_comm]

theorem takeProbe_tags (s : State) (n : SlotNo) (tag : Fin 32) :
    (s.takeProbe n tag).mp.probes.map (·.tag) = s.mp.probes.map (·.tag) := by
  simp only [State.takeProbe, State.withMp_mp, List.map_map]
  refine List.map_congr_left fun p _ => ?_
  simp only [Function.comp_apply]
  split <;> rfl

theorem takeProbe_onlyAt {s : State} {n : SlotNo} {tag : Fin 32} (htags : (s.mp.probes.map (·.tag)).Nodup)
    (htag : waitsInto s n tag) : OnlyAt n s (s.takeProbe n tag) := by
  obtain ⟨p, hp, hptag, hslot, -⟩ := htag
  have hother {q : Probe} (hq : q ∈ s.mp.probes) (hqtag : q.tag = tag) : q.slot = n :=
    slot_eq_of_tag htags hp hq (hqtag.trans hptag.symm) hslot
  refine ⟨fun m _ => rfl, fun q hq => mem_takeProbe.trans ⟨?_, fun hmem => ?_⟩, fun op _ => Iff.rfl⟩
  · rintro ⟨r, hr, ⟨hrtag, rfl⟩ | ⟨-, rfl⟩⟩
    · exact absurd (hother hr hrtag) hq
    · exact hr
  · exact ⟨q, hmem, .inr ⟨fun hqtag => hq (hother hmem hqtag), rfl⟩⟩

theorem takeProbe_walksIn {s : State} {n : SlotNo} {tag : Fin 32} (htag : waitsInto s n tag) (t : Fin 32) :
    walksIn (s.takeProbe n tag) n t ↔ walksIn s n t ∨ t = tag := by
  constructor
  · rintro ⟨q, hq, rfl, hslot, hwalk⟩
    obtain ⟨r, hr, ⟨hrtag, rfl⟩ | ⟨-, rfl⟩⟩ := mem_takeProbe.mp hq
    · exact .inr hrtag
    · exact .inl ⟨q, hr, rfl, hslot, hwalk⟩
  · intro h
    by_cases htt : t = tag
    · obtain ⟨p, hp, hptag, hslot, -⟩ := htag
      exact ⟨_, mem_takeProbe.mpr ⟨p, hp, .inl ⟨hptag, rfl⟩⟩, hptag.trans htt.symm, hslot, rfl⟩
    · obtain ⟨q, hq, rfl, hslot, hwalk⟩ := h.resolve_right htt
      exact ⟨q, mem_takeProbe.mpr ⟨q, hq, .inr ⟨htt, rfl⟩⟩, rfl, hslot, hwalk⟩

theorem takeProbe_waitsInto {s : State} {n : SlotNo} {tag : Fin 32} (t : Fin 32) :
    waitsInto (s.takeProbe n tag) n t ↔ waitsInto s n t ∧ t ≠ tag := by
  constructor
  · rintro ⟨q, hq, rfl, hslot, hwalk⟩
    obtain ⟨r, hr, ⟨-, rfl⟩ | ⟨hrtag, rfl⟩⟩ := mem_takeProbe.mp hq
    · cases hwalk
    · exact ⟨⟨q, hr, rfl, hslot, hwalk⟩, hrtag⟩
  · rintro ⟨⟨q, hq, rfl, hslot, hwalk⟩, hne⟩
    exact ⟨q, mem_takeProbe.mpr ⟨q, hq, .inr ⟨hne, rfl⟩⟩, rfl, hslot, hwalk⟩

theorem finishRelease_probes (s : State) (n : SlotNo) : (s.finishRelease n).mp.probes = s.mp.probes := by
  simp [State.finishRelease]

/-- The claims that stand at a gate without a holder are taken, the other gates being in order. -/
theorem takeClaims_gates {n : SlotNo} : ∀ {c : List Claim} {s : State}, othersInOrder n s → gateFits s n ⟨none, c⟩ →
    gatesInOrder (takeClaims n c s)
  | [], s, h, hfits => withGate_gates h (fun _ => rfl) hfits
  | .probe tag :: rest, s, h, hfits => by
      have htag : waitsInto s n tag := (hfits.waiting tag).mp List.mem_cons_self
      have hothers : othersInOrder n (s.takeProbe n tag) :=
        h.of_onlyAt (takeProbe_onlyAt h.tags htag) (by rw [takeProbe_tags]; exact h.tags)
      have hnone (t : Fin 32) : ¬walksIn s n t := fun hwalks => nomatch (hfits.taken t).mpr hwalks
      exact withGate_gates (g := ⟨some (.probe tag), rest⟩) hothers nofun (hfits.takes_probe.congr
        (fun t => (takeProbe_walksIn htag t).trans (or_iff_right (hnone t)))
        takeProbe_waitsInto Iff.rfl)
  | .upkeep :: rest, s, h, hfits => by
      unfold takeClaims
      split
      · next m hop =>
        obtain ⟨op, hop', hslot⟩ : operatesIn s n := hfits.upkeep.mp (.inr List.mem_cons_self)
        have hprobes := finishRelease_probes s n
        have hidle : (s.finishRelease n).mp.upkeep = none := finishRelease_upkeep s n
        have honly : OnlyAt n s (s.finishRelease n) :=
          ⟨fun m _ => finishRelease_gate s n m, fun q _ => by rw [hprobes], fun o ho => by
            rw [hidle, hop']
            exact iff_of_false nofun fun he => ho (Option.some.inj he ▸ hslot)⟩
        have hdropped := hfits.takes_upkeep.drops_holder
        refine takeClaims_gates (h.of_onlyAt honly (by rw [hprobes]; exact h.tags)) (hdropped.congr (fun t => ?_)
          (fun t => ?_) (iff_false_intro ?_))
        · unfold walksIn; rw [hprobes]
        · unfold waitsInto; rw [hprobes]
        · rintro ⟨o, ho, -⟩
          cases hidle.symm.trans ho
      · exact withGate_gates h nofun hfits.takes_upkeep

/-- A gate whose holder has gone is served. -/
theorem serveGate_gates {s : State} {n : SlotNo} (h : othersInOrder n s) (hfits : gateFits s n (s.gate n)) :
    gatesInOrder (s.serveGate n) := by
  cases hholder : (s.gate n).holder with
  | some c =>
      rw [serveGate_of_held hholder]
      refine gatesInOrder_of_fits h.tags (fun m => ?_) fun m => ?_
      · by_cases hm : m = n
        · subst hm
          exact fun hnone => by cases hholder.symm.trans hnone
        · exact h.served m hm
      · by_cases hm : m = n
        · exact hm ▸ hfits
        · exact h.fits m hm
  | none =>
      rw [serveGate_of_free hholder]
      refine takeClaims_gates h ?_
      rw [← hholder]
      exact hfits

theorem withGate_onlyAt (s : State) (n : SlotNo) (g : Gate) : OnlyAt n s (s.withGate n g) :=
  ⟨fun m hm => by rw [State.gate_withGate, if_neg (Ne.symm hm)], fun _ _ => Iff.rfl, fun _ _ => Iff.rfl⟩

/-- A gate is written and served. -/
theorem withGate_serveGate_gates {s : State} {n : SlotNo} {g : Gate} (h : othersInOrder n s) (hfits : gateFits s n g) :
    gatesInOrder ((s.withGate n g).serveGate n) :=
  serveGate_gates (h.of_onlyAt (withGate_onlyAt s n g) h.tags) (by rw [State.gate_withGate_self]; exact hfits)

end Sys2Proof.Machine
end

section
/-!
SUPPORT. The operations that give claims to the gates or take them away (R26, R58, R62 to R68, R72): each leaves the
gates true to their claims.
-/

namespace Sys2Proof.Machine

open Sys2Proof Sys2Proof.Rules

/-! ### Claims that are left alone -/

/-- The gates stay in order where gates and operation's slot stay and the probes differ in what their walks have read
alone. -/
theorem gatesInOrder_of_sameClaims {s t : State} (h : gatesInOrder s) (hgate : t.mp.gates = s.mp.gates)
    (htags : t.mp.probes.map (·.tag) = s.mp.probes.map (·.tag)) (hwalks : ∀ n tag, walksIn t n tag ↔ walksIn s n tag)
    (hwaits : ∀ n tag, waitsInto t n tag ↔ waitsInto s n tag) (hupkeep : ∀ n, operatesIn t n ↔ operatesIn s n) :
    gatesInOrder t := by
  have hgates (n : SlotNo) : t.gate n = s.gate n := congrArg (fun gates : Vector Gate 4 => gates[n]) hgate
  refine gatesInOrder_of_fits (htags ▸ h.tags) (fun n => ?_) fun n => ?_
  · unfold gateServed
    rw [hgates]
    exact h.served n
  · rw [hgates]
    exact (gateFits_of_inOrder h n).congr (hwalks n) (hwaits n) (hupkeep n)

theorem grantLookup_gates {s : State} (h : gatesInOrder s) (n : SlotNo) (c : Nat) :
    gatesInOrder (s.grantLookup n c) := by
  have hread (P : Probe → Prop)
      (hP : ∀ p w, P { p with walk := p.walk.map w } ↔ P p) :
      (∃ q ∈ (s.grantLookup n c).mp.probes, P q) ↔ ∃ p ∈ s.mp.probes, P p := by
    simp only [State.grantLookup, State.withMp_mp, List.mem_map, exists_exists_and_eq_and]
    refine exists_congr fun p => and_congr_right fun _ => ?_
    split
    · exact hP p _
    · exact Iff.rfl
  refine gatesInOrder_of_sameClaims h rfl ?_ (fun m tag => hread _ fun p w => by simp)
    (fun m tag => hread _ fun p w => by simp) fun m => Iff.rfl
  simp only [State.grantLookup, State.withMp_mp, List.map_map]
  refine List.map_congr_left fun p _ => ?_
  simp only [Function.comp_apply]
  split <;> rfl

/-- An access leaves the operation in its slot. -/
theorem UpkeepOp.perform_slot (op : UpkeepOp) (d : Slot) (m : List Host.Cell) (c : Nat) :
    (op.perform d m c).1.slot = op.slot := by
  cases op with
  | entry e => exact (EntryOp.perform_keeps e d m c).1
  | format n k => rfl
  | release n => rfl

theorem grantUpkeep_gates {s : State} {op : UpkeepOp} (h : gatesInOrder s) (hop : s.mp.upkeep = some op) (c : Nat) :
    gatesInOrder (s.grantUpkeep op c) := by
  have hslot (n : SlotNo) : operatesIn (s.grantUpkeep op c) n ↔ op.slot = n := by
    rw [← UpkeepOp.perform_slot op (s.slot op.slot) s.sdram c]
    exact ⟨fun ⟨o, ho, hn⟩ => Option.some.inj ho ▸ hn, fun hn => ⟨_, rfl, hn⟩⟩
  refine gatesInOrder_of_sameClaims h rfl rfl (fun _ _ => Iff.rfl) (fun _ _ => Iff.rfl) fun n => (hslot n).trans ?_
  exact ⟨fun hn => ⟨op, hop, hn⟩, fun ⟨o, ho, hn⟩ => Option.some.inj (hop.symm.trans ho) ▸ hn⟩

/-! ### Probes withdrawn (R68, R72) -/

/-- A probe left after a withdrawal: one on another tag as it was, or one that walks, marked. -/
theorem mem_withdraw {m : Mp} {tags : List (Fin 32)} {q : Probe} : q ∈ (m.withdraw tags).probes ↔ ∃ p ∈ m.probes,
    (p.tag ∉ tags ∧ q = p) ∨ (p.tag ∈ tags ∧ p.walk.isSome = true ∧ q = { p with withdrawn := true }) := by
  refine List.mem_filterMap.trans (exists_congr fun p => and_congr_right fun _ => ?_)
  by_cases htag : p.tag ∈ tags
  · rw [if_pos (List.contains_iff_mem.mpr htag), Option.ite_none_right_eq_some, Option.some.injEq]
    simpa [htag] using fun _ => eq_comm
  · simpa [htag] using eq_comm

theorem withdraw_tags (m : Mp) (tags : List (Fin 32)) :
    ((m.withdraw tags).probes.map (·.tag)).Sublist (m.probes.map (·.tag)) := by
  have hkeep (p q : Probe) (h : (if tags.contains p.tag then
      (if p.walk.isSome then some { p with withdrawn := true } else none) else some p) = some q) : q.tag = p.tag := by
    split at h
    · split at h <;> cases h
      rfl
    · cases h; rfl
  change ((m.probes.filterMap _).map _).Sublist _
  induction m.probes with
  | nil => exact List.Sublist.slnil
  | cons p l ih =>
      rw [List.filterMap_cons]
      split
      · exact ih.cons _
      · next q hq =>
        rw [List.map_cons, List.map_cons, hkeep p q hq]
        exact ih.cons_cons _

theorem withdraw_walksIn (s : State) (tags : List (Fin 32)) (n : SlotNo) (tag : Fin 32) :
    walksIn (s.withMp (s.mp.withdraw tags)) n tag ↔ walksIn s n tag := by
  constructor
  · rintro ⟨q, hq, rfl, hslot, hwalk⟩
    obtain ⟨p, hp, ⟨-, rfl⟩ | ⟨-, -, rfl⟩⟩ := mem_withdraw.mp hq
    · exact ⟨q, hp, rfl, hslot, hwalk⟩
    · exact ⟨p, hp, rfl, hslot, hwalk⟩
  · rintro ⟨p, hp, rfl, hslot, hwalk⟩
    by_cases htag : p.tag ∈ tags
    · exact ⟨_, mem_withdraw.mpr ⟨p, hp, .inr ⟨htag, hwalk, rfl⟩⟩, rfl, hslot, hwalk⟩
    · exact ⟨p, mem_withdraw.mpr ⟨p, hp, .inl ⟨htag, rfl⟩⟩, rfl, hslot, hwalk⟩

theorem withdraw_waitsInto (s : State) (tags : List (Fin 32)) (n : SlotNo) (tag : Fin 32) :
    waitsInto (s.withMp (s.mp.withdraw tags)) n tag ↔ waitsInto s n tag ∧ tag ∉ tags := by
  constructor
  · rintro ⟨q, hq, rfl, hslot, hwalk⟩
    obtain ⟨p, hp, ⟨htag, rfl⟩ | ⟨-, hsome, rfl⟩⟩ := mem_withdraw.mp hq
    · exact ⟨⟨q, hp, rfl, hslot, hwalk⟩, htag⟩
    · cases (Option.isSome_iff_ne_none.mp hsome) hwalk
  · rintro ⟨⟨p, hp, rfl, hslot, hwalk⟩, htag⟩
    exact ⟨p, mem_withdraw.mpr ⟨p, hp, .inl ⟨htag, rfl⟩⟩, rfl, hslot, hwalk⟩

theorem withdraw_gate (s : State) (tags : List (Fin 32)) (n : SlotNo) : (s.withMp (s.mp.withdraw tags)).gate n =
    { s.gate n with waiting := (s.gate n).waiting.filter (Claim.notOn tags) } := by
  simp [State.gate, Mp.withdraw]

theorem withdraw_gates {s : State} (h : gatesInOrder s) (tags : List (Fin 32)) :
    gatesInOrder (s.withMp (s.mp.withdraw tags)) := by
  refine gatesInOrder_of_fits ((withdraw_tags s.mp tags).nodup h.tags) (fun n hfree => ?_) fun n => ?_
  · rw [withdraw_gate] at hfree ⊢
    have hnone : (s.gate n).waiting = [] := h.served n hfree
    simp [hnone]
  · rw [withdraw_gate]
    exact ((gateFits_of_inOrder h n).withdraws tags).congr (withdraw_walksIn s tags n) (withdraw_waitsInto s tags n)
      Iff.rfl

/-! ### Operations begun and ended (R26, R58, R65, R66, R72) -/

/-- With the upkeep operation of slot `n` replaced, the other slots' claims are as they were. -/
theorem withUpkeep_onlyAt {s : State} {n : SlotNo} {o : Option UpkeepOp}
    (hbefore : ∀ op, s.mp.upkeep = some op → op.slot = n)
    (hafter : ∀ op, o = some op → op.slot = n) : OnlyAt n s (s.withMp { s.mp with upkeep := o }) :=
  ⟨fun _ _ => rfl, fun _ _ => Iff.rfl, fun op hop =>
    iff_of_false (fun h => hop (hafter op h)) fun h => hop (hbefore op h)⟩

theorem beginUpkeep_gates {s : State} {n : SlotNo} {op : UpkeepOp} (h : gatesInOrder s) (hidle : s.mp.upkeep = none)
    (hslot : op.slot = n) : gatesInOrder (s.beginUpkeep n op) := by
  have hbegun := withUpkeep_onlyAt (s := s) (n := n) (o := some op) (fun o ho => by cases hidle.symm.trans ho)
    fun o ho => Option.some.inj ho ▸ hslot
  have hnew : ¬operatesIn s n := fun ⟨o, ho, _⟩ => by cases hidle.symm.trans ho
  refine withGate_serveGate_gates ((othersInOrder_of_inOrder h n).of_onlyAt hbegun h.tags) ?_
  exact ((gateFits_of_inOrder h n).adds_upkeep hnew).congr (fun _ => Iff.rfl) (fun _ => Iff.rfl)
    (iff_true_intro ⟨op, rfl, hslot⟩)

theorem clearUpkeep_not_operates (s : State) (n : SlotNo) : ¬operatesIn s.clearUpkeep n := fun ⟨_, ho, _⟩ => by cases ho

theorem clearUpkeep_others {s : State} {op : UpkeepOp} (h : gatesInOrder s) (hop : s.mp.upkeep = some op) :
    othersInOrder op.slot s.clearUpkeep := by
  have honly : OnlyAt op.slot s s.clearUpkeep := withUpkeep_onlyAt (s := s) (o := none)
    (fun _ ho => (congrArg UpkeepOp.slot (Option.some.inj (hop.symm.trans ho))).symm) (fun _ ho => nomatch ho)
  exact (othersInOrder_of_inOrder h op.slot).of_onlyAt honly h.tags

/-- The operation that holds its gate is over, and the gate takes its next claim. -/
theorem clearUpkeep_releaseGate_gates {s : State} {op : UpkeepOp} (h : gatesInOrder s) (hop : s.mp.upkeep = some op)
    (hholds : (s.gate op.slot).holder = some .upkeep) : gatesInOrder (s.clearUpkeep.releaseGate op.slot) := by
  have hgate : s.gate op.slot = ⟨some .upkeep, (s.gate op.slot).waiting⟩ := by rw [← hholds]
  have hfits := gateFits_of_inOrder h op.slot
  rw [hgate] at hfits
  exact withGate_serveGate_gates (clearUpkeep_others h hop) (hfits.drops_holder.congr (fun _ => Iff.rfl)
    (fun _ => Iff.rfl) (iff_false_intro (clearUpkeep_not_operates s _)))

/-- The claim of an operation is removed at its gate, and the gate served. -/
theorem dropUpkeep_gates {s : State} {op : UpkeepOp} (h : gatesInOrder s) (hop : s.mp.upkeep = some op) :
    gatesInOrder (s.dropUpkeep op.slot) := by
  refine gatesInOrder_of_mp (withGate_serveGate_gates (clearUpkeep_others h hop) ?_)
    (t := s.dropUpkeep op.slot) rfl
  exact (gateFits_of_inOrder h op.slot).drops_upkeep.congr (fun _ => Iff.rfl) (fun _ => Iff.rfl)
    (iff_false_intro (clearUpkeep_not_operates s _))

theorem endEntryOp_gates {s : State} {op : EntryOp} (h : gatesInOrder s) (hop : s.mp.upkeep = some (.entry op))
    (hholds : (s.gate op.slot).holder = some .upkeep) : gatesInOrder (s.endEntryOp op) := by
  unfold State.endEntryOp
  split
  · have hmp : (s.answerEntryOp op).mp = s.mp := (answerEntryOp_store s op).mp
    exact clearUpkeep_releaseGate_gates (op := .entry op) (gatesInOrder_of_mp h hmp) (by rw [hmp]; exact hop)
      (by rw [State.gate, hmp]; exact hholds)
  · refine beginUpkeep_gates (clearUpkeep_releaseGate_gates h hop hholds) ?_ rfl
    exact serveGate_upkeep.elim id id

/-! ### Probes issued and ended (R63, R64, R65) -/

/-- The tag that PROBE_ISSUE takes is no outstanding probe's. -/
theorem freeTag_free {m : Mp} {tag : Fin 32} (h : m.freeTag = some tag) : ∀ p ∈ m.probes, p.tag ≠ tag := by
  have hall := List.find?_some h
  simpa using hall

theorem issue_gates {s : State} {tag : Fin 32} (h : gatesInOrder s) (n : SlotNo) (outline : List Stroke)
    (hfree : ∀ p ∈ s.mp.probes, p.tag ≠ tag) :
    gatesInOrder ((s.withMp { s.mp with probes := s.mp.probes ++ [⟨tag, n, outline, false, none⟩] }).claimGate n
      (.probe tag)) := by
  let t := s.withMp { s.mp with probes := s.mp.probes ++ [⟨tag, n, outline, false, none⟩] }
  have hmem (q : Probe) : q ∈ t.mp.probes ↔ q ∈ s.mp.probes ∨ q = ⟨tag, n, outline, false, none⟩ := by simp [t]
  have honly : OnlyAt n s t := ⟨fun _ _ => rfl, fun q hq => by
    rw [hmem]
    exact or_iff_left fun he => hq (he ▸ rfl), fun _ _ => Iff.rfl⟩
  have htags : (t.mp.probes.map (·.tag)).Nodup := by
    simpa [t, List.nodup_append] using And.intro h.tags hfree
  have hwaits : ¬waitsInto s n tag := fun ⟨p, hp, htag, _⟩ => hfree p hp htag
  refine withGate_serveGate_gates ((othersInOrder_of_inOrder h n).of_onlyAt honly htags)
    (((gateFits_of_inOrder h n).adds_probe hwaits).congr (fun u => ?_) (fun u => ?_) Iff.rfl)
  · exact ⟨fun ⟨p, hp, htag, hslot, hwalk⟩ =>
        ⟨p, ((hmem p).mp hp).resolve_right fun he => by simp [he] at hwalk, htag, hslot, hwalk⟩,
      fun ⟨p, hp, hrest⟩ => ⟨p, (hmem p).mpr (.inl hp), hrest⟩⟩
  · constructor
    · rintro ⟨p, hp, rfl, hslot, hwalk⟩
      rcases (hmem p).mp hp with hp | rfl
      · exact .inl ⟨p, hp, rfl, hslot, hwalk⟩
      · exact .inr rfl
    · rintro (⟨p, hp, hrest⟩ | rfl)
      · exact ⟨p, (hmem p).mpr (.inl hp), hrest⟩
      · exact ⟨_, (hmem _).mpr (.inr rfl), rfl, rfl, rfl⟩

theorem endProbe_released_gates {s : State} {n : SlotNo} {tag : Fin 32} (h : gatesInOrder s)
    (hholds : (s.gate n).holder = some (.probe tag)) : gatesInOrder ((s.freeTagOf tag).releaseGate n) := by
  have hmem (q : Probe) : q ∈ (s.freeTagOf tag).mp.probes ↔ q ∈ s.mp.probes ∧ q.tag ≠ tag := by
    simp [State.freeTagOf]
  obtain ⟨p, hp, hptag, hslot, hwalk⟩ := (h.taken n tag).mp hholds
  have honly : OnlyAt n s (s.freeTagOf tag) := ⟨fun _ _ => rfl, fun q hq => by
    rw [hmem]
    exact and_iff_left_of_imp fun hmq htag => hq (slot_eq_of_tag h.tags hp hmq (htag.trans hptag.symm) hslot),
    fun _ _ => Iff.rfl⟩
  have htags : ((s.freeTagOf tag).mp.probes.map (·.tag)).Nodup := (List.filter_sublist.map _).nodup h.tags
  have hgate : s.gate n = ⟨some (.probe tag), (s.gate n).waiting⟩ := by rw [← hholds]
  have hfits := gateFits_of_inOrder h n
  rw [hgate] at hfits
  refine withGate_serveGate_gates ((othersInOrder_of_inOrder h n).of_onlyAt honly htags)
    (hfits.drops_probe.congr (fun t => iff_false_intro ?_) (fun t => ?_) Iff.rfl)
  · rintro ⟨q, hq, rfl, hqslot, hqwalk⟩
    obtain ⟨hq, hne⟩ := (hmem q).mp hq
    have hsame := (hfits.taken q.tag).mpr ⟨q, hq, rfl, hqslot, hqwalk⟩
    exact hne (Claim.probe.inj (Option.some.inj hsame)).symm
  · refine ⟨fun ⟨q, hq, hrest⟩ => ⟨q, ((hmem q).mp hq).1, hrest⟩, fun ⟨q, hq, hqtag, hqslot, hqwalk⟩ =>
      ⟨q, (hmem q).mpr ⟨hq, fun htag => ?_⟩, hqtag, hqslot, hqwalk⟩⟩
    have hsame : q = p := List.inj_on_of_nodup_map h.tags hq hp (htag.trans hptag.symm)
    rw [hsame] at hqwalk
    exact Option.isSome_iff_ne_none.mp hwalk hqwalk

end Sys2Proof.Machine
end

section
/-!
SUPPORT. What every step keeps of the Memory Port: the canonical SDRAM with the arbiter's counts (R61, R69, R70), and
the gates (R63, R65). Most operations leave both alone or withdraw probes; the others are taken one by one.
-/

namespace Sys2Proof.Machine

open Sys2Proof Sys2Proof.Rules

theorem respond_mp (s : State) (st : Status) (d : List Byte) : (s.respond st d).mp = s.mp := by simp

theorem respond_sdram (s : State) (st : Status) (d : List Byte) : (s.respond st d).sdram = s.sdram := by simp

/-- From `s` to `t` the store and the gates stay in order. -/
structure PortKept (s t : State) : Prop where
  store : storeInOrder s → storeInOrder t
  gates : gatesInOrder s → gatesInOrder t

namespace PortKept

variable {s t u : State}

theorem refl (s : State) : PortKept s s := ⟨id, id⟩

theorem trans (h : PortKept s t) (k : PortKept t u) : PortKept s u :=
  ⟨fun hs => k.store (h.store hs), fun hs => k.gates (h.gates hs)⟩

theorem of_port (hmp : t.mp = s.mp) (hsdram : t.sdram = s.sdram) : PortKept s t where
  store := fun h => ⟨hsdram ▸ h.canonical, hmp ▸ h.share, hmp ▸ h.run⟩
  gates := fun h => gatesInOrder_of_mp h hmp

theorem withdraw (s : State) (tags : List (Fin 32)) : PortKept s (s.withMp (s.mp.withdraw tags)) where
  store := fun h => ⟨h.canonical, h.share, h.run⟩
  gates := fun h => withdraw_gates h tags

theorem of_mayDecide (h : MayDecide s t) (hsdram : t.sdram = s.sdram) : PortKept s t := by
  obtain hmp | ⟨tags, hmp⟩ := h.mp
  · exact of_port hmp hsdram
  · exact (withdraw s tags).trans (of_port hmp hsdram)

theorem respond (h : PortKept s t) (st : Status) (d : List Byte) : PortKept s (t.respond st d) :=
  h.trans (of_port (respond_mp ..) (respond_sdram ..))

theorem done (h : PortKept s t) : PortKept s t.done := h.respond _ _

theorem refuse (s : State) (st : Status) : PortKept s (s.refuse st) := (refl s).respond _ _

theorem foldl {f : State → Key → State} (h : ∀ s k, PortKept s (f s k)) (l : List Key) (s : State) :
    PortKept s (l.foldl f s) := by
  induction l generalizing s with
  | nil => exact .refl s
  | cons k l ih => exact (h s k).trans (ih _)

end PortKept

/-! ### The TE -/

theorem withTe_port (s : State) (t : Te) : PortKept s (s.withTe t) := .of_port rfl rfl

theorem tryDecide_port (s : State) : PortKept s s.tryDecide := .of_mayDecide (tryDecide_mayDecide s) (by simp)

theorem deliver_port (s : State) (tags : List (Fin 32)) (r : PairResult) : PortKept s (s.deliver tags r) :=
  (withTe_port s _).trans (tryDecide_port _)

theorem takeStroke_port (s : State) (r : StrokeRecord) (rest : List StrokeRecord) :
    PortKept s (s.takeStroke r rest) := by
  have hreported : PortKept s
      (((s.withStrokeQueue rest).pushReport (s.strokeReport r)).withTe s.te.restartTimer) := .of_port rfl rfl
  unfold State.takeStroke
  dsimp only
  split
  · split
    · exact hreported
    · exact hreported.trans (.of_port (by simp) (by simp))
  · exact hreported.trans ((withTe_port _ _).trans (tryDecide_port _))

theorem serviceStroke_port (s : State) : PortKept s s.serviceStroke := by
  unfold State.serviceStroke
  repeat' split
  · exact .refl s
  · exact takeStroke_port s _ _
  · exact .refl s

theorem serviceOrder_port (s : State) : PortKept s s.serviceOrder := by
  unfold State.serviceOrder
  repeat' split
  · exact .of_port (by simp) (by simp)
  · exact .of_port (by simp) (by simp)
  · exact serviceStroke_port s

theorem restartEffect_port (s : State) : PortKept s s.restartEffect :=
  (PortKept.withdraw s allTags).trans (.of_port (by simp [State.restartEffect, Mp.withdrawAll]) (by simp))

theorem restartIfFree_port (s : State) : PortKept s s.restartIfFree := by
  unfold State.restartIfFree
  split
  · exact restartEffect_port s
  · exact .refl s

/-! ### The store under the operations on gates -/

theorem storeInOrder_of_counts {s t : State} (h : storeInOrder s) (hsdram : t.sdram = s.sdram)
    (hshare : t.mp.share = s.mp.share) (hrun : t.mp.lookupRun = s.mp.lookupRun) : storeInOrder t :=
  ⟨hsdram ▸ h.canonical, hshare ▸ h.share, by rw [hshare, hrun]; exact h.run⟩

theorem withGate_store {s : State} (h : storeInOrder s) (n : SlotNo) (g : Gate) : storeInOrder (s.withGate n g) :=
  storeInOrder_of_counts h rfl rfl rfl

theorem withMp_store {s : State} {m : Mp} (h : storeInOrder s) (hshare : m.share = s.mp.share)
    (hrun : m.lookupRun = s.mp.lookupRun) : storeInOrder (s.withMp m) := storeInOrder_of_counts h rfl hshare hrun

theorem takeClaims_store {n : SlotNo} : ∀ {c : List Claim} {s : State}, storeInOrder s → storeInOrder (takeClaims n c s)
  | [], _, h => storeInOrder_of_counts h rfl rfl rfl
  | .probe _ :: _, _, h => storeInOrder_of_counts h rfl rfl rfl
  | .upkeep :: rest, s, h => by
      unfold takeClaims
      split
      · exact takeClaims_store (storeInOrder_of_counts h (by simp) (by simp [State.finishRelease])
          (by simp [State.finishRelease]))
      · exact storeInOrder_of_counts h rfl rfl rfl

theorem serveGate_store {s : State} (h : storeInOrder s) (n : SlotNo) : storeInOrder (s.serveGate n) := by
  unfold State.serveGate
  split
  · exact h
  · exact takeClaims_store h

theorem claimGate_store {s : State} (h : storeInOrder s) (n : SlotNo) (c : Claim) : storeInOrder (s.claimGate n c) :=
  serveGate_store (withGate_store h n _) n

theorem releaseGate_store {s : State} (h : storeInOrder s) (n : SlotNo) : storeInOrder (s.releaseGate n) :=
  serveGate_store (withGate_store h n _) n

theorem beginUpkeep_store {s : State} (h : storeInOrder s) (n : SlotNo) (op : UpkeepOp) :
    storeInOrder (s.beginUpkeep n op) :=
  claimGate_store (s := s.withMp { s.mp with upkeep := some op }) (withMp_store h rfl rfl) n _

theorem clearUpkeep_store {s : State} (h : storeInOrder s) : storeInOrder s.clearUpkeep :=
  storeInOrder_of_counts h rfl rfl rfl

/-! ### Operations under way -/

theorem dropUpkeep_port {s : State} {op : UpkeepOp} (hop : s.mp.upkeep = some op) :
    PortKept s (s.dropUpkeep op.slot) where
  store := fun h => storeInOrder_of_counts (serveGate_store (withGate_store (clearUpkeep_store h) op.slot _) op.slot)
    rfl rfl rfl
  gates := fun h => dropUpkeep_gates h hop

theorem cutCommand_port (s : State) : PortKept s s.cutCommand := by
  unfold State.cutCommand
  split
  · exact .of_port rfl rfl
  · next n k hop =>
    have habandoned : PortKept s (s.abandonFormat n) := .of_port rfl rfl
    exact habandoned.trans (dropUpkeep_port (op := .format n k) hop)
  · next op _ hop =>
    split
    · exact .refl s
    · exact dropUpkeep_port hop

theorem formatComplete_port {s : State} {n : SlotNo} {k : Nat} (d : Slot) (hop : s.mp.upkeep = some (.format n k))
    (hholds : (s.gate n).holder = some .upkeep) :
    PortKept s ((s.withSlot n d).done.clearUpkeep.releaseGate n) := by
  have hdone : PortKept s (s.withSlot n d).done := PortKept.done (.of_port rfl rfl)
  have hmp : (s.withSlot n d).done.mp = s.mp := by simp
  exact ⟨fun h => releaseGate_store (clearUpkeep_store (hdone.store h)) n, fun h =>
    clearUpkeep_releaseGate_gates (op := .format n k) (hdone.gates h) (hmp ▸ hop)
      (by rw [State.gate, hmp]; exact hholds)⟩

theorem endEntryOp_port {s : State} {op : EntryOp} (hop : s.mp.upkeep = some (.entry op))
    (hholds : (s.gate op.slot).holder = some .upkeep) : PortKept s (s.endEntryOp op) where
  store := fun h => by
    unfold State.endEntryOp
    split
    · exact releaseGate_store (clearUpkeep_store
        ((PortKept.of_port (s := s) (by simp) (by simp)).store h)) _
    · exact beginUpkeep_store (releaseGate_store (clearUpkeep_store h) _) _ _
  gates := fun h => endEntryOp_gates h hop hholds

theorem issue_port {s : State} {tag : Fin 32} (hfree : s.mp.freeTag = some tag) (p : Pair) :
    PortKept s (s.issue p tag) := by
  unfold State.issue
  dsimp only
  split
  · have hentered : PortKept s (s.enterNextResult (.pending tag)) := withTe_port s _
    exact hentered.trans ⟨fun h => claimGate_store (storeInOrder_of_counts h (by rfl) (by rfl) (by rfl)) _ _,
      fun h => issue_gates h p.slot p.outline (freeTag_free hfree)⟩
  · exact (withTe_port s _).trans (tryDecide_port _)

theorem endProbe_port {s : State} {n : SlotNo} {p : Probe} (hholds : s.holderProbe n = some p) (r : PairResult) :
    PortKept s (s.endProbe n p r) := by
  have hreleased : PortKept s ((s.freeTagOf p.tag).releaseGate n) :=
    ⟨fun h => releaseGate_store (s := s.freeTagOf p.tag) (withMp_store h rfl rfl) n,
      fun h => endProbe_released_gates h (holderProbe_holds hholds)⟩
  unfold State.endProbe
  dsimp only
  split
  · exact hreleased
  · exact hreleased.trans (deliver_port _ _ _)

/-! ### The arbiter's grants (R69) -/

theorem grantLookup_port (s : State) (n : SlotNo) (c : Nat) : PortKept s (s.grantLookup n c) where
  store := fun h => ⟨h.canonical, h.share, Nat.min_le_right _ _⟩
  gates := fun h => grantLookup_gates h n c

/-- An access of an operation keeps the canonical form of the SDRAM. -/
theorem UpkeepOp.perform_wf (op : UpkeepOp) (d : Slot) {m : List Host.Cell} (h : Memory.wf m = true) (c : Nat) :
    Memory.wf (op.perform d m c).2 = true := by
  cases op with
  | format n k => exact writeCell_wf _ _ _ _ _ h
  | release n => exact h
  | entry e =>
      change Memory.wf (e.perform d m c).2 = true
      unfold EntryOp.perform
      cases e.stage with
      | walking | returnRead | take | ended => exact h
      | unlink =>
          dsimp only
          split <;> exact writeCell_wf _ _ _ _ _ h
      | returnWrite | writeHead | writeCont | writeBucket => exact writeCell_wf _ _ _ _ _ h

theorem grantUpkeep_port {s : State} {op : UpkeepOp} (hop : s.mp.upkeep = some op) (c : Nat) :
    PortKept s (s.grantUpkeep op c) where
  store := fun h => ⟨op.perform_wf _ h.canonical c, h.share, Nat.zero_le _⟩
  gates := fun h => grantUpkeep_gates h hop c

end Sys2Proof.Machine
end

section
/-!
PROOF. Every step keeps the SDRAM canonical with L within N (R61, R69, R70), and the gates true to the probes and the
upkeep operation (R63, R65, R66, R68).
-/

namespace Sys2Proof.Machine

open Sys2Proof Sys2Proof.Rules

/-! ### Commands -/

/-- How a command that starts from `s` ends, as far as the Memory Port goes: the port is in order as before, or an
operation has claimed its slot's gate. -/
inductive CommandPort (s : State) : State → Prop
  | kept {t : State} (h : PortKept s t) : CommandPort s t
  | begins {u : State} {n : SlotNo} {op : UpkeepOp} (mp : u.mp = s.mp) (sdram : u.sdram = s.sdram)
      (slot : op.slot = n) : CommandPort s (u.beginUpkeep n op)

theorem CommandPort.refuse (s : State) (st : Status) : CommandPort s (s.refuse st) := .kept (.refuse s st)

theorem giveAccess_port (s : State) (n : SlotNo) (a : Access) : PortKept s (s.giveAccess n a) := by
  have hslot : PortKept s (s.withSlot n { s.slot n with access := a }) := .of_port rfl rfl
  have hview (u : State) : PortKept u u.signalRescan.noteViewChange := .of_port (by simp) (by simp)
  unfold State.giveAccess
  dsimp only
  split
  · exact hslot
  · split
    · exact hslot.trans (hview _)
    · exact (hslot.trans (hview _)).trans ((PortKept.withdraw _ _).trans (deliver_port _ _ _))

theorem cmdSetMaintShare_port (v : Byte) (s : State) : PortKept s (cmdSetMaintShare v s) := by
  unfold cmdSetMaintShare
  split
  · next hshare =>
    have hset : PortKept s (s.withMp { s.mp with
        share := v.toNat, lookupRun := min s.mp.lookupRun v.toNat }) :=
      ⟨fun h => ⟨h.canonical, List.contains_iff_mem.mp hshare, Nat.min_le_right _ _⟩, fun h =>
        gatesInOrder_of_sameClaims h rfl rfl (fun _ _ => Iff.rfl) (fun _ _ => Iff.rfl) fun _ => Iff.rfl⟩
    exact hset.done
  · exact .refuse s _

theorem cmdStart_port (s : State) : PortKept s (cmdStart s) := by
  unfold cmdStart
  dsimp only
  refine PortKept.done ?_
  split
  · exact ((withTe_port s _).trans (withTe_port _ _)).trans (serviceOrder_port _)
  · exact withTe_port s _

theorem cmdFormat_port (v : Byte) (buckets : BitVec 32) (s : State) : CommandPort s (cmdFormat v buckets s) := by
  unfold cmdFormat
  repeat' split
  any_goals exact .refuse s _
  exact .begins rfl rfl rfl

theorem cmdReleaseSlot_port (v : Byte) (s : State) : CommandPort s (cmdReleaseSlot v s) := by
  unfold cmdReleaseSlot
  repeat' split
  any_goals exact .refuse s _
  exact .begins rfl rfl rfl

theorem cmdEntryWrite_port (k : EntryKind) (v : Byte) (o : List Stroke) (f : Byte) (t : List Byte) (s : State) :
    CommandPort s (cmdEntryWrite k v o f t s) := by
  unfold cmdEntryWrite
  repeat' split
  any_goals exact .refuse s _
  · exact .kept (.of_port (by simp) (by simp))
  · exact .begins rfl rfl rfl

theorem cmdFetchEntry_port (v : Byte) (o : List Stroke) (s : State) : CommandPort s (cmdFetchEntry v o s) := by
  unfold cmdFetchEntry cmdFetchAny cmdFetchNamed
  repeat' split
  any_goals exact .refuse s _
  all_goals exact .begins rfl rfl rfl

theorem cmdSetAccess_port (v code : Byte) (s : State) : PortKept s (cmdSetAccess v code s) := by
  unfold cmdSetAccess
  repeat' split
  any_goals exact .refuse s _
  exact (giveAccess_port s _ _).done

/-- The key commands that handle the keys one after another leave the port alone. -/
theorem cmdKeys_port (s : State) : (∀ d g st, PortKept s (cmdSetKeyTiming d g st s)) ∧
    (∀ v, PortKept s (cmdSetKeyPolarity v s)) ∧ ∀ v, PortKept s (cmdSetKeyMask v s) := by
  have hset (u : Ksu) : PortKept s (s.withKsu u) := .of_port rfl rfl
  refine ⟨fun d g st => ?_, fun v => ?_, fun v => ?_⟩
  · exact ((hset _).trans (.foldl (fun s k => .of_port (by simp) (by simp)) _ _)).done
  · unfold cmdSetKeyPolarity
    split
    · exact .refuse s _
    · exact (((hset _).trans (.foldl (fun s k => .of_port (by simp) (by simp)) _ _)).trans
        (.foldl (fun s k => .of_port (by simp) (by simp)) _ _)).done
  · unfold cmdSetKeyMask
    split
    · exact .refuse s _
    · exact (((hset _).trans (.foldl (fun s k => .of_port (by simp) (by simp)) _ _)).trans
        (.foldl (fun s k => .of_port (by simp) (by simp)) _ _)).done

/-- The other commands leave the Memory Port and the SDRAM as they were. -/
theorem runCommand_port (c : Command) (s : State) : CommandPort s (runCommand c s) := by
  obtain ⟨htiming, hpolarity, hmask⟩ := cmdKeys_port s
  cases c with
  | setKeyTiming d g st => exact .kept (htiming d g st)
  | setKeyPolarity v => exact .kept (hpolarity v)
  | setKeyMask v => exact .kept (hmask v)
  | format n b => exact cmdFormat_port n b s
  | releaseSlot n => exact cmdReleaseSlot_port n s
  | setAccess n a => exact .kept (cmdSetAccess_port n a s)
  | addEntry n o f t => exact cmdEntryWrite_port .add n o f t s
  | replaceEntry n o f t => exact cmdEntryWrite_port .replace n o f t s
  | retireEntry n o => exact cmdEntryWrite_port .retire n o 0 [] s
  | fetchEntry n o => exact cmdFetchEntry_port n o s
  | setMaintShare v => exact .kept (cmdSetMaintShare_port v s)
  | start => exact .kept (cmdStart_port s)
  | setStacking v =>
      rw [runCommand, cmdSetStacking]
      split <;> exact .kept (.of_port (by simp) (by simp))
  | injectStroke v =>
      rw [runCommand, cmdInjectStroke]
      repeat' split
      all_goals exact .kept (.of_port (by simp) (by simp))
  | keyInfo v =>
      rw [runCommand, cmdKeyInfo]
      split <;> exact .kept (.of_port (by simp) (by simp))
  | setMemory mib =>
      rw [runCommand, cmdSetMemory]
      repeat' split
      all_goals exact .kept (.of_port (by simp) (by simp))
  | setWindow n b z =>
      rw [runCommand, cmdSetWindow]
      repeat' split
      all_goals exact .kept (.of_port (by simp) (by simp))
  | setRanks a b c d =>
      rw [runCommand, cmdSetRanks]
      split <;> exact .kept (.of_port (by simp) (by simp))
  | lockSlot n =>
      rw [runCommand, cmdLockSlot]
      repeat' split
      all_goals exact .kept (.of_port (by simp) (by simp))
  | slotInfo n =>
      rw [runCommand, cmdSlotInfo]
      split <;> exact .kept (.of_port (by simp) (by simp))
  | windowInfo r =>
      rw [runCommand, cmdWindowInfo]
      repeat' split
      all_goals exact .kept (.of_port (by simp) (by simp))
  | setSpeaker n l =>
      rw [runCommand, cmdSetSpeaker]
      repeat' split
      all_goals exact .kept (.of_port (by simp) (by simp))
  | setChannel ch m f d r st ka =>
      rw [runCommand, cmdSetChannel]
      repeat' split
      all_goals exact .kept (.of_port (by simp) (by simp))
  | channelOn ch =>
      rw [runCommand, cmdChannelOn]
      repeat' split
      all_goals exact .kept (.of_port (by simp) (by simp))
  | channelOff ch =>
      rw [runCommand, cmdChannelOff]
      repeat' split
      all_goals exact .kept (.of_port (by simp) (by simp))
  | channelInfo ch =>
      rw [runCommand, cmdChannelInfo]
      split <;> exact .kept (.of_port (by simp) (by simp))
  | setClock | stop | setSettleTime | flush | clearNotices | setInterrupts =>
      exact .kept (.of_port (respond_mp ..) (respond_sdram ..))

/-! ### Every step -/

/-- What a step does to the Memory Port of `s`: it keeps it in order, or a command begins with none in execution. -/
inductive PortStep (s : State) : State → Prop
  | kept {t : State} (h : PortKept s t) : PortStep s t
  | command {u t : State} (idle : s.cp.executing = none) (mp : u.mp = s.mp) (sdram : u.sdram = s.sdram)
      (h : CommandPort u t) : PortStep s t

theorem PortStep.refl (s : State) : PortStep s s := .kept (.refl s)

theorem hostCommand_port (c : Command) (s : State) : PortStep s (hostCommand c (runCommand c) s) := by
  unfold hostCommand
  split
  · next hready =>
    exact .command (u := s.beginExecution c.code) (executing_of_canBegin (Bool.and_eq_true_iff.mp hready).1) rfl rfl
      (runCommand_port c _)
  · exact .kept (.of_port (by simp) (by simp))

theorem beginFrame_port {s : State} (f : Frame) (rest : List Frame) (h : s.canBegin = true) :
    PortStep s (s.beginFrame f rest) := by
  let t := (s.withCp { s.cp with queue := rest }).beginExecution (echoOf f.bytes)
  unfold State.beginFrame
  dsimp only
  split
  · exact .command (u := t) (executing_of_canBegin h) rfl rfl (runCommand_port _ t)
  · have hbegun : PortKept s t := .of_port rfl rfl
    exact .kept (hbegun.respond .badFrame [])

theorem takeRestart_port (s : State) : PortKept s s.takeRestart := by
  have hdiscarded (c : Cp) : PortKept s (s.discardWaiting.withCp c) := .of_port rfl rfl
  unfold State.takeRestart
  dsimp only
  split
  · exact (hdiscarded _).trans ((cutCommand_port _).trans (restartIfFree_port _))
  · split
    · exact (hdiscarded _).trans (restartIfFree_port _)
    · exact .of_port rfl rfl

theorem takeFrame_port (s : State) (f : Frame) : PortKept s (s.takeFrame f) := by
  unfold State.takeFrame
  split
  · exact takeRestart_port s
  · exact .of_port (by simp) (by simp)

/-- A transaction keeps the port in order where the effect at its end does. -/
theorem transaction_port {shifted : Type} (s : State) (part : SpiPart shifted) {lead : State → State}
    (hlead : ∀ u, PortKept u (lead u)) (kind : Option Transfer) (n : shifted → Nat)
    {effect : shifted → Transaction → State → State} (heffect : ∀ x t u, PortKept u (effect x t u)) :
    PortKept s (s.transact part lead fun x u => u.selectRise kind (n x) (effect x)) := by
  refine transact_keeps (P := PortKept s) part (.refl s) (fun u hu => hu.trans ?_) (fun u hu => hu.trans (hlead u))
    fun x u hu => selectRise_keeps kind (n x) hu (fun v bits hv => hv.trans (.of_port rfl rfl))
      fun t v _ _ _ hv => hv.trans (heffect x t v)
  unfold State.selectFall
  split <;> exact .of_port rfl rfl

theorem leadByte_port (b : Byte) (s : State) : PortKept s (s.leadByte b) := by
  have hkept := leadByte_kept s b
  refine .of_port hkept.mp ?_
  unfold State.leadByte
  repeat' split
  all_goals rfl

/-- With no probe and no operation, free gates are in order. -/
theorem gatesInOrder_of_idle {s : State} (hprobes : s.mp.probes = []) (hupkeep : s.mp.upkeep = none)
    (hgate : ∀ n, s.gate n = ⟨none, []⟩) : gatesInOrder s := by
  have hprobe (n : SlotNo) (tag : Fin 32) : ¬walksIn s n tag ∧ ¬waitsInto s n tag := by
    simp [walksIn, waitsInto, hprobes]
  have hop (n : SlotNo) : ¬operatesIn s n := by simp [operatesIn, hupkeep]
  refine gatesInOrder_of_fits (by simp [hprobes]) (fun n _ => congrArg Gate.waiting (hgate n)) fun n => ?_
  rw [hgate]
  exact {
    once := List.nodup_nil
    taken := fun tag => by simpa using (hprobe n tag).1
    waiting := fun tag => by simpa using (hprobe n tag).2
    upkeep := by simpa using hop n
    notBoth := by simp }

theorem hardReset_port {s t : State} (h : execHardReset s = .next t) : PortKept s t := by
  have ht : t.mp = Mp.reset ∧ t.sdram = s.sdram := by cases h; exact ⟨rfl, rfl⟩
  obtain ⟨hmp, hsdram⟩ := ht
  refine ⟨fun hs => ⟨hsdram ▸ hs.canonical, hmp ▸ (by decide : 3 ∈ [1, 3, 7, 15]), hmp ▸ Nat.zero_le _⟩, fun _ => ?_⟩
  exact gatesInOrder_of_idle (by rw [hmp]; rfl) (by rw [hmp]; rfl) fun n => by rw [State.gate, hmp]; simp [Mp.reset]

theorem withKsu_port (s : State) (u : Ksu) : PortKept s (s.withKsu u) := .of_port rfl rfl

theorem withChan_port (s : State) (n : ChanNo) (c : Channel) : PortKept s (s.withChan n c) := .of_port rfl rfl

theorem noteLapse_port (s : State) (n : ChanNo) (entered : Bool) : PortKept s (s.noteLapse n entered) := by
  cases entered with
  | true => exact .of_port rfl rfl
  | false => exact .refl s

theorem exec_port (i : Instr) {s t : State} (hexec : exec i s = .next t) : PortStep s t := by
  cases hc : commandOf i with
  | some c =>
      cases (exec_of_command hc s).symm.trans hexec
      exact hostCommand_port c s
  | none =>
      cases i with
      | hardReset => exact .kept (hardReset_port hexec)
      | lineLevelChange | strokeClockTick => cases hexec; exact .kept (withKsu_port s _)
      | debounceExpiry k | holdTimerExpiry k =>
          cases hexec
          split
          · exact .kept (.of_port (by simp) (by simp))
          · exact .refl s
      | commandBegin =>
          cases hexec
          repeat' split
          · exact .refl s
          · next hbegin => exact beginFrame_port _ _ hbegin
          · exact .refl s
      | commandWrite part =>
          cases hexec
          refine .kept (transaction_port s part (leadByte_port _) _ _ fun x t u => ?_)
          split
          · exact .refl u
          · exact takeFrame_port u _
      | responseRead part | reportRead part =>
          cases hexec
          refine .kept (transaction_port s part (leadByte_port _) _ _ fun x t u => ?_)
          split
          · exact .of_port rfl rfl
          · exact .refl u
      | statusRead part =>
          cases hexec
          exact .kept (transaction_port s part (leadByte_port _) _ _ fun x t u => .refl u)
      | voidTransaction lead part =>
          cases hexec
          repeat' split
          · exact .kept (transaction_port s part (leadByte_port _) _ _ fun x t u => .refl u)
          · exact .refl s
          · exact .kept (transaction_port s part .refl _ _ fun x t u => .refl u)
      | restart => cases hexec; exact .kept (takeRestart_port s)
      | restartTakesEffect =>
          cases hexec
          split
          · exact .kept (restartEffect_port s)
          · exact .refl s
      | formatComplete =>
          cases hexec
          split
          · next hop =>
            split
            · next hlast => exact .kept (formatComplete_port _ hop hlast.2)
            · exact .refl s
          · exact .refl s
      | upkeepOperationEnd =>
          cases hexec
          split
          · next hop =>
            split
            · next hend => exact .kept (endEntryOp_port hop hend.2)
            · exact .refl s
          · exact .refl s
      | arbiterGrant n =>
          cases hexec
          split
          · exact .refl s
          · exact .kept (grantLookup_port s _ _)
          · next hup => exact .kept (grantUpkeep_port (upkeepAccess_upkeep hup) _)
          · next hup =>
            split
            · exact .kept (grantLookup_port s _ _)
            · exact .kept (grantUpkeep_port (upkeepAccess_upkeep hup) _)
      | probeIssue =>
          cases hexec
          split
          · exact .refl s
          · split
            · next hfree => exact .kept (issue_port hfree _)
            · exact .refl s
      | probeEnd n =>
          cases hexec
          split
          · exact .refl s
          · next hholds =>
            split
            · exact .refl s
            · exact .kept (endProbe_port hholds _)
      | takeStroke => cases hexec; exact .kept (serviceStroke_port s)
      | settleDueService | settleTimerExpiry | rescan | inboundByte =>
          cases hexec
          split
          · exact .kept (.of_port (by simp) (by simp))
          · exact .refl s
      | stallTimerExpiry n =>
          cases hexec
          split
          · exact .kept ((withChan_port s n _).trans (noteLapse_port _ n true))
          · exact .refl s
      | breakReceived n => cases hexec; exact .kept ((withChan_port s n _).trans (noteLapse_port _ n _))
      | transmitByte n | byteComplete n | fclrChange n | keepaliveTimerExpiry n | returnToMark n =>
          cases hexec; exact .kept (withChan_port s n _)
      | _ => cases hc

end Sys2Proof.Machine

section

open Sys2Proof Sys2Proof.Machine Sys2Proof.Rules

/-- Settles O54: a step keeps the store in order, or begins an operation, which leaves the store as it was. -/
theorem storeStaysInOrder : Obligations.StoreStaysInOrder := by
  unfold Obligations.StoreStaysInOrder
  intro s t h hstep
  unfold step at hstep
  split at hstep
  · cases hstep; exact h
  · next c rest _ =>
    have hwaiting : storeInOrder (s.withPending rest) := { h with }
    cases exec_port c hstep with
    | kept hkept => exact hkept.store hwaiting
    | command _ hmp hsdram hcommand =>
        have hbefore := (PortKept.of_port hmp hsdram).store hwaiting
        cases hcommand with
        | kept hkept => exact hkept.store hbefore
        | begins hmp hsdram _ => exact beginUpkeep_store ((PortKept.of_port hmp hsdram).store hbefore) _ _

/-- Settles O56: a step keeps the gates in order, or begins an operation, the upkeep engine having none. -/
theorem gatesStayTrueToTheirClaims : Obligations.GatesStayTrueToTheirClaims := by
  unfold Obligations.GatesStayTrueToTheirClaims
  intro s t hq h hstep
  unfold step at hstep
  split at hstep
  · cases hstep; exact h
  · next c rest _ =>
    have hwaiting : gatesInOrder (s.withPending rest) := gatesInOrder_of_mp h rfl
    cases exec_port c hstep with
    | kept hkept => exact hkept.gates hwaiting
    | command hidle hmp _ hcommand =>
        have hnone : s.mp.upkeep = none := Option.not_isSome_iff_eq_none.mp (by
          rw [← hq.operation, show s.cp.executing = none from hidle]; nofun)
        have hbefore := gatesInOrder_of_mp hwaiting hmp
        cases hcommand with
        | kept hkept => exact hkept.gates hbefore
        | begins hmp' _ hslot =>
            exact beginUpkeep_gates (gatesInOrder_of_mp hbefore hmp') (by rw [hmp', hmp]; exact hnone) hslot

end
end

section
/-!
PROOF. Probes issued and ended, and the decision of a resolution (R63, R64, R65, R67, R68, R83, R84, R85, R86, R90,
R124).
-/

namespace Sys2Proof.Machine

open Sys2Proof Sys2Proof.Rules

/-! ### The next pair and the lowest free tag (R64, R83) -/

section

variable {before after : List Pair} {p : Pair}

theorem nextPair_of_first (hbefore : ∀ q ∈ before, q.result ≠ .unissued) (hp : p.result = .unissued) :
    nextPair (before ++ p :: after) = some p := by
  have hnone : before.find? (fun p => p.result == .unissued) = none := List.find?_eq_none.mpr fun q hq => by
    simpa using hbefore q hq
  rw [nextPair, List.find?_append, hnone, List.find?_cons_of_pos (by simp [hp])]
  rfl

theorem enterNext_of_first (hbefore : ∀ q ∈ before, q.result ≠ .unissued) (hp : p.result = .unissued)
    (r : PairResult) : enterNext r (before ++ p :: after) = before ++ { p with result := r } :: after := by
  induction before with
  | nil => exact if_pos hp
  | cons q before ih =>
      exact (if_neg (hbefore q List.mem_cons_self)).trans
        (congrArg (q :: ·) (ih fun x hx => hbefore x (List.mem_cons_of_mem q hx)))

theorem enterNextResult_of_first {s : State} {t : ProbeTable} (ht : s.te.table = some t)
    (hpairs : t.pairs = before ++ p :: after) (hbefore : ∀ q ∈ before, q.result ≠ .unissued)
    (hp : p.result = .unissued) (r : PairResult) : s.enterNextResult r = s.withTe { s.te with
      table := some { t with pairs := before ++ { p with result := r } :: after } } := by
  rw [State.enterNextResult, ht, Option.map_some, hpairs, enterNext_of_first hbefore hp]

end

theorem mem_allTags (tag : Fin 32) : tag ∈ allTags := by revert tag; decide

/-- The tags stand in ascending order. -/
theorem allTags_split (tag : Fin 32) : allTags = allTags.take tag ++ tag :: allTags.drop (tag + 1) ∧
    ∀ x ∈ allTags.take tag, x < tag := by
  revert tag; decide

theorem freeTag_of_lowest {m : Mp} {tag : Fin 32} (hfree : ∀ q ∈ m.probes, q.tag ≠ tag)
    (hlower : ∀ tag' < tag, ∃ q ∈ m.probes, q.tag = tag') : m.freeTag = some tag := by
  obtain ⟨hsplit, hbelow⟩ := allTags_split tag
  refine List.find?_eq_some_iff_append.mpr ⟨by simpa using hfree, _, _, hsplit, fun x hx => ?_⟩
  obtain ⟨q, hq, rfl⟩ := hlower x (hbelow x hx)
  simpa using ⟨q, hq, rfl⟩

theorem freeTag_of_none {m : Mp} (h : ∀ tag, ∃ q ∈ m.probes, q.tag = tag) : m.freeTag = none := by
  refine List.find?_eq_none.mpr fun tag _ => ?_
  obtain ⟨q, hq, rfl⟩ := h tag
  simpa using ⟨q, hq, rfl⟩

theorem freeTag_isSome {m : Mp} {tag : Fin 32} (hfree : ∀ q ∈ m.probes, q.tag ≠ tag) : ∃ tag', m.freeTag = some tag' :=
  Option.isSome_iff_exists.mp (List.find?_isSome.mpr ⟨tag, mem_allTags tag, by simpa using hfree⟩)

/-! ### PROBE_ISSUE (R63, R64, R65, R83) -/

theorem exec_probeIssue_of_pair {s : State} {t : ProbeTable} {p : Pair} {tag : Fin 32} (ht : s.te.table = some t)
    (hpair : nextPair t.pairs = some p) (htag : s.mp.freeTag = some tag) :
    exec .probeIssue s = .next (s.issue p tag) := by
  rw [exec, execProbeIssue, ht]
  dsimp only
  rw [hpair, htag]

theorem exec_probeIssue_of_noPair {s : State} {t : ProbeTable} (ht : s.te.table = some t)
    (h : ∀ p ∈ t.pairs, p.result ≠ .unissued) : exec .probeIssue s = .next s := by
  have hpair : nextPair t.pairs = none := List.find?_eq_none.mpr (by simpa using h)
  rw [exec, execProbeIssue, ht]
  dsimp only
  rw [hpair]

theorem exec_probeIssue_of_noTag {s : State} {t : ProbeTable} (ht : s.te.table = some t)
    (h : ∀ tag, ∃ q ∈ s.mp.probes, q.tag = tag) : exec .probeIssue s = .next s := by
  rw [exec, execProbeIssue, ht]
  dsimp only
  rw [freeTag_of_none h]
  cases nextPair t.pairs <;> rfl

/-- The state in which a probe's claim arrives at its gate. -/
theorem issue_of_consulted {s : State} {p : Pair}
    (h : (s.slot p.slot).access = .lookup ∨ (s.slot p.slot).access = .full) (tag : Fin 32) :
    s.issue p tag = ((s.enterNextResult (.pending tag)).withMp { s.mp with
      probes := s.mp.probes ++ [⟨tag, p.slot, p.outline, false, none⟩] }).claimGate p.slot (.probe tag) :=
  if_pos ((Slot.consulted_iff _).mpr h)

theorem issue_of_notConsulted {s : State} {p : Pair}
    (h : (s.slot p.slot).access = .shut ∨ (s.slot p.slot).access = .maintain) (tag : Fin 32) :
    s.issue p tag = (s.enterNextResult .miss).tryDecide :=
  if_neg fun hconsulted => by
    rcases (Slot.consulted_iff _).mp hconsulted with hc | hc <;> rcases h with h | h <;> cases h.symm.trans hc

/-- A new probe's claim at a free gate is taken. -/
theorem claim_new_of_free {s : State} {n : SlotNo} {tag : Fin 32} {outline : List Stroke}
    (hfree : ∀ q ∈ s.mp.probes, q.tag ≠ tag) (hholder : (s.gate n).holder = none) (hwaiting : (s.gate n).waiting = []) :
    (s.withMp { s.mp with probes := s.mp.probes ++ [⟨tag, n, outline, false, none⟩] }).claimGate n (.probe tag) =
      s.withMp { s.mp with
        probes := s.mp.probes ++ [⟨tag, n, outline, false, some (Walk.start (s.slot n) outline true)⟩]
        gates := s.mp.gates.set n ⟨some (.probe tag), []⟩ } := by
  let u := s.withMp { s.mp with probes := s.mp.probes ++ [⟨tag, n, outline, false, none⟩] }
  have htaken : u.claimGate n (.probe tag) = (u.withGate n ⟨some (.probe tag), []⟩).takeProbe n tag :=
    (claimGate_of_free (s := u) hholder fun _ => hwaiting).trans
      (congrArg (State.takeProbe · n tag) (withGate_withGate u n _ _))
  have hothers : s.mp.probes.map (fun q => if q.tag = tag then
      { q with walk := some (Walk.start (s.slot n) q.outline true) } else q) = s.mp.probes :=
    (List.map_congr_left fun q hq => if_neg (hfree q hq)).trans (List.map_id' _)
  refine htaken.trans (congrArg (fun l : List Probe => s.withMp { s.mp with
    probes := l, gates := s.mp.gates.set n ⟨some (.probe tag), []⟩ }) ?_)
  refine List.map_append.trans (congrArg₂ (· ++ ·) hothers ?_)
  exact congrArg (fun q : Probe => [q]) (if_pos rfl)

/-! ### PROBE_END (R64, R65, R68) -/

theorem holderProbe_of_holds {s : State} {n : SlotNo} {p : Probe} {w : Walk} (h : probeHolds s n p w) :
    s.holderProbe n = some p := by
  obtain ⟨q, hq⟩ : ∃ q, s.mp.probeOn p.tag = some q :=
    Option.isSome_iff_exists.mp (List.find?_isSome.mpr ⟨p, h.outstanding, beq_self_eq_true p.tag⟩)
  have htag : q.tag = p.tag := eq_of_beq (List.find?_some (p := fun q : Probe => q.tag == p.tag) hq)
  rw [State.holderProbe, h.holds]
  exact hq.trans (congrArg some (h.alone q (List.mem_of_find?_eq_some hq) htag))

theorem Walk.result_of_walkResult {w : Walk} {r : PairResult} (h : walkResult w r) : w.result = some r := by
  obtain ⟨hphase, rfl⟩ | ⟨hphase, rfl⟩ := h <;> rw [Walk.result, hphase]

theorem Walk.result_eq_none_of {w : Walk} (hfound : w.phase ≠ .found) (habsent : w.phase ≠ .absent) :
    w.result = none := by
  unfold Walk.result
  split
  · next h => exact absurd h hfound
  · next h => exact absurd h habsent
  · rfl

/-- The probe's walk gives its result. -/
theorem exec_probeEnd_of_result {s : State} {n : SlotNo} {p : Probe} {w : Walk} {r : PairResult}
    (h : probeHolds s n p w) (hr : w.result = some r) : exec (.probeEnd n) s = .next (s.endProbe n p r) := by
  rw [exec, execProbeEnd, holderProbe_of_holds h]
  dsimp only
  rw [h.walks, Option.bind_some, hr]

theorem exec_probeEnd_of_walking {s : State} {n : SlotNo} {p : Probe} {w : Walk}
    (h : probeHolds s n p w) (hr : w.result = none) : exec (.probeEnd n) s = .next s := by
  rw [exec, execProbeEnd, holderProbe_of_holds h]
  dsimp only
  rw [h.walks, Option.bind_some, hr]

/-- The tag freed and the gate passed on, in the words of the statements. -/
theorem freeTagOf_releaseGate {s : State} {n : SlotNo} {p : Probe} {w : Walk} (h : probeHolds s n p w) :
    (s.freeTagOf p.tag).releaseGate n = probeGone s n p :=
  releaseGate_eq_released (s := s.freeTagOf p.tag) h.release

theorem deliver_one (s : State) (tag : Fin 32) (r : PairResult) : s.deliver [tag] r = (resultIn s tag r).tryDecide := by
  have henter : Pair.enter [tag] r = fun p => if p.result = .pending tag then { p with result := r } else p := by
    funext p
    unfold Pair.enter
    split
    · next t ht => simp [ht]
    · next hother => exact (if_neg (hother tag)).symm
  rw [State.deliver, henter]
  rfl

theorem endProbe_of_withdrawn {s : State} {n : SlotNo} {p : Probe} {w : Walk} (h : probeHolds s n p w)
    (hwithdrawn : p.withdrawn = true) (r : PairResult) : s.endProbe n p r = probeGone s n p :=
  (if_pos hwithdrawn).trans (freeTagOf_releaseGate h)

theorem endProbe_of_kept {s : State} {n : SlotNo} {p : Probe} {w : Walk} (h : probeHolds s n p w)
    (hkept : p.withdrawn = false) (r : PairResult) :
    s.endProbe n p r = (resultIn (probeGone s n p) p.tag r).tryDecide := by
  rw [← freeTagOf_releaseGate h, ← deliver_one]
  exact if_neg (Bool.eq_false_iff.mp hkept)

theorem released_te (s : State) (n : SlotNo) : (released s n).te = s.te := by
  unfold released
  repeat' split
  all_goals rfl

theorem resultIn_probeGone_table (s : State) (n : SlotNo) (p : Probe) (r : PairResult) :
    (resultIn (probeGone s n p) p.tag r).te = (resultIn s p.tag r).te := by
  have hte : (probeGone s n p).te = s.te := released_te _ n
  unfold resultIn
  rw [hte]
  rfl

/-! ### The decision (R84, R85, R86, R90) -/

theorem undecided_of_decisionOf : ∀ {pairs : List Pair}, decisionOf pairs = .undecided → undecided pairs
  | [], h => nomatch h
  | p :: rest, h => by
      rw [decisionOf] at h
      split at h
      · next hmiss =>
        obtain ⟨before, q, after, hrest, hmissed, hopen⟩ := undecided_of_decisionOf h
        exact ⟨p :: before, q, after, congrArg (p :: ·) hrest, List.forall_mem_cons.mpr ⟨hmiss, hmissed⟩, hopen⟩
      · cases h
      · next tag htag => exact ⟨[], p, rest, rfl, nofun, .inr ⟨tag, htag⟩⟩
      · next hopen => exact ⟨[], p, rest, rfl, nofun, .inl hopen⟩

/-- A change of the window does not look at the probe table. -/
theorem changeWindow_withTable (s : State) (x : Option ProbeTable) (w : List Record) :
    (s.withTe { s.te with table := x }).changeWindow w =
      (s.changeWindow w).withTe { (s.changeWindow w).te with table := x } := by
  unfold State.changeWindow State.settleRecords
  dsimp only
  split <;> rfl

/-- A change of the window does not look at the command in execution. -/
theorem changeWindow_beginExecution (s : State) (c : Byte) (w : List Record) :
    (s.beginExecution c).changeWindow w = (s.changeWindow w).beginExecution c := by
  unfold State.changeWindow State.settleRecords
  dsimp only
  split <;> rfl

/-- The change of the window that ends a resolution, whatever the probe table before it. -/
theorem changeWindow_over (s : State) (x : Option ProbeTable) (t : ProbeTable) (w : List Record) :
    idled (viewTested ((s.withTe { s.te with table := x }).changeWindow w) t) =
      idled (viewTested (s.changeWindow w) t) := by
  rw [changeWindow_withTable]
  rfl

theorem resolutionOver_withTable (s : State) (x : Option ProbeTable) (t : ProbeTable) :
    resolutionOver (s.withTe { s.te with table := x }) t = resolutionOver s t :=
  changeWindow_over (probesWithdrawn s (tagsPending t)) x t _

theorem resolutionOver_beginExecution (s : State) (c : Byte) (t : ProbeTable) :
    resolutionOver (s.beginExecution c) t = (resolutionOver s t).beginExecution c :=
  congrArg (fun u => idled (viewTested u t)) (changeWindow_beginExecution (probesWithdrawn s (tagsPending t)) c _)

theorem testView_eq (s : State) (t : ProbeTable) : s.testView t = viewTested s t := by
  unfold State.testView viewTested
  split
  · next hview => rw [hview, Bool.or_true]; rfl
  · next hview => rw [Bool.eq_false_iff.mpr hview, Bool.or_false]; rfl

theorem completeResolution_eq (s : State) (t : ProbeTable) :
    s.completeResolution t (decisionOf t.pairs) = resolutionOver s t := by
  have hcleared : s.clearTable t =
      (probesWithdrawn s (tagsPending t)).withTe { s.te with table := none } := by
    rw [← withMp_withdraw]
    rfl
  rw [State.completeResolution, hcleared, testView_eq]
  exact changeWindow_over (probesWithdrawn s (tagsPending t)) none t _

theorem resolutionOver_cp (s : State) (t : ProbeTable) :
    (resolutionOver s t).cp.executing = s.cp.executing ∧ (resolutionOver s t).cp.restarts = s.cp.restarts := by
  obtain ⟨-, -, -, -, -, -, -, -, -, -, hexecuting, -, hrestarts, -⟩ :=
    State.changeWindow_frame (probesWithdrawn s (tagsPending t)) (appendResolved s.speakers s.te.settledFmt s.te.window
      t.stroke (decisionOf t.pairs))
  exact ⟨hexecuting, hrestarts⟩

theorem tryDecide_of_decided {s : State} {t : ProbeTable} (ht : s.te.table = some t) (hreplay : s.te.replay = none)
    (h : ¬undecided t.pairs) : s.tryDecide = resolutionOver s t := by
  rw [State.tryDecide, ht]
  dsimp only
  split
  · next hundecided => exact absurd (undecided_of_decisionOf hundecided) h
  · rw [hreplay]
    exact completeResolution_eq s t

theorem tryDecide_withTable {s : State} (t : ProbeTable) (hreplay : s.te.replay = none) (h : ¬undecided t.pairs) :
    (s.withTe { s.te with table := some t }).tryDecide = resolutionOver s t :=
  (tryDecide_of_decided (s := s.withTe { s.te with table := some t }) rfl hreplay h).trans
    (resolutionOver_withTable s (some t) t)

end Sys2Proof.Machine

section

open Sys2Proof Sys2Proof.Machine Sys2Proof.Rules

/-- Settles O26: the pair and the tag that PROBE_ISSUE takes, and the three ways its claim goes. -/
theorem probeIsIssuedOnTheLowestFreeTag : Obligations.ProbeIsIssuedOnTheLowestFreeTag := by
  unfold Obligations.ProbeIsIssuedOnTheLowestFreeTag
  intro s t ht
  refine ⟨fun h => h.elim (exec_probeIssue_of_noPair ht) (exec_probeIssue_of_noTag ht),
    fun before p after tag hpairs hbefore hp hfree hlower => ?_⟩
  have hexec := exec_probeIssue_of_pair ht (hpairs ▸ nextPair_of_first hbefore hp) (freeTag_of_lowest hfree hlower)
  have hentered := enterNextResult_of_first ht hpairs hbefore hp
  refine ⟨fun hconsulted => ?_, fun hnot hopen => ?_⟩
  · rw [issue_of_consulted hconsulted, hentered] at hexec
    refine ⟨fun hholder hwaiting => hexec.trans (congrArg _ ?_), fun h hholder => hexec.trans (congrArg _ ?_)⟩
    · exact claim_new_of_free (s := s.withTe _) hfree hholder hwaiting
    · exact claimGate_of_held hholder
  · rw [issue_of_notConsulted hnot, hentered] at hexec
    refine hexec.trans (congrArg _ (tryDecide_of_quiet fun t' ht' => ?_))
    cases ht'
    exact hopen

/-- Settles O27: the probe's result, delivered or discarded, over the gate's next claim. -/
theorem probeEndFreesTheTagAndTheGate : Obligations.ProbeEndFreesTheTagAndTheGate := by
  unfold Obligations.ProbeEndFreesTheTagAndTheGate
  intro s n p w h
  refine ⟨fun hwithdrawn hphase => ?_, fun hkept r hr hquiet => ?_, fun hfound habsent =>
    exec_probeEnd_of_walking h (Walk.result_eq_none_of hfound habsent)⟩
  · obtain ⟨r, hr⟩ : ∃ r, walkResult w r := hphase.elim (fun hf => ⟨_, .inr ⟨hf, rfl⟩⟩) fun ha => ⟨_, .inl ⟨ha, rfl⟩⟩
    rw [exec_probeEnd_of_result h (Walk.result_of_walkResult hr), endProbe_of_withdrawn h hwithdrawn]
  · have hgone : quiet (resultIn (probeGone s n p) p.tag r) := fun t ht =>
      hquiet t (by rwa [resultIn_probeGone_table] at ht)
    rw [exec_probeEnd_of_result h (Walk.result_of_walkResult hr), endProbe_of_kept h hkept, tryDecide_of_quiet hgone]

/-- Settles O31: each of the three results that decide reaches `tryDecide` with the table `t`. -/
theorem resolutionEndsAtItsDecision : Obligations.ResolutionEndsAtItsDecision := by
  unfold Obligations.ResolutionEndsAtItsDecision
  intro s t hreplay hdecided
  refine ⟨fun n p w r h hkept hr ht => ?_, ?_, fun v code n u h ht => ?_⟩
  · have hte := resultIn_probeGone_table s n p r
    rw [exec_probeEnd_of_result h (Walk.result_of_walkResult hr), endProbe_of_kept h hkept,
      tryDecide_of_decided (hte ▸ ht) (hte ▸ hreplay) hdecided]
    exact congrArg _ (resolutionOver_withTable _ _ _)
  · rintro ⟨old, before, p, after, tag, hold, hpairs, hbefore, hp, hfree, hnot, ht⟩
    obtain ⟨tag', htag'⟩ := freeTag_isSome hfree
    rw [exec_probeIssue_of_pair hold (hpairs ▸ nextPair_of_first hbefore hp) htag', issue_of_notConsulted hnot,
      enterNextResult_of_first hold hpairs hbefore hp, ← ht, tryDecide_withTable t hreplay hdecided]
  · have hcp := stopsConsulting_cp h
    have hureplay : u.te.replay = none := by rw [h.answers]; exact hreplay
    have hover : (u.beginExecution 0x1B).tryDecide = (resolutionOver u t).beginExecution 0x1B :=
      (tryDecide_of_decided (s := u.beginExecution 0x1B) ht hureplay hdecided).trans
        (resolutionOver_beginExecution u 0x1B t)
    obtain ⟨hexecuting, hrestarts⟩ := resolutionOver_cp u t
    rw [exec_setAccess_of_stops h, hover]
    exact congrArg _ (respond_beginExecution (by rw [hexecuting, hcp]; exact h.ready.noCommand)
      (by rw [hrestarts, hcp]; exact h.ready.noRestart) _ _ _)

end
end

section
/-!
PROOF. RESTART as it is taken: what waits is dropped, and the command in execution is cut short or goes on (R72, R177,
R178).
-/

namespace Sys2Proof.Machine

open Sys2Proof Sys2Proof.Rules

/-! ### What waits is dropped (R177) -/

theorem discardWaiting_restarting (s : State) (k : Nat) :
    s.discardWaiting.withCp { s.discardWaiting.cp with restarts := k } = restarting s k := by
  rw [State.discardWaiting, discard_eq_fixedDiscarded]
  rfl

theorem exec_restart_first {s : State} (h : s.cp.restarts = 0) :
    exec .restart s = .next (restarting s 1).cutCommand.restartIfFree := by
  rw [exec, execRestart, State.takeRestart, if_pos h]
  dsimp only
  rw [discardWaiting_restarting]

theorem exec_restart_joined {s : State} (h : 1 ≤ s.cp.restarts) (hroom : s.cp.restarts < 8) :
    exec .restart s = .next (restarting s (s.cp.restarts + 1)).restartIfFree := by
  rw [exec, execRestart, State.takeRestart, if_neg (by omega), if_pos hroom, discardWaiting_restarting]

/-- A restart in progress takes effect once no command is in execution. -/
theorem exec_restartTakesEffect_of_joined {s : State} (h : s.cp.restarts ≠ 0) :
    exec .restartTakesEffect s = .next s.restartIfFree :=
  congrArg Host.Outcome.next (if_congr (and_iff_right h) rfl rfl)

theorem restartIfFree_of_executing {s : State} (h : s.cp.executing.isSome = true) : s.restartIfFree = s :=
  if_neg (by rw [Option.isNone_iff_eq_none]; exact Option.isSome_iff_ne_none.mp h)

/-! ### The claim of the operation that is dropped (R72, R177) -/

theorem claimRemoved_of_holder {s : State} {n : SlotNo} (h : (s.gate n).holder = some .upkeep) :
    claimRemoved s n = released (upkeepOver s) n := by rw [claimRemoved, h]

theorem claimRemoved_of_not_holder {s : State} {n : SlotNo} (h : (s.gate n).holder ≠ some .upkeep) :
    claimRemoved s n = (upkeepOver s).withGate n
      ⟨(s.gate n).holder, (s.gate n).waiting.filter fun c => decide (c ≠ .upkeep)⟩ := by
  unfold claimRemoved
  split
  · next hholder => exact absurd hholder h
  · rfl

/-- A gate served as it asks, its upkeep claim is removed in the words of the statements. -/
theorem dropUpkeep_eq {s : State} {n : SlotNo} (hserved : gateServed s n)
    (honce : .upkeep ∉ (s.gate n).waiting ∨ (s.gate n).holder ≠ some .upkeep) :
    s.dropUpkeep n = silenced (claimRemoved s n) := by
  refine congrArg silenced ?_
  by_cases hholder : (s.gate n).holder = some .upkeep
  · have hnot := honce.resolve_right (not_not.mpr hholder)
    have hkept : (s.gate n).waiting.filter (fun c => c != .upkeep) = (s.gate n).waiting :=
      List.filter_eq_self.mpr fun c hc => bne_iff_ne.mpr fun he => hnot (he ▸ hc)
    rw [claimRemoved_of_holder hholder, hkept, if_pos hholder]
    exact releaseGate_upkeepOver s n
  · have hfilter : (s.gate n).waiting.filter (fun c => c != .upkeep) =
        (s.gate n).waiting.filter fun c => decide (c ≠ .upkeep) :=
      List.filter_congr fun c _ => by rw [Bool.eq_iff_iff, bne_iff_ne, decide_eq_true_iff]
    rw [claimRemoved_of_not_holder hholder, if_neg hholder, hfilter]
    cases hfree : (s.gate n).holder with
    | some c => exact serveGate_of_held (c := c) (by rw [State.gate_withGate_self])
    | none =>
        rw [hserved hfree, serveGate_of_free (by rw [State.gate_withGate_self]), State.gate_withGate_self]
        exact withGate_withGate _ n _ _

/-- A RESTART leaves the gates to the removal of the claim. -/
theorem claimRemoved_restarting (s : State) (n : SlotNo) (k : Nat) :
    claimRemoved (restarting s k) n = restarting (claimRemoved s n) k := by
  have hgate : (restarting s k).gate n = s.gate n := rfl
  have hover : (upkeepOver (restarting s k)).gate n = (upkeepOver s).gate n := rfl
  unfold claimRemoved released
  rw [hgate, hover]
  split
  · split <;> rfl
  · rfl

theorem dropUpkeep_restarting {s : State} {n : SlotNo} (hserved : gateServed s n)
    (honce : .upkeep ∉ (s.gate n).waiting ∨ (s.gate n).holder ≠ some .upkeep) (k : Nat) :
    (restarting s k).dropUpkeep n = silenced (restarting (claimRemoved s n) k) := by
  rw [dropUpkeep_eq (s := restarting s k) hserved honce, claimRemoved_restarting]

/-! ### The command in execution is cut short (R72, R177) -/

theorem cutCommand_of_none {s : State} (h : s.mp.upkeep = none) : s.cutCommand = silenced s := by
  rw [State.cutCommand, h]
  rfl

theorem cutCommand_of_format {s : State} {n : SlotNo} {k : Nat} (h : s.mp.upkeep = some (.format n k)) :
    s.cutCommand = (s.withSlot n
      (laidBare (s.slot n) .unformatted (s.slot n).base (s.slot n).size)).dropUpkeep n := by
  rw [State.cutCommand, h]
  rfl

theorem cutCommand_of_waiting {s : State} {op : UpkeepOp} (h : s.mp.upkeep = some op)
    (hop : ∀ n k, op ≠ .format n k) (hwaits : (s.gate op.slot).holder ≠ some .upkeep) :
    s.cutCommand = s.dropUpkeep op.slot := by
  rw [State.cutCommand, h]
  cases op with
  | format n k => exact absurd rfl (hop n k)
  | release n => exact if_neg hwaits
  | entry e => exact if_neg hwaits

theorem cutCommand_of_holder {s : State} {e : EntryOp} (h : s.mp.upkeep = some (.entry e))
    (hholds : (s.gate e.slot).holder = some .upkeep) : s.cutCommand = s := by
  rw [State.cutCommand, h]
  exact if_pos hholds

/-- The first RESTART whose command has ended silently. -/
theorem exec_restart_silenced {s t : State} (h : s.cp.restarts = 0)
    (hcut : (restarting s 1).cutCommand = silenced (restarting t 1)) :
    exec .restart s = exec .restartTakesEffect (silenced (restarting t 1)) := by
  rw [exec_restart_first h, hcut]
  exact (exec_restartTakesEffect_of_joined (s := silenced (restarting t 1)) Nat.one_ne_zero).symm

end Sys2Proof.Machine

section

open Sys2Proof Sys2Proof.Machine Sys2Proof.Rules

/-- Settles O49: the first RESTART by what is in execution, one that joins, and one too many. -/
theorem restartIsTakenAtOnce : Obligations.RestartIsTakenAtOnce := by
  unfold Obligations.RestartIsTakenAtOnce
  intro s
  refine ⟨fun h hnone => ?_, fun n k h hformat hserved honce => ?_, fun op h hop hnot hserved hwaits => ?_,
    fun e h hop hholds hexecuting => ?_, fun h hroom => ?_, fun h => ?_⟩
  · exact exec_restart_silenced h (cutCommand_of_none (s := restarting s 1) hnone)
  · let t := s.withSlot n (laidBare (s.slot n) .unformatted (s.slot n).base (s.slot n).size)
    exact exec_restart_silenced h ((cutCommand_of_format (s := restarting s 1) hformat).trans
      (dropUpkeep_restarting (s := t) hserved honce 1))
  · exact exec_restart_silenced h ((cutCommand_of_waiting (s := restarting s 1) hop hnot hwaits).trans
      (dropUpkeep_restarting hserved (.inr hwaits) 1))
  · rw [exec_restart_first h, cutCommand_of_holder (s := restarting s 1) hop hholds]
    exact congrArg _ (restartIfFree_of_executing (s := restarting s 1) hexecuting)
  · rw [exec_restart_joined h hroom]
    refine ⟨fun hexecuting => ?_, fun _ => ?_⟩
    · exact congrArg _ (restartIfFree_of_executing (s := restarting s _) hexecuting)
    · exact (exec_restartTakesEffect_of_joined (s := restarting s _) (Nat.succ_ne_zero _)).symm
  · rw [exec, execRestart, State.takeRestart, if_neg (by omega), if_neg (Nat.not_lt.mpr h)]
    rfl

end
end

section
/-!
PROOF. The arbiter's table (R61, R62, R69, R70).
-/

namespace Sys2Proof.Machine

open Sys2Proof Sys2Proof.Rules

/-! ### What is presented to the arbiter (R61, R62) -/

theorem probeAccess_of_lookupWaits {s : State} {m : SlotNo} {c : Nat} (h : lookupWaits s m c) :
    s.probeAccess m = some c := by
  obtain ⟨tag, p, w, hholder, hprobe, hwalk, haccess, hcell⟩ := h
  have hp : s.holderProbe m = some p := by
    rw [State.holderProbe, hholder]
    exact hprobe
  rw [State.probeAccess, hp, Option.bind_some, hwalk, Option.bind_some]
  exact Option.filter_eq_some_iff.mpr ⟨haccess, (inWindow_iff ..).mpr hcell⟩

theorem presented_eq_none {s : State} (n : SlotNo) (h : ∀ m c, ¬lookupWaits s m c) : s.presented n = none := by
  cases hpresented : s.presented n with
  | none => rfl
  | some lookup => exact absurd (lookupWaits_of_presented hpresented) (h _ _)

/-- An access of the slot that the arbiter looks at first is the one presented. -/
theorem presented_of_own {s : State} {n : SlotNo} {d : Nat} (h : lookupWaits s n d) : s.presented n = some (n, d) := by
  rw [State.presented, List.findSome?_cons, probeAccess_of_lookupWaits h]
  rfl

/-- Where a lookup waits, one is presented, that of slot `n` first. -/
theorem presented_of_waits {s : State} {m : SlotNo} {c : Nat} (h : lookupWaits s m c) (n : SlotNo) :
    ∃ m c, s.presented n = some (m, c) ∧ lookupWaits s m c ∧ ((∃ d, lookupWaits s n d) → m = n) := by
  have hsome : (s.presented n).isSome = true := List.findSome?_isSome_iff.mpr
    ⟨m, List.mem_cons_of_mem n (mem_allFour m), by rw [probeAccess_of_lookupWaits h]; rfl⟩
  obtain ⟨⟨k, d⟩, hpresented⟩ := Option.isSome_iff_exists.mp hsome
  refine ⟨k, d, hpresented, lookupWaits_of_presented hpresented, fun ⟨e, hown⟩ => ?_⟩
  exact congrArg Prod.fst (Option.some.inj (hpresented.symm.trans (presented_of_own hown)))

theorem upkeepWaits_of_access {s : State} {op : UpkeepOp} {c : Nat} (h : s.upkeepAccess = some (op, c)) :
    upkeepWaits s op c := by
  have hop := upkeepAccess_upkeep h
  rw [State.upkeepAccess, hop] at h
  dsimp only at h
  split at h
  · next hholder =>
    obtain ⟨d, hd, heq⟩ := Option.map_eq_some_iff.mp h
    cases heq
    obtain ⟨haccess, hcell⟩ := Option.filter_eq_some_iff.mp hd
    exact ⟨hop, hholder, haccess, (inWindow_iff ..).mp hcell⟩
  · cases h

theorem upkeepAccess_eq_none {s : State} (h : ∀ op c, ¬upkeepWaits s op c) : s.upkeepAccess = none := by
  cases haccess : s.upkeepAccess with
  | none => rfl
  | some access => exact absurd (upkeepWaits_of_access haccess) (h _ _)

/-! ### The grant of a lookup (R69) -/

theorem exec_arbiterGrant_idle {s : State} (n : SlotNo) (hlookup : ∀ m c, ¬lookupWaits s m c)
    (hupkeep : ∀ op c, ¬upkeepWaits s op c) : exec (.arbiterGrant n) s = .next s := by
  rw [exec, execArbiterGrant, presented_eq_none n hlookup, upkeepAccess_eq_none hupkeep]

theorem exec_arbiterGrant_of_lookup {s : State} {n m : SlotNo} {c : Nat} (h : s.presented n = some (m, c))
    (hturn : (∀ op c, ¬upkeepWaits s op c) ∨ s.mp.lookupRun < s.mp.share) :
    exec (.arbiterGrant n) s = .next (s.grantLookup m c) := by
  rw [exec, execArbiterGrant, h]
  cases haccess : s.upkeepAccess with
  | none => rfl
  | some access =>
      exact congrArg _ (if_pos (hturn.resolve_left fun hnone => hnone _ _ (upkeepWaits_of_access haccess)))

/-- The lookup's grant in the words of the statements. -/
theorem grantLookup_eq (s : State) (m : SlotNo) (c : Nat) : s.grantLookup m c = s.withMp { s.mp with
    lookupRun := min (s.mp.lookupRun + 1) s.mp.share
    probes := s.mp.probes.map fun p =>
      if (s.gate m).holder = some (.probe p.tag) then
        { p with walk := p.walk.map fun w => w.advance (cellBytesOf s.sdram w.base c) }
      else p } := by
  simp only [← readCell_eq]
  rfl

/-! ### The grant of the upkeep engine (R61, R62) -/

theorem length_linkBytes (l : Link) : (linkBytes l).length = 3 := by
  rw [linkBytes_eq_linkAsBytes, length_linkAsBytes]

theorem length_bucketHeadBytes (l : Link) : (bucketHeadBytes l).length = 4 := by
  rw [bucketHeadBytes, List.length_cons, length_linkBytes]

theorem length_headCellBytes_le (next cont : Link) (outline : List Stroke) (flags : Byte) (text : List Byte) :
    (headCellBytes next cont outline flags text).length ≤ 32 := by
  have htake := List.length_take_le 23 (payloadOf outline text)
  simp only [headCellBytes, List.length_append, length_linkBytes, List.length_cons, List.length_nil]
  omega

theorem length_contCellBytes_le (next : Link) (i : Nat) (outline : List Stroke) (text : List Byte) :
    (contCellBytes next i outline text).length ≤ 32 := by
  have htake := List.length_take_le 29 ((payloadOf outline text).drop (23 + 29 * (i - 1)))
  simp only [contCellBytes, List.length_append, length_linkBytes]
  omega

theorem directoryByte_le (bucket : Nat) : directoryByte bucket + 4 ≤ 32 := by
  unfold directoryByte
  omega

theorem formatBytes_fits (d : Slot) (c : Nat) : (formatBytes d c).1 + (formatBytes d c).2.length ≤ 32 := by
  unfold formatBytes
  split
  · simp [length_bucketHeadBytes]
  · simp [length_linkBytes]

/-- The byte addresses outside cell `c` of the window at `base`. -/
def outsideCell (base c a : Nat) : Prop := a < base + 32 * c ∨ base + 32 * c + 32 ≤ a

theorem readByte_writeCell_outside {m : List Host.Cell} {base c i a : Nat} {bytes : List Byte}
    (hfits : i + bytes.length ≤ 32) (ha : outsideCell base c a) :
    readByte (writeCell m base c i bytes) a = readByte m a := by
  have haddr : cellAddr base c = base + 32 * c := rfl
  rw [writeCell, haddr]
  unfold outsideCell at ha
  exact readByte_writeBytes_outside bytes m _ a (by omega)

/-- Every stage of an entry operation writes in the cell of its access, if at all. -/
theorem EntryOp.perform_outside {op : EntryOp} {c : Nat} (haccess : op.access = some c) (d : Slot)
    (m : List Host.Cell) {a : Nat} (ha : outsideCell d.base c a) :
    readByte (op.perform d m c).2 a = readByte m a := by
  unfold EntryOp.access at haccess
  unfold EntryOp.perform
  cases hstage : op.stage with
  | walking | returnRead | take | ended => rfl
  | unlink =>
      dsimp only
      cases hprev : op.walk.prev with
      | some p =>
          simp only [hstage, hprev, Option.some.injEq] at haccess
          exact readByte_writeCell_outside (by rw [length_linkBytes]; omega) (haccess ▸ ha)
      | none => exact readByte_writeCell_outside (by rw [length_bucketHeadBytes]; exact directoryByte_le _) ha
  | returnWrite cell next =>
      simp only [hstage, Option.some.injEq] at haccess
      exact readByte_writeCell_outside (by rw [length_linkBytes]; omega) (haccess ▸ ha)
  | writeHead => exact readByte_writeCell_outside (by rw [Nat.zero_add]; exact length_headCellBytes_le ..) ha
  | writeCont i => exact readByte_writeCell_outside (by rw [Nat.zero_add]; exact length_contCellBytes_le ..) ha
  | writeBucket => exact readByte_writeCell_outside (by rw [length_bucketHeadBytes]; exact directoryByte_le _) ha

theorem UpkeepOp.perform_outside {op : UpkeepOp} {c : Nat} {d : Slot} (haccess : op.access d = some c)
    (m : List Host.Cell) {a : Nat} (ha : outsideCell d.base c a) :
    readByte (op.perform d m c).2 a = readByte m a := by
  cases op with
  | entry e => exact e.perform_outside haccess d m ha
  | format n k => exact readByte_writeCell_outside (formatBytes_fits d c) ha
  | release n => rfl

/-! ### SET_MAINT_SHARE (R70) -/

theorem runCommand_setMaintShare (v : Byte) (s : State) : runCommand (.setMaintShare v) s =
    if v.toNat ∈ [1, 3, 7, 15] then (s.withMp { s.mp with
      share := v.toNat, lookupRun := min s.mp.lookupRun v.toNat }).done
    else s.refuse .badArg := if_congr List.contains_iff_mem rfl rfl

theorem exec_setMaintShare {s : State} (h : Ready s) (v : Byte) : exec (.setMaintShare v) s = .next
    (if v.toNat ∈ [1, 3, 7, 15] then answered (s.withMp { s.mp with
      share := v.toNat, lookupRun := min s.mp.lookupRun v.toNat }) .done 0x23 []
    else answered s .badArg 0x23 []) := by
  have hcmd := runCommand_setMaintShare v (s.beginExecution 0x23)
  split
  · next hshare =>
    exact exec_answers (t := s.withMp _) rfl rfl h rfl rfl (hcmd.trans (if_pos hshare))
  · next hshare => exact exec_refuses rfl rfl h (hcmd.trans (if_neg hshare))

end Sys2Proof.Machine

section

open Sys2Proof Sys2Proof.Machine Sys2Proof.Rules

/-- Settles O24: the table row by row, and SET_MAINT_SHARE. -/
theorem arbiterGrantsByItsTable : Obligations.ArbiterGrantsByItsTable := by
  unfold Obligations.ArbiterGrantsByItsTable
  refine ⟨fun s n hlookup hupkeep => exec_arbiterGrant_idle n hlookup hupkeep, fun s n ⟨m, c, hwaits⟩ hturn => ?_,
    fun s n op c h => ?_, fun s v h => exec_setMaintShare h v⟩
  · obtain ⟨k, d, hpresented, hlookup, hown⟩ := presented_of_waits hwaits n
    refine ⟨k, d, hlookup, hown, ?_⟩
    rw [exec_arbiterGrant_of_lookup hpresented hturn, grantLookup_eq]
  · obtain ⟨-, -, haccess, -⟩ := h.1
    exact ⟨_, exec_arbiterGrant_of_upkeep h n, rfl, fun _ a ha => UpkeepOp.perform_outside haccess s.sdram ha⟩

end
end

section
/-!
SUPPORT. Windows as lists of records: the strokes and the text they hold, the chain of their format states, displaced
lists, and what a record formed anew holds (R80, R81, R87, R98, R107).
-/

namespace Sys2Proof.Machine

open Sys2Proof Sys2Proof.Rules

/-! ### Strokes and text -/

@[simp] theorem strokesOf_nil : strokesOf [] = [] := rfl

@[simp] theorem strokesOf_cons (r : Record) (w : List Record) :
    strokesOf (r :: w) = r.data.outline ++ strokesOf w := List.flatMap_cons

@[simp] theorem strokesOf_append (v w : List Record) : strokesOf (v ++ w) = strokesOf v ++ strokesOf w :=
  List.flatMap_append

@[simp] theorem openTextOf_nil : openTextOf [] = [] := rfl

@[simp] theorem openTextOf_cons (r : Record) (w : List Record) : openTextOf (r :: w) = r.data.text ++ openTextOf w :=
  List.flatMap_cons

/-- Records of one stroke or more are no more than their strokes. -/
theorem length_le_strokesOf : ∀ {w : List Record}, (∀ r ∈ w, 1 ≤ r.data.outline.length) →
    w.length ≤ (strokesOf w).length
  | [], _ => Nat.le_refl 0
  | r :: w, h => by
      obtain ⟨hr, hw⟩ := List.forall_mem_cons.mp h
      have := length_le_strokesOf hw
      rw [strokesOf_cons, List.length_append, List.length_cons]
      omega

/-! ### Format states (R90, R98) -/

theorem lastFmt_eq (f : Fmt) (w : List Record) : lastFmt f w = (w.getLast?.map fun r => r.data.after).getD f := by
  unfold lastFmt
  cases w.getLast? <;> rfl

@[simp] theorem lastFmt_cons (f : Fmt) (r : Record) (w : List Record) : lastFmt f (r :: w) = lastFmt r.data.after w := by
  rw [lastFmt_eq, lastFmt_eq, List.getLast?_cons]
  cases w.getLast? <;> rfl

/-- A window is one chain where its older part is, and its newer part goes on from there. -/
theorem windowSound_append : ∀ {f : Fmt} {v w : List Record},
    windowSound f (v ++ w) ↔ windowSound f v ∧ windowSound (lastFmt f v) w
  | _, [], _ => (and_iff_right trivial).symm
  | f, r :: v, w => by
      rw [List.cons_append, windowSound, windowSound, windowSound_append (v := v), lastFmt_cons]
      simp only [and_assoc]

theorem windowSound_singleton {f : Fmt} {r : Record} : windowSound f [r] ↔ r.data.before = f ∧ recordSound r.data ∧
    displacedSound r.displaced r.data.outline.dropLast f := by
  rw [windowSound, windowSound, and_true]

theorem recordSound_of_mem {f : Fmt} {w : List Record} (h : windowSound f w) : ∀ r ∈ w, recordSound r.data := by
  induction w generalizing f with
  | nil => exact List.forall_mem_nil _
  | cons r w ih =>
      rw [windowSound] at h
      obtain ⟨-, hr, -, hw⟩ := h
      exact List.forall_mem_cons.mpr ⟨hr, ih hw⟩

theorem outline_pos_of_mem {f : Fmt} {w : List Record} (h : windowSound f w) : ∀ r ∈ w, 1 ≤ r.data.outline.length :=
  fun r hr => (recordSound_of_mem h r hr).1

/-! ### Displaced lists (R81) -/

@[simp] theorem records_ofRecords : ∀ w : List Record, (Displaced.ofRecords w).records = w
  | [] => rfl
  | r :: w => congrArg (r :: ·) (records_ofRecords w)

/-- The records of a chain, as a displaced list, carry its strokes. -/
theorem displacedSound_ofRecords : ∀ {f : Fmt} {w : List Record}, windowSound f w →
    displacedSound (Displaced.ofRecords w) (strokesOf w) f
  | _, [], _ => rfl
  | _, _ :: w, ⟨hbefore, hr, hdisplaced, hw⟩ =>
      ⟨hbefore, hr, hdisplaced, strokesOf w, strokesOf_cons .., displacedSound_ofRecords hw⟩

/-- The records of a sound displaced list are a chain with its strokes. -/
theorem windowSound_records : ∀ {d : Displaced} {strokes : List Stroke} {f : Fmt}, displacedSound d strokes f →
    windowSound f d.records ∧ strokesOf d.records = strokes
  | .nil, _, _, h => ⟨trivial, h.symm⟩
  | .cons _ _ _, _, _, ⟨hbefore, hr, hdisplaced, left, hleft, hrest⟩ => by
      obtain ⟨hsound, hstrokes⟩ := windowSound_records hrest
      exact ⟨⟨hbefore, hr, hdisplaced, hsound⟩, by rw [Displaced.records, strokesOf_cons, hstrokes, hleft]⟩

/-! ### A record formed anew (R87, R99, R107) -/

section

variable (speakers : Vector (List Byte) 16) (before : Fmt) (outline : List Stroke) (source : Source) (flags : Byte)
  (items : List Byte) (displaced : Displaced)

@[simp] theorem formRecord_outline :
    (formRecord speakers before outline source flags items displaced).data.outline = outline := rfl

/-- A record formed from the state before it, over displaced records with its strokes but the last, joins the chain. -/
theorem windowSound_formRecord {displaced : Displaced} (hpos : 1 ≤ outline.length) (hle : outline.length ≤ 8)
    (h : displacedSound displaced outline.dropLast before) :
    windowSound before [formRecord speakers before outline source flags items displaced] :=
  windowSound_singleton.mpr ⟨rfl, ⟨hpos, hle, List.length_take_le _ _⟩, h⟩

end

/-! ### The newest records (R80, R82) -/

theorem older_append_newest (w : List Record) (j : Nat) : older w j ++ newest w j = w := List.take_append_drop _ _

@[simp] theorem newest_zero (w : List Record) : newest w 0 = [] := List.drop_length

end Sys2Proof.Machine
end

section
/-!
PROOF. J and the candidates of a stroke (R82).
-/

namespace Sys2Proof.Machine

open Sys2Proof Sys2Proof.Rules

/-- How many strokes records hold together. -/
theorem length_strokesOf (w : List Record) : (strokesOf w).length = (w.map fun r => r.data.outline.length).sum :=
  List.length_flatMap

/-- The first `j` records of a list hold no more strokes than there is room for exactly where all of them are absorbed. -/
theorem take_le_room_iff : ∀ {l : List Record} {room j : Nat}, j ≤ l.length →
    (((l.take j).map fun r => r.data.outline.length).sum ≤ room ↔ j ≤ absorbable l room)
  | [], room, j, h => by
      obtain rfl : j = 0 := Nat.le_zero.mp h
      simp [absorbable]
  | r :: l, room, 0, _ => by simp
  | r :: l, room, j + 1, h => by
      have ih := take_le_room_iff (l := l) (room := room - r.data.outline.length) (Nat.le_of_succ_le_succ h)
      rw [List.take_succ_cons, List.map_cons, List.sum_cons, absorbable]
      split <;> omega

theorem absorbable_le_length : ∀ (l : List Record) (room : Nat), absorbable l room ≤ l.length
  | [], _ => Nat.le_refl 0
  | r :: l, room => by
      rw [absorbable]
      split
      · exact Nat.succ_le_succ (absorbable_le_length l _)
      · exact Nat.zero_le _

theorem maxCandidate_le_length (w : List Record) : maxCandidate w ≤ w.length :=
  (absorbable_le_length _ 7).trans_eq List.length_reverse

/-- J is the largest count of newest records with 7 strokes or fewer together. -/
theorem newest_strokes_le_iff {w : List Record} {j : Nat} (h : j ≤ w.length) :
    (strokesOf (newest w j)).length ≤ 7 ↔ j ≤ maxCandidate w := by
  rw [maxCandidate, ← take_le_room_iff (by rwa [List.length_reverse]), List.take_reverse, List.map_reverse,
    List.sum_reverse, ← length_strokesOf, newest]

theorem maxCandidate_le_seven {w : List Record} (h : ∀ r ∈ w, 1 ≤ r.data.outline.length) : maxCandidate w ≤ 7 := by
  have hj := maxCandidate_le_length w
  have hnewest : (newest w (maxCandidate w)).length = maxCandidate w := by rw [newest, List.length_drop]; omega
  have hpos := length_le_strokesOf fun r hr => h r (List.mem_of_mem_drop (i := w.length - maxCandidate w) hr)
  exact hnewest.symm.le.trans (hpos.trans ((newest_strokes_le_iff hj).mpr le_rfl))

theorem candidates_eq : ∀ j, candidates j = (List.range (j + 1)).reverse
  | 0 => rfl
  | j + 1 => by rw [candidates, candidates_eq j, List.range_succ (n := j + 1), List.reverse_append]; rfl

theorem mem_candidates {j k : Nat} : j ∈ candidates k ↔ j ≤ k := by
  rw [candidates_eq, List.mem_reverse, List.mem_range, Nat.lt_succ_iff]

theorem length_candidateOutline_le {w : List Record} {j : Nat} (stroke : Stroke) (h : j ≤ maxCandidate w) :
    (candidateOutline w stroke j).length ≤ 8 := by
  have := (newest_strokes_le_iff (h.trans (maxCandidate_le_length w))).mpr h
  rw [candidateOutline, List.length_append, List.length_singleton]
  omega

end Sys2Proof.Machine

section

open Sys2Proof Sys2Proof.Machine Sys2Proof.Rules

/-- Settles O28: a count of newest records is absorbed exactly where they hold 7 strokes or fewer. -/
theorem candidatesAreTheNewestRecords : Obligations.CandidatesAreTheNewestRecords := by
  unfold Obligations.CandidatesAreTheNewestRecords
  intro w stroke hpos
  exact ⟨fun j hj => newest_strokes_le_iff hj, maxCandidate_le_length w, maxCandidate_le_seven hpos, candidates_eq _,
    congrArg (strokesOf · ++ [stroke]) (newest_zero w), fun j hj => ⟨rfl, length_candidateOutline_le stroke hj⟩⟩

end
end

section
/-!
PROOF. The decision of a probe table, and the record it forms (R80, R81, R84, R87 to R90).
-/

namespace Sys2Proof.Machine

open Sys2Proof Sys2Proof.Rules

/-! ### What the results decide (R84) -/

theorem decisionOf_of_miss {p : Pair} {rest : List Pair} (h : p.result = .miss) :
    decisionOf (p :: rest) = decisionOf rest := by rw [decisionOf, h]

theorem decisionOf_eq_noHit_iff {pairs : List Pair} : decisionOf pairs = .noHit ↔ ∀ p ∈ pairs, p.result = .miss := by
  induction pairs with
  | nil => exact iff_of_true rfl (List.forall_mem_nil _)
  | cons p rest ih =>
      rw [List.forall_mem_cons]
      cases hp : p.result with
      | miss => rw [decisionOf_of_miss hp, ih, and_iff_right rfl]
      | hit | pending | unissued => simp [decisionOf, hp]

theorem decisionOf_eq_winner_iff {pairs : List Pair} {j : Nat} {n : SlotNo} {outline : List Stroke} {flags : Byte}
    {text : List Byte} : decisionOf pairs = .winner j n outline flags text ↔
      ∃ before p after, pairs = before ++ p :: after ∧ (∀ q ∈ before, q.result = .miss) ∧
        p.result = .hit flags text ∧ p.cand = j ∧ p.slot = n ∧ p.outline = outline := by
  constructor
  · intro h
    induction pairs with
    | nil => cases h
    | cons p rest ih =>
        cases hp : p.result with
        | miss =>
            obtain ⟨before, q, after, rfl, hmissed, hq⟩ := ih (decisionOf_of_miss hp ▸ h)
            exact ⟨p :: before, q, after, rfl, List.forall_mem_cons.mpr ⟨hp, hmissed⟩, hq⟩
        | hit =>
            rw [decisionOf, hp] at h
            cases h
            exact ⟨[], p, rest, rfl, List.forall_mem_nil _, hp, rfl, rfl, rfl⟩
        | pending | unissued => rw [decisionOf, hp] at h; cases h
  · rintro ⟨before, p, after, rfl, hmissed, hp, rfl, rfl, rfl⟩
    induction before with
    | nil => rw [List.nil_append, decisionOf, hp]
    | cons q before ih =>
        obtain ⟨hq, hbefore⟩ := List.forall_mem_cons.mp hmissed
        rw [List.cons_append, decisionOf_of_miss hq, ih hbefore]

theorem decisionOf_eq_undecided_iff {pairs : List Pair} : decisionOf pairs = .undecided ↔ undecided pairs :=
  ⟨undecided_of_decisionOf, decisionOf_of_undecided⟩

/-! ### The new record (R87 to R90) -/

/-- The record of a stroke without a hit (R88, R89). -/
def untranslatedRecord (speakers : Vector (List Byte) 16) (before : Fmt) (stroke : Stroke) : Record :=
  if isNumberStroke stroke then formRecord speakers before [stroke] .number glueFlag (digitText stroke) .nil
  else formRecord speakers before [stroke] .raw 0 (stenoText stroke) .nil

/-- A decision that is a candidate of the stroke over the window. -/
def Decision.fits (window : List Record) (stroke : Stroke) : Decision → Prop
  | .winner cand _ outline _ _ => cand ≤ maxCandidate window ∧ outline = candidateOutline window stroke cand
  | _ => True

section

variable (speakers : Vector (List Byte) 16) (settled : Fmt) (window : List Record) (stroke : Stroke)

theorem appendResolved_noHit : appendResolved speakers settled window stroke .noHit =
    window ++ [untranslatedRecord speakers (lastFmt settled window) stroke] := rfl

theorem appendResolved_undecided : appendResolved speakers settled window stroke .undecided =
    appendResolved speakers settled window stroke .noHit := rfl

theorem appendResolved_winner (j : Nat) (n : SlotNo) (outline : List Stroke) (flags : Byte) (text : List Byte) :
    appendResolved speakers settled window stroke (.winner j n outline flags text) =
      older window j ++ [formRecord speakers (lastFmt settled (older window j)) outline (.slot n) flags text
        (Displaced.ofRecords (newest window j))] := rfl

@[simp] theorem untranslatedRecord_outline (before : Fmt) :
    (untranslatedRecord speakers before stroke).data.outline = [stroke] := by
  unfold untranslatedRecord
  split <;> rfl

theorem untranslatedRecord_displaced (before : Fmt) : (untranslatedRecord speakers before stroke).displaced = .nil := by
  unfold untranslatedRecord
  split <;> rfl

theorem windowSound_untranslatedRecord (before : Fmt) :
    windowSound before [untranslatedRecord speakers before stroke] := by
  unfold untranslatedRecord
  split <;> exact windowSound_formRecord _ _ _ _ _ _ Nat.le.refl (by simp) rfl

/-- The newest records and the stroke after them are what is left of the stroke sequence. -/
theorem strokesOf_older_append (j : Nat) :
    strokesOf (older window j) ++ candidateOutline window stroke j = strokesOf window ++ [stroke] := by
  rw [candidateOutline, ← List.append_assoc, ← strokesOf_append, older_append_newest]

variable {settled window stroke}

/-- The decision of a table of candidates is one of them. -/
theorem decision_fits {pairs : List Pair} (h : ∀ p ∈ pairs, p.cand ≤ maxCandidate window ∧
    p.outline = candidateOutline window stroke p.cand) : (decisionOf pairs).fits window stroke := by
  cases hd : decisionOf pairs with
  | undecided | noHit => trivial
  | winner =>
      obtain ⟨before, p, after, rfl, -, -, rfl, rfl, rfl⟩ := decisionOf_eq_winner_iff.mp hd
      exact h p (List.mem_append_right before List.mem_cons_self)

/-- A new record that takes the stroke in adds it to the stroke sequence. -/
theorem strokesOf_appendResolved {d : Decision} (hd : d.fits window stroke) :
    strokesOf (appendResolved speakers settled window stroke d) = strokesOf window ++ [stroke] := by
  cases d with
  | undecided | noHit => simp [appendResolved_undecided, appendResolved_noHit]
  | winner j n outline flags text =>
      obtain ⟨-, rfl⟩ := hd
      rw [appendResolved_winner, strokesOf_append, strokesOf_cons, formRecord_outline, strokesOf_nil, List.append_nil,
        strokesOf_older_append]

/-- A new record joins the chain of its window. -/
theorem windowSound_appendResolved {d : Decision} (h : windowSound settled window) (hd : d.fits window stroke) :
    windowSound settled (appendResolved speakers settled window stroke d) := by
  cases d with
  | undecided | noHit => exact windowSound_append.mpr ⟨h, windowSound_untranslatedRecord speakers stroke _⟩
  | winner j n outline flags text =>
      obtain ⟨hj, rfl⟩ := hd
      rw [← older_append_newest window j, windowSound_append] at h
      refine windowSound_append.mpr ⟨h.1, windowSound_formRecord _ _ _ _ _ _ ?_
        (length_candidateOutline_le stroke hj) ?_⟩
      · simp [candidateOutline]
      · rw [candidateOutline, List.dropLast_concat]
        exact displacedSound_ofRecords h.2

end

end Sys2Proof.Machine

section

open Sys2Proof Sys2Proof.Machine Sys2Proof.Rules

/-- Settles O30: the first pair that did not miss, and the record that each decision forms. -/
theorem decisionFormsTheNewRecord : Obligations.DecisionFormsTheNewRecord := by
  unfold Obligations.DecisionFormsTheNewRecord
  refine ⟨fun pairs => ⟨decisionOf_eq_noHit_iff, fun _ _ _ _ _ => decisionOf_eq_winner_iff,
    decisionOf_eq_undecided_iff⟩, fun speakers settled window stroke => ?_⟩
  simp only [← lastFmt_eq]
  refine ⟨fun j n flags text _ => ?_, ?_⟩
  · refine ⟨_, appendResolved_winner speakers settled window stroke j n _ flags text, records_ofRecords _, rfl, ?_⟩
    rw [strokesOf_append, strokesOf_cons, strokesOf_nil, List.append_nil]
    exact strokesOf_older_append window stroke j
  · refine ⟨_, appendResolved_noHit speakers settled window stroke, untranslatedRecord_displaced .., fun h => ?_,
      fun h => ?_⟩
    · rw [untranslatedRecord, if_pos h]; rfl
    · rw [untranslatedRecord, if_neg (Bool.eq_false_iff.mp h)]

end
end

section
/-!
SUPPORT. What immediate settling leaves, and what a change of the window does to the TE and to the report queue (R113,
R115, R117).
-/

namespace Sys2Proof.Machine

open Sys2Proof Sys2Proof.Rules

/-! ### Immediate settling (R117) -/

section

variable (more : List Record → Bool)

theorem settleWhile_append : ∀ w, (settleWhile more w).1 ++ (settleWhile more w).2 = w
  | [] => rfl
  | r :: w => by
      rw [settleWhile]
      split
      · exact congrArg (r :: ·) (settleWhile_append w)
      · rfl

/-- Settling goes on until no record is left or its condition fails. -/
theorem settleWhile_stops : ∀ w, (settleWhile more w).2 = [] ∨ more (settleWhile more w).2 = false
  | [] => .inl rfl
  | r :: w => by
      rw [settleWhile]
      split
      · exact settleWhile_stops w
      · next h => exact .inr (Bool.eq_false_iff.mpr h)

/-- The newest record stays where the condition fails for it alone. -/
theorem settleWhile_keeps_newest {r : Record} (h : more [r] = false) : ∀ v, ∃ u, (settleWhile more (v ++ [r])).2 = u ++ [r]
  | [] => ⟨[], by rw [List.nil_append, settleWhile, if_neg (Bool.eq_false_iff.mp h)]⟩
  | a :: v => by
      rw [List.cons_append, settleWhile]
      split
      · exact settleWhile_keeps_newest h v
      · exact ⟨a :: v, rfl⟩

end

/-- The records that settle and the window left are the window. -/
theorem immediateSettle_append (w : List Record) : (immediateSettle w).1 ++ (immediateSettle w).2 = w := by
  unfold immediateSettle
  simp only [List.append_assoc, settleWhile_append]

/-- Fewer records hold no more strokes. -/
theorem length_strokesOf_settleWhile_le (more : List Record → Bool) (w : List Record) :
    (strokesOf (settleWhile more w).2).length ≤ (strokesOf w).length := by
  have h := congrArg (fun v => (strokesOf v).length) (settleWhile_append more w)
  simp only [strokesOf_append, List.length_append] at h
  omega

/-- The first step leaves 16 strokes at most, and the later ones no more. -/
theorem length_strokesOf_immediateSettle_le (w : List Record) : (strokesOf (immediateSettle w).2).length ≤ 16 := by
  have hone : (strokesOf (settleWhile tooManyStrokes w).2).length ≤ 16 := by
    rcases settleWhile_stops tooManyStrokes w with h | h
    · rw [h]; exact Nat.zero_le _
    · exact not_lt.mp (of_decide_eq_false h)
  exact (length_strokesOf_settleWhile_le _ _).trans ((length_strokesOf_settleWhile_le _ _).trans hone)

/-- The last step leaves 480 characters at most. -/
theorem length_openTextOf_immediateSettle_le (w : List Record) : (openTextOf (immediateSettle w).2).length ≤ 480 := by
  rcases settleWhile_stops textTooLong (settleWhile newestSettlesBefore (settleWhile tooManyStrokes w).2).2 with h | h
  · rw [immediateSettle, h]; exact Nat.zero_le _
  · exact not_lt.mp (of_decide_eq_false h)

/-- The newest record of a window stays. -/
theorem immediateSettle_keeps_newest {r : Record} (hr : recordSound r.data) (v : List Record) :
    ∃ u, (immediateSettle (v ++ [r])).2 = u ++ [r] := by
  obtain ⟨-, hstrokes, htext⟩ := hr
  have htooMany : tooManyStrokes [r] = false := decide_eq_false (by
    rw [strokesOf_cons, strokesOf_nil, List.append_nil, Config.windowStrokes]; omega)
  have hbefore : newestSettlesBefore [r] = false := by simp [newestSettlesBefore]
  have htooLong : textTooLong [r] = false := decide_eq_false (by
    rw [openTextOf_cons, openTextOf_nil, List.append_nil, Config.openTextLimit]; omega)
  obtain ⟨u, hu⟩ := settleWhile_keeps_newest _ htooMany v
  obtain ⟨u', hu'⟩ := settleWhile_keeps_newest _ hbefore u
  obtain ⟨u'', hu''⟩ := settleWhile_keeps_newest _ htooLong u'
  exact ⟨u'', by rw [immediateSettle, hu, hu', hu'']⟩

/-- Of a window of at most 17 strokes no more than 16 records settle. -/
theorem length_settled_le {f : Fmt} {w : List Record} (h : windowSound f w) (hstrokes : (strokesOf w).length ≤ 17) :
    (immediateSettle w).1.length ≤ 16 := by
  have hpos := length_le_strokesOf (outline_pos_of_mem h)
  have hlength := congrArg List.length (immediateSettle_append w)
  rw [List.length_append] at hlength
  rcases List.eq_nil_or_concat w with rfl | ⟨v, r, rfl⟩
  · exact Nat.zero_le _
  · rw [List.concat_eq_append] at *
    obtain ⟨u, hu⟩ := immediateSettle_keeps_newest (recordSound_of_mem h r (by simp)) v
    rw [hu, List.length_append, List.length_singleton] at hlength
    omega

/-! ### A change of the window (R115) -/

theorem settleRecords_te (s : State) (gone : List Record) :
    (s.settleRecords gone).te = { s.te with settledFmt := lastFmt s.te.settledFmt gone } := by
  rw [lastFmt_eq, State.settleRecords]
  cases gone.getLast? <;> rfl

theorem settleRecords_reports (s : State) (gone : List Record) :
    (s.settleRecords gone).cp.reports = s.cp.reports ++ gone.map Record.settledReport := by
  rw [State.settleRecords]
  cases gone.getLast? <;> rfl

theorem sendUpdates_te (s : State) (us : List Update) : (s.sendUpdates us).te = s.te := by simp

theorem sendUpdates_reports (s : State) (us : List Update) : (s.sendUpdates us).cp.reports = s.cp.reports := by simp

theorem changeWindow_te (s : State) (w : List Record) : (s.changeWindow w).te = { s.te with
    window := (immediateSettle w).2, settledFmt := lastFmt s.te.settledFmt (immediateSettle w).1 } :=
  (sendUpdates_te _ _).trans (settleRecords_te _ _)

theorem changeWindow_reports (s : State) (w : List Record) :
    (s.changeWindow w).cp.reports = s.cp.reports ++ (immediateSettle w).1.map Record.settledReport :=
  (sendUpdates_reports _ _).trans (settleRecords_reports _ _)

/-! ### The window within its limits (R80, R107, R113) -/

/-- The window is one chain within its limits, and the report queue within its places. -/
structure windowInLimits (s : State) : Prop where
  chain : windowSound s.te.settledFmt s.te.window
  strokes : (strokesOf s.te.window).length ≤ 16
  text : (openTextOf s.te.window).length ≤ 480
  reports : s.cp.reports.length ≤ 64

theorem limits_of_inOrder {s : State} (h : windowInOrder s) : windowInLimits s :=
  ⟨h.chain, h.strokes, h.text, h.reports⟩

/-- A change to a chain of at most 17 strokes, with 16 report places free, leaves the window within its limits. -/
theorem changeWindow_limits {s : State} {w : List Record} (h : windowSound s.te.settledFmt w)
    (hstrokes : (strokesOf w).length ≤ 17) (hreserved : s.cp.reports.length + 16 ≤ 64) :
    windowInLimits (s.changeWindow w) := by
  have hchain : windowSound (lastFmt s.te.settledFmt (immediateSettle w).1) (immediateSettle w).2 := by
    rw [← immediateSettle_append w, windowSound_append] at h
    exact h.2
  have hsettled := length_settled_le h hstrokes
  refine ⟨?_, ?_, ?_, ?_⟩
  · rw [changeWindow_te]; exact hchain
  · rw [changeWindow_te]; exact length_strokesOf_immediateSettle_le w
  · rw [changeWindow_te]; exact length_openTextOf_immediateSettle_le w
  · rw [changeWindow_reports, List.length_append, List.length_map]; omega

end Sys2Proof.Machine
end

section
/-!
SUPPORT. The work of the TE, case by case: its service order, the probe table of a stroke, the stroke taken, the
decision, and the replay of a rescan (R74, R77, R79, R82 to R86, R90, R91, R125 to R127).
-/

namespace Sys2Proof.Machine

open Sys2Proof Sys2Proof.Rules

/-! ### The service order (R74, R77) -/

theorem TeState.idle_iff (t : TeState) : t.idle = true ↔ t = .waiting ∨ t = .stopped := by
  cases t <;> decide

theorem free_iff {s : State} {n : Nat} (hn : 0 < n) : n ≤ s.freeReports ↔ s.cp.reports.length + n ≤ 64 := by
  rw [State.freeReports, Config.reportQueuePlaces]
  omega

theorem rescanReady_iff (s : State) : s.rescanReady = true ↔ rescanMayBegin s := by
  simp only [State.rescanReady, Bool.and_eq_true, decide_eq_true_eq, TeState.idle_iff, Config.rescanReserve,
    free_iff (Nat.succ_pos 15), and_assoc]
  rfl

theorem settleReady_iff (s : State) :
    s.settleReady = true ↔ teIdle s ∧ s.te.settleDue = true ∧ ¬rescanMayBegin s := by
  simp only [State.settleReady, Bool.and_eq_true, Bool.not_eq_true', ← rescanReady_iff, Bool.not_eq_true,
    TeState.idle_iff, and_assoc]
  rfl

theorem strokeReady_iff (s : State) : s.strokeReady = true ↔ strokeMayBeTaken s := by
  simp only [State.strokeReady, Bool.and_eq_true, Bool.not_eq_true', ← Bool.not_eq_true, rescanReady_iff,
    settleReady_iff, decide_eq_true_eq, beq_iff_eq, Config.strokeReserve, free_iff (Nat.succ_pos 16)]
  unfold rescanMayBegin strokeMayBeTaken teIdle
  constructor
  · rintro ⟨⟨⟨hwaiting, hrescan⟩, hsettle⟩, hfree⟩
    refine ⟨hwaiting, ?_, ?_, hfree⟩
    · exact Bool.eq_false_iff.mpr fun h => hrescan ⟨.inl hwaiting, h, by omega⟩
    · exact Bool.eq_false_iff.mpr fun h => hsettle ⟨.inl hwaiting, h, hrescan⟩
  · rintro ⟨hwaiting, hrescan, hsettle, hfree⟩
    refine ⟨⟨⟨hwaiting, fun h => ?_⟩, fun h => ?_⟩, hfree⟩
    · exact Bool.eq_false_iff.mp hrescan h.2.1
    · exact Bool.eq_false_iff.mp hsettle h.2.1

/-! ### The TE's work, at its end (R74) -/

/-- A change of the window does not look at the work in hand. -/
theorem changeWindow_withWork (s : State) (a : TeState) (b : Option ProbeTable) (c : Option Replay) (w : List Record) :
    (s.withTe { s.te with state := a, table := b, replay := c }).changeWindow w =
      (s.changeWindow w).withTe { (s.changeWindow w).te with state := a, table := b, replay := c } := by
  unfold State.changeWindow State.settleRecords
  dsimp only
  split <;> rfl

/-- The change of the window that ends the work, whatever the work was. -/
theorem idled_changeWindow_withWork (s : State) (a : TeState) (b : Option ProbeTable) (c : Option Replay)
    (w : List Record) : idled ((s.withTe { s.te with state := a, table := b, replay := c }).changeWindow w) =
      idled (s.changeWindow w) := by
  rw [changeWindow_withWork]
  rfl

/-! ### The probe table of a stroke (R82, R83) -/

theorem mem_pairsFor_fits {window : List Record} {v : Stroke} {slots : List SlotNo} {p : Pair}
    (h : p ∈ pairsFor window v slots) :
    p.cand ≤ maxCandidate window ∧ p.outline = candidateOutline window v p.cand := by
  obtain ⟨j, hj, hp⟩ := List.mem_flatMap.mp h
  obtain ⟨n, -, rfl⟩ := List.mem_map.mp hp
  exact ⟨mem_candidates.mp hj, rfl⟩

theorem probeTable_tableOf {s : State} {order : List SlotNo} (hranks : ranksDiffer s)
    (horder : consultedInRankOrder s order) (window : List Record) (v : Stroke) :
    tableOf s window v order (s.dict.probeTable window v) := by
  have hconsulted := eq_consultedSlots hranks horder
  refine ⟨rfl, rfl, hconsulted, mem_rankOrder s.dict, rankOrder_pairwise hranks, rfl, ?_⟩
  rw [Dict.probeTable, hconsulted, ← candidates_eq]
  rfl

/-- A table with a slot consulted starts without a decision. -/
theorem undecided_probeTable {s : State} {order : List SlotNo} (hranks : ranksDiffer s)
    (horder : consultedInRankOrder s order) (hsome : order ≠ []) (window : List Record) (v : Stroke) :
    undecided (s.dict.probeTable window v).pairs := by
  have hpairs : (s.dict.probeTable window v).pairs ≠ [] := by
    rw [Dict.probeTable, eq_consultedSlots hranks horder]
    exact fun h => hsome (List.map_eq_nil_iff.mp (List.flatMap_eq_nil_iff.mp h 0 (mem_candidates.mpr (Nat.zero_le _))))
  obtain ⟨p, rest, hcons⟩ := List.exists_cons_of_ne_nil hpairs
  exact ⟨[], p, rest, hcons, List.forall_mem_nil _, .inl (mem_pairsFor (hcons ▸ List.mem_cons_self))⟩

/-- With no slot consulted a table has no pair. -/
theorem probeTable_of_none {s : State} (h : noneConsulted s) (window : List Record) (v : Stroke) :
    (s.dict.probeTable window v).pairs = [] := by
  have hnone : s.dict.consultedSlots = [] := List.filter_eq_nil_iff.mpr fun n _ hn => by
    rcases (Slot.consulted_iff _).mp hn with hc | hc <;> rcases h n with hs | hs <;> cases hs.symm.trans hc
  rw [Dict.probeTable, hnone]
  exact List.flatMap_eq_nil_iff.mpr fun _ _ => rfl

theorem not_undecided_nil : ¬undecided [] := fun ⟨_, _, _, h, _⟩ => by
  cases (List.append_eq_nil_iff.mp h.symm).2

/-! ### The decision (R84, R85, R86, R90, R126) -/

/-- The probes of a decided table are withdrawn and it is cleared, in the words of the statements. -/
theorem clearTable_eq (s : State) (t : ProbeTable) :
    s.clearTable t = (probesWithdrawn s (tagsPending t)).withTe { s.te with table := none } := by
  rw [← withMp_withdraw]
  rfl

theorem withdraw_nil (m : Mp) : m.withdraw [] = m := by
  have hprobes : (m.withdraw []).probes = m.probes := List.filterMap_some
  have hgates : (m.withdraw []).gates = m.gates := by
    refine Vector.ext fun i hi => ?_
    have hkept (l : List Claim) : l.filter (Claim.notOn []) = l :=
      List.filter_eq_self.mpr fun c _ => by cases c <;> rfl
    simp [Mp.withdraw, hkept]
  calc m.withdraw [] = { m with probes := (m.withdraw []).probes, gates := (m.withdraw []).gates } := rfl
    _ = m := by rw [hprobes, hgates]

theorem probesWithdrawn_nil (s : State) : probesWithdrawn s [] = s := by
  rw [← withMp_withdraw, withdraw_nil]
  rfl

theorem viewTested_of_unchanged {t : ProbeTable} (h : t.viewChanged = false) (s : State) : viewTested s t = s := by
  rw [viewTested, h, Bool.or_false]
  rfl

theorem tryDecide_of_replayed {s : State} {t : ProbeTable} {rep : Replay} (ht : s.te.table = some t)
    (hreplay : s.te.replay = some rep) (h : ¬undecided t.pairs) :
    s.tryDecide = s.completeReplayed t rep (decisionOf t.pairs) := by
  rw [State.tryDecide, ht]
  dsimp only
  split
  · next hundecided => exact absurd (undecided_of_decisionOf hundecided) h
  · rw [hreplay]

/-! ### The replay of a rescan (R126, R127) -/

section

variable {s : State} {window : List Record} {v : Stroke}

theorem replayFrom_nil (window : List Record) (s : State) :
    replayFrom [] window s = idled (s.changeWindow window) := rfl

theorem replayFrom_of_undecided (h : undecided (s.dict.probeTable window v).pairs) (rest : List Stroke) :
    replayFrom (v :: rest) window s = s.replaying (s.dict.probeTable window v) rest window := by
  rw [replayFrom, decisionOf_of_undecided h]

theorem replayFrom_of_decided (h : ¬undecided (s.dict.probeTable window v).pairs) (rest : List Stroke) :
    replayFrom (v :: rest) window s = replayFrom rest (appendResolved s.speakers s.te.settledFmt window v
      (decisionOf (s.dict.probeTable window v).pairs)) s := by
  rw [replayFrom]
  split
  · next hundecided => exact absurd (undecided_of_decisionOf hundecided) h
  · rfl

/-- With no slot consulted the strokes left are decided at once. -/
theorem replayFrom_of_none (h : noneConsulted s) : ∀ (strokes : List Stroke) (window : List Record),
    replayFrom strokes window s = idled (s.changeWindow (untranslated s strokes window))
  | [], _ => rfl
  | v :: rest, window => by
      have hpairs := probeTable_of_none h window v
      rw [replayFrom_of_decided (hpairs ▸ not_undecided_nil), hpairs, decisionOf, replayFrom_of_none h rest]
      rfl

/-- A replay does not look at the work in hand. -/
theorem replayFrom_withWork (s : State) (a : TeState) (b : Option ProbeTable) (c : Option Replay) :
    ∀ (strokes : List Stroke) (window : List Record),
      replayFrom strokes window (s.withTe { s.te with state := a, table := b, replay := c }) =
        replayFrom strokes window s
  | [], window => idled_changeWindow_withWork s a b c window
  | v :: rest, window => by
      by_cases h : undecided (s.dict.probeTable window v).pairs
      · rw [replayFrom_of_undecided h, replayFrom_of_undecided (by exact h)]
        rfl
      · rw [replayFrom_of_decided h, replayFrom_of_decided (by exact h)]
        exact replayFrom_withWork s a b c rest _

/-- The replay after a replayed stroke, over the state that the decision leaves. -/
theorem completeReplayed_eq (s : State) (t : ProbeTable) (rep : Replay) (d : Decision) :
    s.completeReplayed t rep d = replayFrom rep.remaining
      (appendResolved s.speakers s.te.settledFmt rep.window t.stroke d)
      (viewTested (probesWithdrawn s (tagsPending t)) t) := by
  rw [State.completeReplayed, clearTable_eq, testView_eq]
  exact replayFrom_withWork (viewTested (probesWithdrawn s (tagsPending t)) t) s.te.state none s.te.replay _ _

end

/-! ### The stroke taken (R79, R91, R92) -/

theorem eq_undoStroke_iff (v : Stroke) : v = undoStroke ↔ v.toNat = 1024 := BitVec.toNat_inj.symm

theorem undoEmpty_iff (s : State) (r : StrokeRecord) :
    s.undoEmpty r = true ↔ r.keys.toNat = 1024 ∧ s.te.window = [] := by
  rw [State.undoEmpty, Bool.and_eq_true, beq_iff_eq, eq_undoStroke_iff, List.isEmpty_iff]

theorem undoWindow_concat (window : List Record) (new : Record) :
    undoWindow (window ++ [new]) = window ++ new.displaced.records := by
  rw [undoWindow, List.getLast?_concat, List.dropLast_concat]

section

variable {s : State} {r : StrokeRecord} (rest : List StrokeRecord)

theorem takeStroke_of_undoEmpty (hkeys : r.keys.toNat = 1024) (hwindow : s.te.window = []) :
    s.takeStroke r rest = taken s r rest true := by
  have hempty : s.undoEmpty r = true := (undoEmpty_iff s r).mpr ⟨hkeys, hwindow⟩
  rw [State.takeStroke, if_pos ((eq_undoStroke_iff _).mpr hkeys), if_pos (List.isEmpty_iff.mpr hwindow),
    State.strokeReport, hempty]
  rfl

theorem takeStroke_of_undo (hkeys : r.keys.toNat = 1024) (hwindow : s.te.window ≠ []) :
    s.takeStroke r rest = idled ((taken s r rest false).changeWindow (undoWindow s.te.window)) := by
  have hempty : s.undoEmpty r = false := Bool.eq_false_iff.mpr fun h => hwindow ((undoEmpty_iff s r).mp h).2
  rw [State.takeStroke, if_pos ((eq_undoStroke_iff _).mpr hkeys), if_neg fun h => hwindow (List.isEmpty_iff.mp h),
    State.strokeReport, hempty]
  rfl

theorem takeStroke_of_other (hkeys : r.keys.toNat ≠ 1024) :
    s.takeStroke r rest = (taken s r rest false).resolve r.keys := by
  have hempty : s.undoEmpty r = false := Bool.eq_false_iff.mpr fun h => hkeys ((undoEmpty_iff s r).mp h).1
  rw [State.takeStroke, if_neg fun h => hkeys ((eq_undoStroke_iff _).mp h), State.strokeReport, hempty]
  rfl

end

/-- The TE is RESOLVING with the probe table of a stroke. -/
def State.resolving (s : State) (v : Stroke) : State :=
  s.withTe { s.te with state := .resolving, table := some (s.dict.probeTable s.te.window v), replay := none }

theorem resolve_eq (s : State) (v : Stroke) : s.resolve v = (s.resolving v).tryDecide := rfl

theorem resolve_of_undecided {s : State} {v : Stroke} (h : undecided (s.dict.probeTable s.te.window v).pairs) :
    s.resolve v = s.resolving v := tryDecide_of_quiet fun t ht => by cases ht; exact h

/-- A stroke with no slot consulted is decided at once. -/
theorem resolve_of_none {s : State} {v : Stroke} (h : noneConsulted s) :
    s.resolve v = idled (s.changeWindow (untranslated s [v] s.te.window)) := by
  have hpairs := probeTable_of_none h s.te.window v
  have hnoTags : tagsPending (s.dict.probeTable s.te.window v) = [] := by rw [tagsPending, hpairs]; rfl
  rw [resolve_eq, tryDecide_of_decided (s := s.resolving v) rfl rfl (hpairs ▸ not_undecided_nil), resolutionOver,
    hnoTags, probesWithdrawn_nil, hpairs, viewTested_of_unchanged rfl]
  exact idled_changeWindow_withWork s _ _ _ _

end Sys2Proof.Machine
end

section
/-!
SUPPORT. The work of the TE keeps the window in order (R78, R80, R81, R98, R113, R117, R126): it begins with 16 report
places free, and each end of it is a change of the window to one chain of at most 17 strokes.
-/

namespace Sys2Proof.Machine

open Sys2Proof Sys2Proof.Rules

/-! ### An idle TE -/

theorem not_busy_of_idle {s : State} (h : teIdle s) : ¬teBusy s := by
  rintro (hbusy | hbusy) <;> rcases h with h | h <;> cases hbusy.symm.trans h

/-- The TE of a state in order that is idle has no probe table and no replay. -/
theorem idle_work {s : State} (h : windowInOrder s) (hidle : teIdle s) : s.te.table = none ∧ s.te.replay = none := by
  have hbusy := not_busy_of_idle hidle
  exact ⟨Option.not_isSome_iff_eq_none.mp fun ht => hbusy (h.table.mpr ht),
    Option.not_isSome_iff_eq_none.mp fun hr => hbusy (.inr (h.replay.mpr hr))⟩

theorem inOrder_of_idle {s : State} (h : windowInLimits s) (hidle : ¬teBusy s) (htable : s.te.table = none)
    (hreplay : s.te.replay = none) : windowInOrder s where
  chain := h.chain
  strokes := h.strokes
  text := h.text
  reports := h.reports
  reserved := fun hbusy => absurd hbusy hidle
  table := iff_of_false hidle (by rw [htable]; nofun)
  replay := iff_of_false (fun hr => hidle (.inr hr)) (by rw [hreplay]; nofun)
  pairs := fun t _ ht => by rw [htable] at ht; cases ht
  replayed := fun t _ ht => by rw [htable] at ht; cases ht

theorem idled_state (s : State) : teIdle (idled s) := by
  cases hrun : s.te.run
  · exact .inr (if_neg (Bool.eq_false_iff.mp hrun))
  · exact .inl (if_pos hrun)

/-- Limits look at the window, the settled format state and the reports alone. -/
theorem limits_of_same {s t : State} (h : windowInLimits s) (hwindow : t.te.window = s.te.window)
    (hfmt : t.te.settledFmt = s.te.settledFmt) (hreports : t.cp.reports.length ≤ s.cp.reports.length) :
    windowInLimits t :=
  ⟨by rw [hwindow, hfmt]; exact h.chain, by rw [hwindow]; exact h.strokes, by rw [hwindow]; exact h.text,
    hreports.trans h.reports⟩

theorem idled_inOrder {s : State} (h : windowInLimits s) : windowInOrder (idled s) :=
  inOrder_of_idle (limits_of_same h rfl rfl le_rfl) (not_busy_of_idle (idled_state s)) rfl rfl

/-! ### The replay of a rescan (R125 to R127) -/

/-- A replayed stroke in resolution over a replay window that is one chain, with 16 report places free. -/
theorem replaying_inOrder {s : State} {window : List Record} {v : Stroke} {rest : List Stroke} (h : windowInLimits s)
    (hreserved : s.cp.reports.length + 16 ≤ 64) (hchain : windowSound s.te.settledFmt window)
    (hstrokes : strokesOf window ++ v :: rest = strokesOf s.te.window) :
    windowInOrder (s.replaying (s.dict.probeTable window v) rest window) where
  chain := h.chain
  strokes := h.strokes
  text := h.text
  reports := h.reports
  reserved := fun _ => hreserved
  table := iff_of_true (.inr rfl) rfl
  replay := iff_of_true rfl rfl
  pairs := by
    rintro t w ht rfl p hp
    cases ht
    exact mem_pairsFor_fits hp
  replayed := by
    intro t r ht hr
    cases ht
    cases hr
    exact ⟨hchain, hstrokes⟩

/-- A replay that goes on keeps the window in order, whatever work the TE was at. -/
theorem replayFrom_inOrder : ∀ {strokes : List Stroke} {window : List Record} {s : State}, windowInLimits s →
    s.cp.reports.length + 16 ≤ 64 → windowSound s.te.settledFmt window →
    strokesOf window ++ strokes = strokesOf s.te.window → windowInOrder (replayFrom strokes window s)
  | [], window, s, h, hreserved, hchain, hstrokes => by
      rw [List.append_nil] at hstrokes
      exact idled_inOrder (changeWindow_limits hchain (hstrokes ▸ h.strokes.trans (Nat.le_succ 16)) hreserved)
  | v :: rest, window, s, h, hreserved, hchain, hstrokes => by
      by_cases hdecided : undecided (s.dict.probeTable window v).pairs
      · rw [replayFrom_of_undecided hdecided]
        exact replaying_inOrder h hreserved hchain hstrokes
      · have hfits : (decisionOf (s.dict.probeTable window v).pairs).fits window v :=
          decision_fits fun p hp => mem_pairsFor_fits hp
        rw [replayFrom_of_decided hdecided]
        refine replayFrom_inOrder h hreserved (windowSound_appendResolved s.speakers hchain hfits) ?_
        rw [strokesOf_appendResolved s.speakers hfits, List.append_assoc]
        exact hstrokes

theorem beginRescan_inOrder {s : State} (h : windowInOrder s) (hready : rescanMayBegin s) :
    windowInOrder s.beginRescan := by
  obtain ⟨hidle, -, hreserved⟩ := hready
  obtain ⟨htable, hreplay⟩ := idle_work h hidle
  have hlimits := limits_of_inOrder h
  unfold State.beginRescan
  dsimp only
  split
  · exact inOrder_of_idle (limits_of_same hlimits rfl rfl le_rfl) (not_busy_of_idle (s := s) hidle) htable hreplay
  · exact replayFrom_inOrder (limits_of_same hlimits rfl rfl le_rfl) hreserved trivial rfl

/-! ### The decision (R84, R85, R90, R126) -/

theorem tryDecide_inOrder {s : State} (h : windowInOrder s) : windowInOrder s.tryDecide := by
  have hlimits := limits_of_inOrder h
  cases ht : s.te.table with
  | none => rwa [tryDecide_of_quiet fun t hsome => by cases ht.symm.trans hsome]
  | some t =>
      have hreserved := h.reserved (h.table.mpr (by rw [ht]; rfl))
      by_cases hdecided : undecided t.pairs
      · rwa [tryDecide_of_quiet fun t' ht' => by cases ht.symm.trans ht'; exact hdecided]
      · cases hr : s.te.replay with
        | none =>
            have hfits : (decisionOf t.pairs).fits s.te.window t.stroke := decision_fits (h.pairs t _ ht (by rw [hr]; rfl))
            rw [tryDecide_of_decided ht hr hdecided]
            refine idled_inOrder (limits_of_same (changeWindow_limits (s := probesWithdrawn s (tagsPending t))
              (windowSound_appendResolved s.speakers h.chain hfits) ?_ hreserved) rfl rfl le_rfl)
            rw [strokesOf_appendResolved s.speakers hfits, List.length_append]
            exact Nat.succ_le_succ h.strokes
        | some rep =>
            obtain ⟨hchain, hstrokes⟩ := h.replayed t rep ht hr
            have hfits : (decisionOf t.pairs).fits rep.window t.stroke := decision_fits (h.pairs t _ ht (by rw [hr]; rfl))
            rw [tryDecide_of_replayed ht hr hdecided, completeReplayed_eq]
            refine replayFrom_inOrder (limits_of_same hlimits rfl rfl le_rfl) hreserved
              (windowSound_appendResolved s.speakers hchain hfits) ?_
            rw [strokesOf_appendResolved s.speakers hfits, List.append_assoc]
            exact hstrokes

/-! ### The stroke taken (R79, R91, R92) -/

theorem resolve_inOrder {s : State} (h : windowInLimits s) (hreserved : s.cp.reports.length + 16 ≤ 64) (v : Stroke) :
    windowInOrder (s.resolve v) := tryDecide_inOrder {
  chain := h.chain
  strokes := h.strokes
  text := h.text
  reports := h.reports
  reserved := fun _ => hreserved
  table := iff_of_true (.inl rfl) rfl
  replay := iff_of_false nofun nofun
  pairs := by
    rintro t w ht rfl p hp
    cases ht
    exact mem_pairsFor_fits hp
  replayed := fun _ _ _ => nofun }

/-- The newest record taken back leaves one chain, its last stroke gone (R91). -/
theorem undoWindow_sound {f : Fmt} {w : List Record} (h : windowSound f w) :
    windowSound f (undoWindow w) ∧ (strokesOf (undoWindow w)).length ≤ (strokesOf w).length := by
  rcases List.eq_nil_or_concat w with rfl | ⟨older, new, rfl⟩
  · exact ⟨h, le_rfl⟩
  · rw [List.concat_eq_append] at *
    obtain ⟨holder, hnew⟩ := windowSound_append.mp h
    obtain ⟨-, -, hdisplaced⟩ := windowSound_singleton.mp hnew
    obtain ⟨hsound, hstrokes⟩ := windowSound_records hdisplaced
    rw [undoWindow_concat]
    refine ⟨windowSound_append.mpr ⟨holder, hsound⟩, ?_⟩
    simp only [strokesOf_append, strokesOf_cons, strokesOf_nil, List.append_nil, hstrokes, List.length_append,
      List.length_dropLast]
    omega

theorem length_taken_reports (s : State) (r : StrokeRecord) (rest : List StrokeRecord) (undoEmpty : Bool) :
    (taken s r rest undoEmpty).cp.reports.length = s.cp.reports.length + 1 := List.length_append

theorem takeStroke_inOrder {s : State} (h : windowInOrder s) (hready : strokeMayBeTaken s) (r : StrokeRecord)
    (rest : List StrokeRecord) : windowInOrder (s.takeStroke r rest) := by
  obtain ⟨hwaiting, -, -, hfree⟩ := hready
  obtain ⟨htable, hreplay⟩ := idle_work h (.inl hwaiting)
  have htaken (undoEmpty : Bool) : (taken s r rest undoEmpty).cp.reports.length + 16 ≤ 64 := by
    rw [length_taken_reports]; omega
  have hlimits (undoEmpty : Bool) : windowInLimits (taken s r rest undoEmpty) :=
    ⟨h.chain, h.strokes, h.text, (Nat.le_add_right _ 16).trans (htaken undoEmpty)⟩
  by_cases hkeys : r.keys.toNat = 1024
  · by_cases hwindow : s.te.window = []
    · rw [takeStroke_of_undoEmpty rest hkeys hwindow]
      exact inOrder_of_idle (hlimits true) (not_busy_of_idle (s := s) (.inl hwaiting)) htable hreplay
    · obtain ⟨hsound, hstrokes⟩ := undoWindow_sound h.chain
      rw [takeStroke_of_undo rest hkeys hwindow]
      exact idled_inOrder (changeWindow_limits (s := taken s r rest false) hsound
        (hstrokes.trans (h.strokes.trans (Nat.le_succ 16))) (htaken false))
  · rw [takeStroke_of_other rest hkeys]
    exact resolve_inOrder (hlimits false) (htaken false) r.keys

theorem serviceStroke_inOrder {s : State} (h : windowInOrder s) : windowInOrder s.serviceStroke := by
  unfold State.serviceStroke
  split
  · exact h
  · split
    · next hready => exact takeStroke_inOrder h ((strokeReady_iff s).mp hready) _ _
    · exact h

/-! ### The service of settle-due (R121) -/

theorem settleOldest_te (s : State) (r : Record) (rest : List Record) : (s.settleOldest r rest).te =
    { s.te with window := rest, settledFmt := r.data.after } := (sendUpdates_te _ _).trans (settleRecords_te _ _)

theorem settleOldest_reports (s : State) (r : Record) (rest : List Record) :
    (s.settleOldest r rest).cp.reports = s.cp.reports ++ [r.settledReport] :=
  (sendUpdates_reports _ _).trans (settleRecords_reports _ _)

theorem settleOldest_inOrder {s : State} {r : Record} {rest : List Record} (h : windowInOrder s) (hidle : teIdle s)
    (hwindow : s.te.window = r :: rest) (hfree : 0 < s.freeReports) : windowInOrder (s.settleOldest r rest) := by
  obtain ⟨htable, hreplay⟩ := idle_work h hidle
  have hte := settleOldest_te s r rest
  obtain ⟨hchain, hstrokes, htext, -⟩ := limits_of_inOrder h
  rw [hwindow] at hchain hstrokes htext
  rw [windowSound] at hchain
  obtain ⟨-, -, -, hrest⟩ := hchain
  simp only [strokesOf_cons, openTextOf_cons, List.length_append] at hstrokes htext
  refine inOrder_of_idle ⟨by rw [hte]; exact hrest, ?_, ?_, ?_⟩ ?_ (by rw [hte]; exact htable) (by rw [hte]; exact hreplay)
  · rw [hte]; exact (Nat.le_add_left _ _).trans hstrokes
  · rw [hte]; exact (Nat.le_add_left _ _).trans htext
  · rw [settleOldest_reports, List.length_append]; exact (free_iff Nat.one_pos).mp hfree
  · have hbusy := not_busy_of_idle hidle
    rwa [teBusy, hte]

theorem serveSettleDue_inOrder : ∀ {w : List Record} {s : State}, windowInOrder s → teIdle s → s.te.window = w →
    windowInOrder (serveSettleDue w s)
  | [], s, h, hidle, _ => by
      obtain ⟨htable, hreplay⟩ := idle_work h hidle
      exact inOrder_of_idle (limits_of_same (limits_of_inOrder h) rfl rfl le_rfl) (not_busy_of_idle (s := s) hidle) htable
        hreplay
  | r :: rest, s, h, hidle, hwindow => by
      rw [serveSettleDue]
      split
      · next hfree =>
        have hte := settleOldest_te s r rest
        exact serveSettleDue_inOrder (settleOldest_inOrder h hidle hwindow hfree) (by rwa [teIdle, hte]) (by rw [hte])
      · exact h

theorem serviceOrder_inOrder {s : State} (h : windowInOrder s) : windowInOrder s.serviceOrder := by
  unfold State.serviceOrder
  repeat' split
  · next hready => exact beginRescan_inOrder h ((rescanReady_iff s).mp hready)
  · next hready => exact serveSettleDue_inOrder h ((settleReady_iff s).mp hready).1 rfl
  · exact serviceStroke_inOrder h

end Sys2Proof.Machine
end

section
/-!
PROOF. Every step keeps the window in order (R78, R80, R81, R98, R107, R113, R117, R126): what the TE itself does keeps
it, and every other operation leaves the window, the work in hand and the report queue as they were, or enters results
in the probe table.
-/

namespace Sys2Proof.Machine

open Sys2Proof Sys2Proof.Rules

/-! ### Operations that leave the window alone -/

/-- The stroke of a probe table, with the candidate and the outline of each of its pairs. -/
def ProbeTable.plan (t : ProbeTable) : Stroke × List (Nat × List Stroke) :=
  (t.stroke, t.pairs.map fun p => (p.cand, p.outline))

/-- From `s` to `t` the window and the work in hand stay, but for results and rescan-pending, and no report is added. -/
structure WindowKept (s t : State) : Prop where
  window : t.te.window = s.te.window
  settledFmt : t.te.settledFmt = s.te.settledFmt
  busy : teBusy t ↔ teBusy s
  rescanning : t.te.state = .rescanning ↔ s.te.state = .rescanning
  table : t.te.table.map ProbeTable.plan = s.te.table.map ProbeTable.plan
  replay : t.te.replay = s.te.replay
  reports : t.cp.reports.length ≤ s.cp.reports.length

namespace WindowKept

variable {s t u : State}

theorem of_te (hte : t.te = s.te) (hreports : t.cp.reports = s.cp.reports) : WindowKept s t := by
  refine ⟨by rw [hte], by rw [hte], ?_, by rw [hte], by rw [hte], by rw [hte], hreports ▸ le_rfl⟩
  rw [teBusy, teBusy, hte]

theorem refl (s : State) : WindowKept s s := of_te rfl rfl

theorem trans (h : WindowKept s t) (k : WindowKept t u) : WindowKept s u where
  window := k.window.trans h.window
  settledFmt := k.settledFmt.trans h.settledFmt
  busy := k.busy.trans h.busy
  rescanning := k.rescanning.trans h.rescanning
  table := k.table.trans h.table
  replay := k.replay.trans h.replay
  reports := k.reports.trans h.reports

theorem respond (h : WindowKept s t) (st : Status) (d : List Byte) : WindowKept s (t.respond st d) :=
  h.trans (of_te (by simp) (by simp))

theorem done (h : WindowKept s t) : WindowKept s t.done := h.respond _ _

theorem refuse (s : State) (st : Status) : WindowKept s (s.refuse st) := (refl s).respond _ _

theorem foldl {f : State → Key → State} (h : ∀ s k, WindowKept s (f s k)) (l : List Key) (s : State) :
    WindowKept s (l.foldl f s) := by
  induction l generalizing s with
  | nil => exact .refl s
  | cons k l ih => exact (h s k).trans (ih _)

/-- A pair of the table has its candidate and its outline from a pair that stood there before. -/
theorem pair_before (h : WindowKept s t) {table : ProbeTable} (ht : t.te.table = some table) :
    ∃ old, s.te.table = some old ∧ table.stroke = old.stroke ∧
      ∀ p ∈ table.pairs, ∃ q ∈ old.pairs, q.cand = p.cand ∧ q.outline = p.outline := by
  have hplan := h.table
  rw [ht, Option.map_some] at hplan
  obtain ⟨old, hold, hsame⟩ := Option.map_eq_some_iff.mp hplan.symm
  obtain ⟨hstroke, hpairs⟩ := Prod.mk.inj hsame
  refine ⟨old, hold, hstroke.symm, fun p hp => ?_⟩
  have hmem : (p.cand, p.outline) ∈ old.pairs.map fun p => (p.cand, p.outline) :=
    hpairs ▸ List.mem_map.mpr ⟨p, hp, rfl⟩
  obtain ⟨q, hq, hsame⟩ := List.mem_map.mp hmem
  exact ⟨q, hq, Prod.mk.inj hsame⟩

theorem inOrder (h : WindowKept s t) (hs : windowInOrder s) : windowInOrder t where
  chain := by rw [h.window, h.settledFmt]; exact hs.chain
  strokes := by rw [h.window]; exact hs.strokes
  text := by rw [h.window]; exact hs.text
  reports := h.reports.trans hs.reports
  reserved := fun hbusy => (Nat.add_le_add_right h.reports 16).trans (hs.reserved (h.busy.mp hbusy))
  table := by
    have hsome := congrArg Option.isSome h.table
    rw [Option.isSome_map, Option.isSome_map] at hsome
    rw [h.busy, hsome]
    exact hs.table
  replay := by rw [h.rescanning, h.replay]; exact hs.replay
  pairs := fun table w ht hw p hp => by
    obtain ⟨old, hold, hstroke, hpairs⟩ := h.pair_before ht
    obtain ⟨q, hq, hcand, houtline⟩ := hpairs p hp
    rw [h.replay, h.window] at hw
    rw [← hcand, ← houtline, hstroke]
    exact hs.pairs old w hold hw q hq
  replayed := fun table r ht hr => by
    obtain ⟨old, hold, hstroke, -⟩ := h.pair_before ht
    rw [h.window, h.settledFmt, hstroke]
    exact hs.replayed old r hold (h.replay ▸ hr)

end WindowKept

/-- The window stays in order where the TE is as it was and so are the reports. -/
theorem inOrder_of_te {s t : State} (h : windowInOrder s) (hte : t.te = s.te) (hreports : t.cp.reports = s.cp.reports) :
    windowInOrder t := (WindowKept.of_te hte hreports).inOrder h

/-! ### Signals, notices and results (R28, R31, R86, R122, R124) -/

theorem signalRescan_window (s : State) : WindowKept s s.signalRescan := by
  unfold State.signalRescan
  split
  · exact .refl s
  · exact ⟨rfl, rfl, .rfl, .rfl, rfl, rfl, le_rfl⟩

theorem changeNotice_window (s : State) (outline : List Stroke) : WindowKept s (s.changeNotice outline) := by
  unfold State.changeNotice
  split
  · exact ⟨rfl, rfl, .rfl, .rfl, rfl, rfl, le_rfl⟩
  · exact .refl s

theorem setSettleDue_window (s : State) : WindowKept s s.setSettleDue := ⟨rfl, rfl, .rfl, .rfl, rfl, rfl, le_rfl⟩

/-- The probe table changes, and no pair its candidate or its outline. -/
theorem withTable_window {s : State} {f : ProbeTable → ProbeTable} (hf : ∀ t, (f t).plan = t.plan) :
    WindowKept s (s.withTe { s.te with table := s.te.table.map f }) where
  window := rfl
  settledFmt := rfl
  busy := .rfl
  rescanning := .rfl
  table := by
    rw [State.withTe_te, Option.map_map]
    exact congrArg (Option.map · s.te.table) (funext hf)
  replay := rfl
  reports := le_rfl

theorem noteViewChange_window (s : State) : WindowKept s s.noteViewChange := withTable_window fun _ => rfl

theorem enter_plan (tags : List (Fin 32)) (r : PairResult) (p : Pair) :
    (p.enter tags r).cand = p.cand ∧ (p.enter tags r).outline = p.outline := by
  unfold Pair.enter
  repeat' split
  all_goals exact ⟨rfl, rfl⟩

theorem enterNext_plan (r : PairResult) : ∀ pairs : List Pair,
    (enterNext r pairs).map (fun p => (p.cand, p.outline)) = pairs.map fun p => (p.cand, p.outline)
  | [] => rfl
  | p :: rest => by
      rw [enterNext]
      split
      · rfl
      · exact congrArg ((p.cand, p.outline) :: ·) (enterNext_plan r rest)

theorem enterNextResult_window (s : State) (r : PairResult) : WindowKept s (s.enterNextResult r) :=
  withTable_window fun t => congrArg (t.stroke, ·) (enterNext_plan r t.pairs)

theorem deliver_inOrder {s : State} (h : windowInOrder s) (tags : List (Fin 32)) (r : PairResult) :
    windowInOrder (s.deliver tags r) := by
  refine tryDecide_inOrder ((withTable_window (f := fun t => { t with pairs := t.pairs.map (Pair.enter tags r) })
    fun t => congrArg (t.stroke, ·) ?_).inOrder h)
  refine List.map_map.trans (List.map_congr_left fun p _ => ?_)
  obtain ⟨hcand, houtline⟩ := enter_plan tags r p
  exact Prod.ext hcand houtline

/-! ### Commands -/

theorem answerMiss_inOrder {s : State} (h : windowInOrder s) (n : SlotNo) : windowInOrder (s.answerMiss n) :=
  deliver_inOrder (s := s.withMp (s.mp.withdraw (s.mp.waitingInto n))) (inOrder_of_te h rfl rfl) _ _

theorem giveAccess_inOrder {s : State} (h : windowInOrder s) (n : SlotNo) (a : Access) :
    windowInOrder (s.giveAccess n a) := by
  have hslot : WindowKept s (s.withSlot n { s.slot n with access := a }) := .of_te rfl rfl
  have hview (u : State) : WindowKept u u.signalRescan.noteViewChange :=
    (signalRescan_window u).trans (noteViewChange_window _)
  unfold State.giveAccess
  dsimp only
  split
  · exact hslot.inOrder h
  · split
    · exact (hslot.trans (hview _)).inOrder h
    · exact answerMiss_inOrder ((hslot.trans (hview _)).inOrder h) n

theorem cmdSetAccess_inOrder {s : State} (h : windowInOrder s) (v code : Byte) :
    windowInOrder (cmdSetAccess v code s) := by
  unfold cmdSetAccess
  repeat' split
  any_goals exact (WindowKept.refuse s _).inOrder h
  exact (WindowKept.refl _).done.inOrder (giveAccess_inOrder h _ _)

theorem cmdStart_inOrder {s : State} (h : windowInOrder s) : windowInOrder (cmdStart s) := by
  have hon : WindowKept s (s.withTe { s.te with run := true }) := ⟨rfl, rfl, .rfl, .rfl, rfl, rfl, le_rfl⟩
  unfold cmdStart
  dsimp only
  split
  · next hstopped =>
    have hwaiting : WindowKept s (s.withTe { s.te with run := true, state := .waiting }) :=
      ⟨rfl, rfl, by simp [teBusy, hstopped], by simp [hstopped], rfl, rfl, le_rfl⟩
    exact (WindowKept.refl _).done.inOrder (serviceOrder_inOrder (hwaiting.inOrder h))
  · exact hon.done.inOrder h

theorem cmdStop_window (s : State) : WindowKept s (cmdStop s) := by
  refine WindowKept.done ⟨rfl, rfl, ?_, ?_, rfl, rfl, le_rfl⟩
  · simp only [teBusy, State.withTe_te]
    split <;> simp_all
  · simp only [State.withTe_te]
    split <;> simp_all

/-- The key commands that handle the keys one after another. -/
theorem cmdKeys_window (s : State) : (∀ d g st, WindowKept s (cmdSetKeyTiming d g st s)) ∧
    (∀ v, WindowKept s (cmdSetKeyPolarity v s)) ∧ ∀ v, WindowKept s (cmdSetKeyMask v s) := by
  have hset (u : Ksu) : WindowKept s (s.withKsu u) := .of_te rfl rfl
  refine ⟨fun d g st => ?_, fun v => ?_, fun v => ?_⟩
  · exact ((hset _).trans (.foldl (fun s k => .of_te (by simp) (by simp)) _ _)).done
  · unfold cmdSetKeyPolarity
    split
    · exact .refuse s _
    · exact (((hset _).trans (.foldl (fun s k => .of_te (by simp) (by simp)) _ _)).trans
        (.foldl (fun s k => .of_te (by simp) (by simp)) _ _)).done
  · unfold cmdSetKeyMask
    split
    · exact .refuse s _
    · exact (((hset _).trans (.foldl (fun s k => .of_te (by simp) (by simp)) _ _)).trans
        (.foldl (fun s k => .of_te (by simp) (by simp)) _ _)).done

theorem runCommand_windowInOrder {s : State} (h : windowInOrder s) (c : Command) : windowInOrder (runCommand c s) := by
  obtain ⟨htiming, hpolarity, hmask⟩ := cmdKeys_window s
  cases c with
  | setKeyTiming d g st => exact (htiming d g st).inOrder h
  | setKeyPolarity v => exact (hpolarity v).inOrder h
  | setKeyMask v => exact (hmask v).inOrder h
  | setAccess n a => exact cmdSetAccess_inOrder h n a
  | start => exact cmdStart_inOrder h
  | stop => exact (cmdStop_window s).inOrder h
  | setRanks a b c d =>
      rw [runCommand, cmdSetRanks]
      split
      · exact (WindowKept.refuse s _).inOrder h
      · have hranks (d : Dict) : WindowKept s (s.withDict d) := .of_te rfl rfl
        exact (((hranks _).trans (signalRescan_window _)).trans (noteViewChange_window _)).done.inOrder h
  | setSpeaker n l =>
      have hstored (v : Vector (List Byte) 16) : WindowKept s (s.withSpeakers v) := .of_te rfl rfl
      rw [runCommand, cmdSetSpeaker]
      repeat' split
      · exact (WindowKept.refuse s _).inOrder h
      · exact ((hstored _).trans (signalRescan_window _)).done.inOrder h
      · exact (WindowKept.refuse s _).inOrder h
  | setSettleTime v =>
      have hset : WindowKept s (s.withTe { s.te with settleTime := settleTimeOf v.toNat }) :=
        ⟨rfl, rfl, .rfl, .rfl, rfl, rfl, le_rfl⟩
      exact hset.done.inOrder h
  | flush => exact (setSettleDue_window s).done.inOrder h
  | setStacking | injectStroke | setClock | keyInfo | setMemory | setWindow | format | releaseSlot | lockSlot | slotInfo
  | addEntry | replaceEntry | retireEntry | fetchEntry | setMaintShare | windowInfo | setChannel | channelOn | channelOff
  | channelInfo | clearNotices | setInterrupts =>
      refine WindowKept.inOrder ?_ h
      simp only [runCommand, cmdSetStacking, cmdInjectStroke, cmdSetClock, cmdKeyInfo, cmdSetMemory, cmdSetWindow,
        cmdFormat, cmdReleaseSlot, cmdLockSlot, cmdSlotInfo, cmdEntryWrite, cmdFetchEntry, cmdFetchAny, cmdFetchNamed,
        cmdSetMaintShare, cmdWindowInfo, cmdSetChannel, cmdChannelOn, cmdChannelOff, cmdChannelInfo]
      repeat' split
      all_goals exact .of_te (by simp) (by simp)

theorem beginFrame_windowInOrder {s : State} (h : windowInOrder s) (f : Frame) (rest : List Frame) :
    windowInOrder (s.beginFrame f rest) := by
  have hbegun : windowInOrder ((s.withCp { s.cp with queue := rest }).beginExecution (echoOf f.bytes)) :=
    inOrder_of_te h rfl rfl
  unfold State.beginFrame
  dsimp only
  split
  · exact runCommand_windowInOrder hbegun _
  · exact (WindowKept.refuse _ _).inOrder hbegun

theorem hostCommand_windowInOrder {s : State} (h : windowInOrder s) (c : Command) :
    windowInOrder (hostCommand c (runCommand c) s) := by
  unfold hostCommand
  split
  · exact runCommand_windowInOrder (s := s.beginExecution c.code) (inOrder_of_te h rfl rfl) c
  · exact inOrder_of_te h (by simp) (by simp)

/-! ### RESTART and the hard reset (R178, R180) -/

/-- An empty window with an empty report queue is in order. -/
theorem inOrder_of_empty {s : State} (hidle : ¬teBusy s) (hwindow : s.te.window = []) (htable : s.te.table = none)
    (hreplay : s.te.replay = none) (hreports : s.cp.reports = []) : windowInOrder s :=
  inOrder_of_idle ⟨by rw [hwindow]; trivial, by rw [hwindow]; exact Nat.zero_le _, by rw [hwindow]; exact Nat.zero_le _,
    by rw [hreports]; exact Nat.zero_le _⟩ hidle htable hreplay

theorem restartEffect_windowInOrder (s : State) : windowInOrder s.restartEffect :=
  inOrder_of_empty (not_busy_of_idle (.inr rfl)) rfl rfl rfl rfl

theorem restartIfFree_windowInOrder {s : State} (h : windowInOrder s) : windowInOrder s.restartIfFree := by
  unfold State.restartIfFree
  split
  · exact restartEffect_windowInOrder s
  · exact h

theorem takeRestart_windowInOrder {s : State} (h : windowInOrder s) : windowInOrder s.takeRestart := by
  unfold State.takeRestart
  dsimp only
  split
  · exact restartIfFree_windowInOrder (inOrder_of_te h (by simp) (by simp))
  · split
    · exact restartIfFree_windowInOrder (inOrder_of_te h (by simp) (by simp))
    · exact inOrder_of_te h (by simp) (by simp)

theorem takeFrame_windowInOrder {s : State} (h : windowInOrder s) (f : Frame) : windowInOrder (s.takeFrame f) := by
  unfold State.takeFrame
  split
  · exact takeRestart_windowInOrder h
  · exact inOrder_of_te h (by simp) (by simp)

/-! ### Transactions -/

theorem leadByte_window (s : State) (b : Byte) : WindowKept s (s.leadByte b) := by
  unfold State.leadByte
  repeat' split
  all_goals exact .of_te rfl rfl

theorem selectFall_window (s : State) : WindowKept s s.selectFall := by
  unfold State.selectFall
  split <;> exact .of_te rfl rfl

/-- A transaction keeps the window in order where the effect at its end does. -/
theorem transaction_windowInOrder {shifted : Type} {s : State} (h : windowInOrder s) (part : SpiPart shifted)
    {lead : State → State} (hlead : ∀ u, WindowKept u (lead u)) (kind : Option Transfer) (n : shifted → Nat)
    {effect : shifted → Transaction → State → State}
    (heffect : ∀ x t u, windowInOrder u → windowInOrder (effect x t u)) :
    windowInOrder (s.transact part lead fun x u => u.selectRise kind (n x) (effect x)) :=
  transact_keeps part h (fun u hu => (selectFall_window u).inOrder hu) (fun u hu => (hlead u).inOrder hu)
    fun x _ hu => selectRise_keeps kind (n x) hu (fun _ _ hv => inOrder_of_te hv rfl rfl)
      fun t v _ _ _ hv => heffect x t v hv

/-! ### The Memory Port -/

theorem answerEntryOp_window (s : State) (op : EntryOp) : WindowKept s (s.answerEntryOp op) := by
  have hanswered : WindowKept s ((s.withSlot op.slot (op.descriptor (s.slot op.slot))).respond op.status op.data) :=
    .of_te (by simp) (by simp)
  unfold State.answerEntryOp
  dsimp only
  split
  · exact hanswered.trans (changeNotice_window _ _)
  · exact hanswered

theorem endEntryOp_window (s : State) (op : EntryOp) : WindowKept s (s.endEntryOp op) := by
  unfold State.endEntryOp
  split
  · exact (answerEntryOp_window s op).trans (.of_te (by simp) (by simp))
  · exact .of_te (by simp) (by simp)

theorem issue_windowInOrder {s : State} (h : windowInOrder s) (p : Pair) (tag : Fin 32) :
    windowInOrder (s.issue p tag) := by
  unfold State.issue
  dsimp only
  split
  · have hentered := (enterNextResult_window s (.pending tag)).inOrder h
    exact inOrder_of_te hentered (by simp) (by simp)
  · exact tryDecide_inOrder ((enterNextResult_window s _).inOrder h)

theorem endProbe_windowInOrder {s : State} (h : windowInOrder s) (n : SlotNo) (p : Probe) (r : PairResult) :
    windowInOrder (s.endProbe n p r) := by
  have hreleased : WindowKept s ((s.freeTagOf p.tag).releaseGate n) :=
    .of_te (by simp [State.freeTagOf]) (by simp [State.freeTagOf])
  unfold State.endProbe
  dsimp only
  split
  · exact hreleased.inOrder h
  · exact deliver_inOrder (hreleased.inOrder h) _ _

theorem withKsu_window (s : State) (u : Ksu) : WindowKept s (s.withKsu u) := .of_te rfl rfl

theorem withChan_window (s : State) (n : ChanNo) (c : Channel) : WindowKept s (s.withChan n c) := .of_te rfl rfl

theorem noteLapse_te (s : State) (n : ChanNo) (entered : Bool) : (s.noteLapse n entered).te = s.te := by
  cases entered <;> rfl

theorem noteLapse_reports (s : State) (n : ChanNo) (entered : Bool) :
    (s.noteLapse n entered).cp.reports = s.cp.reports := by
  cases entered <;> rfl

/-! ### Every step -/

theorem exec_windowInOrder (i : Instr) {s t : State} (h : windowInOrder s) (hexec : exec i s = .next t) :
    windowInOrder t := by
  cases hc : commandOf i with
  | some c =>
      cases (exec_of_command hc s).symm.trans hexec
      exact hostCommand_windowInOrder h c
  | none =>
      cases i with
      | hardReset =>
          cases hexec
          exact inOrder_of_empty (not_busy_of_idle (.inr rfl)) rfl rfl rfl rfl
      | commandBegin =>
          cases hexec
          repeat' split
          · exact h
          · exact beginFrame_windowInOrder h _ _
          · exact h
      | commandWrite part =>
          cases hexec
          refine transaction_windowInOrder h part (leadByte_window · _) _ _ fun x t u hu => ?_
          split
          · exact hu
          · exact takeFrame_windowInOrder hu _
      | responseRead part =>
          cases hexec
          refine transaction_windowInOrder h part (leadByte_window · _) _ _ fun x t u hu => ?_
          split
          · exact inOrder_of_te hu rfl rfl
          · exact hu
      | reportRead part =>
          cases hexec
          refine transaction_windowInOrder h part (leadByte_window · _) _ _ fun x t u hu => ?_
          split
          · have hread : WindowKept u (u.withCp { u.cp with reports := u.cp.reports.drop 1 }) :=
              ⟨rfl, rfl, .rfl, .rfl, rfl, rfl, (List.drop_sublist 1 _).length_le⟩
            exact hread.inOrder hu
          · exact hu
      | statusRead part =>
          cases hexec
          exact transaction_windowInOrder h part (leadByte_window · _) _ _ fun x t u hu => hu
      | voidTransaction lead part =>
          cases hexec
          repeat' split
          · exact transaction_windowInOrder h part (leadByte_window · _) _ _ fun x t u hu => hu
          · exact h
          · exact transaction_windowInOrder h part WindowKept.refl _ _ fun x t u hu => hu
      | restart => cases hexec; exact takeRestart_windowInOrder h
      | restartTakesEffect =>
          cases hexec
          split
          · exact restartEffect_windowInOrder s
          · exact h
      | upkeepOperationEnd =>
          cases hexec
          repeat' split
          · exact (endEntryOp_window s _).inOrder h
          · exact h
          · exact h
      | probeIssue =>
          cases hexec
          repeat' split
          · exact h
          · exact issue_windowInOrder h _ _
          · exact h
      | probeEnd n =>
          cases hexec
          repeat' split
          · exact h
          · exact h
          · exact endProbe_windowInOrder h n _ _
      | takeStroke => cases hexec; exact serviceStroke_inOrder h
      | settleDueService =>
          cases hexec
          split
          · next hready => exact serveSettleDue_inOrder h ((settleReady_iff s).mp hready).1 rfl
          · exact h
      | settleTimerExpiry =>
          cases hexec
          split
          · have hstopped : WindowKept s (s.withTe { s.te with settleTimer := none }) :=
              ⟨rfl, rfl, .rfl, .rfl, rfl, rfl, le_rfl⟩
            exact (hstopped.trans (setSettleDue_window _)).inOrder h
          · exact h
      | rescan =>
          cases hexec
          split
          · next hready => exact beginRescan_inOrder h ((rescanReady_iff s).mp hready)
          · exact h
      | lineLevelChange | strokeClockTick => cases hexec; exact (withKsu_window s _).inOrder h
      | transmitByte n | byteComplete n | fclrChange n | keepaliveTimerExpiry n | returnToMark n =>
          cases hexec; exact (withChan_window s n _).inOrder h
      | breakReceived n => cases hexec; exact inOrder_of_te h (noteLapse_te _ _ _) (noteLapse_reports _ _ _)
      | stallTimerExpiry n =>
          cases hexec
          split
          · exact inOrder_of_te h (noteLapse_te _ _ _) (noteLapse_reports _ _ _)
          · exact h
      | arbiterGrant n =>
          cases hexec
          repeat' split
          all_goals exact inOrder_of_te h rfl rfl
      | debounceExpiry | holdTimerExpiry | inboundByte =>
          cases hexec
          split
          · exact inOrder_of_te h (by simp) (by simp)
          · exact h
      | formatComplete =>
          cases hexec
          repeat' split
          · exact inOrder_of_te h (by simp) (by simp)
          · exact h
          · exact h
      | _ => cases hc

end Sys2Proof.Machine

section

open Sys2Proof Sys2Proof.Machine Sys2Proof.Rules

/-- Settles O58: the TE's own work ends in one chain within the limits, and no other step changes the window. -/
theorem windowStaysInOneChain : Obligations.WindowStaysInOneChain := by
  unfold Obligations.WindowStaysInOneChain
  intro s t h hstep
  unfold step at hstep
  split at hstep
  · cases hstep; exact h
  · next i rest _ =>
    have hwaiting : windowInOrder (s.withPending rest) := inOrder_of_te h rfl rfl
    exact exec_windowInOrder i hwaiting hstep

end
end

section
/-!
PROOF. TAKE_STROKE, an undo, and the service of settle-due (R77, R79, R83, R88, R89, R91, R92, R115, R121, R129, R130).
-/

namespace Sys2Proof.Machine

open Sys2Proof Sys2Proof.Rules

/-! ### TAKE_STROKE (R77) -/

theorem exec_takeStroke_of_ready {s : State} {r : StrokeRecord} {rest : List StrokeRecord}
    (hqueue : s.strokeQueue = r :: rest) (h : strokeMayBeTaken s) :
    exec .takeStroke s = .next (s.takeStroke r rest) := by
  rw [exec, execTakeStroke, State.serviceStroke, hqueue]
  dsimp only
  rw [if_pos ((strokeReady_iff s).mpr h)]

theorem exec_takeStroke_of_not_ready {s : State} (h : s.strokeQueue = [] ∨ ¬strokeMayBeTaken s) :
    exec .takeStroke s = .next s := by
  rw [exec, execTakeStroke, State.serviceStroke]
  split
  · rfl
  · next hqueue =>
    have hnot : ¬strokeMayBeTaken s := h.resolve_left (by rw [hqueue]; nofun)
    rw [if_neg fun hready => hnot ((strokeReady_iff s).mp hready)]

/-! ### The service of settle-due (R77, R121) -/

theorem exec_settleDueService_of_ready {s : State} (h : teIdle s ∧ s.te.settleDue = true ∧ ¬rescanMayBegin s) :
    exec .settleDueService s = .next (serveSettleDue s.te.window s) := by
  rw [exec, execSettleDueService, if_pos ((settleReady_iff s).mpr h)]

theorem exec_settleDueService_of_not_ready {s : State}
    (h : ¬(teIdle s ∧ s.te.settleDue = true ∧ ¬rescanMayBegin s)) : exec .settleDueService s = .next s := by
  rw [exec, execSettleDueService, if_neg fun hready => h ((settleReady_iff s).mp hready)]

theorem commonPrefix_self : ∀ text : List Byte, commonPrefix text text = text.length
  | [] => rfl
  | b :: text => by rw [commonPrefix, if_pos rfl, commonPrefix_self text, List.length_cons]

/-- The update of one settled chunk leaves the rest of the open text as it is (R130). -/
theorem updatesOf_oldest (chunk text : List Byte) :
    updatesOf (chunk ++ text) [chunk] text = [⟨[chunk], text.length, []⟩] := by
  have hchunk : [chunk].flatten = chunk := by simp
  unfold updatesOf
  dsimp only
  rw [hchunk, if_pos (List.isPrefixOf_iff_prefix.mpr (List.prefix_append chunk text)), List.drop_left,
    commonPrefix_self, List.drop_length]

/-- The oldest record settles, in the words of the statements. -/
theorem settleOldest_eq {s : State} {r : Record} {rest : List Record} (h : s.te.window = r :: rest) :
    s.settleOldest r rest = oldestSettled s r rest := by
  rw [State.settleOldest, State.openText, h, openTextOf_cons, updatesOf_oldest]
  rfl

theorem oldestSettled_te (s : State) (r : Record) (rest : List Record) : (oldestSettled s r rest).te =
    { s.te with window := rest, settledFmt := r.data.after } := sendUpdates_te _ _

theorem oldestSettled_reports (s : State) (r : Record) (rest : List Record) :
    (oldestSettled s r rest).cp.reports.length = s.cp.reports.length + 1 := by
  rw [oldestSettled, sendUpdates_reports]
  exact List.length_append

/-- Settling a record lets no rescan in before the service goes on. -/
theorem settleReady_oldestSettled {s : State} (r : Record) (rest : List Record)
    (h : teIdle s ∧ s.te.settleDue = true ∧ ¬rescanMayBegin s) :
    teIdle (oldestSettled s r rest) ∧ (oldestSettled s r rest).te.settleDue = true ∧
      ¬rescanMayBegin (oldestSettled s r rest) := by
  obtain ⟨hidle, hdue, hrescan⟩ := h
  have hte := oldestSettled_te s r rest
  refine ⟨by rwa [teIdle, hte], by rwa [hte], fun hbegin => ?_⟩
  rw [rescanMayBegin, teIdle, hte, oldestSettled_reports] at hbegin
  exact hrescan ⟨hidle, hbegin.2.1, by omega⟩

end Sys2Proof.Machine

section

open Sys2Proof Sys2Proof.Machine Sys2Proof.Rules

/-- Settles O29: the stroke's table decides nothing where a slot is consulted, and all at once where none is. -/
theorem strokeIsTakenIntoResolution : Obligations.StrokeIsTakenIntoResolution := by
  unfold Obligations.StrokeIsTakenIntoResolution
  refine fun s => ⟨exec_takeStroke_of_not_ready, fun r rest hqueue hready hkeys => ?_⟩
  rw [exec_takeStroke_of_ready hqueue hready, takeStroke_of_other rest hkeys]
  refine ⟨fun order hranks horder hsome => ⟨s.dict.probeTable s.te.window r.keys,
    probeTable_tableOf hranks horder _ _, ?_⟩, fun hnone => ?_⟩
  · exact congrArg _ (resolve_of_undecided (s := taken s r rest false)
      (undecided_probeTable hranks horder hsome s.te.window r.keys))
  · exact congrArg _ (resolve_of_none (s := taken s r rest false) hnone)

/-- Settles O33: an undo of a window that is not empty, and one of an empty window. -/
theorem undoTakesBackOneStroke : Obligations.UndoTakesBackOneStroke := by
  unfold Obligations.UndoTakesBackOneStroke
  refine ⟨fun s r rest window new hqueue hready hkeys hwindow => ?_, fun s r rest hqueue hready hkeys hwindow => ?_⟩
  · rw [exec_takeStroke_of_ready hqueue hready, takeStroke_of_undo rest hkeys (by rw [hwindow]; simp), hwindow,
      undoWindow_concat]
  · rw [exec_takeStroke_of_ready hqueue hready, takeStroke_of_undoEmpty rest hkeys hwindow]

/-- Settles O41: one record at a time, the service being as ready after a record has settled as before. -/
theorem settleDueSettlesRecordByRecord : Obligations.SettleDueSettlesRecordByRecord := by
  unfold Obligations.SettleDueSettlesRecordByRecord
  refine fun s => ⟨exec_settleDueService_of_not_ready, fun hidle hdue hrescan => ?_⟩
  have hready := And.intro hidle (And.intro hdue hrescan)
  rw [exec_settleDueService_of_ready hready]
  refine ⟨fun hwindow => ?_, fun hfull hwindow => ?_, fun r rest hwindow hroom => ?_⟩
  · rw [hwindow, serveSettleDue]
  · obtain ⟨r, rest, hcons⟩ := List.exists_cons_of_ne_nil hwindow
    rw [hcons, serveSettleDue, if_neg fun hfree => by have := (free_iff Nat.one_pos).mp hfree; omega]
  · have hfree : 0 < s.freeReports := (free_iff Nat.one_pos).mpr hroom
    rw [exec_settleDueService_of_ready (settleReady_oldestSettled r rest hready), oldestSettled_te, hwindow,
      serveSettleDue, if_pos hfree, settleOldest_eq hwindow]

end
end

section
/-!
PROOF. The replay of a rescan (R77, R83 to R86, R125 to R127).
-/

namespace Sys2Proof.Machine

open Sys2Proof Sys2Proof.Rules

/-! ### RESCAN (R77, R125) -/

theorem exec_rescan_of_ready {s : State} (h : rescanMayBegin s) : exec .rescan s = .next s.beginRescan := by
  rw [exec, execRescan, if_pos ((rescanReady_iff s).mpr h)]

theorem exec_rescan_of_not_ready {s : State} (h : ¬rescanMayBegin s) : exec .rescan s = .next s := by
  rw [exec, execRescan, if_neg fun hready => h ((rescanReady_iff s).mp hready)]

theorem beginRescan_of_empty {s : State} (h : s.te.window = []) :
    s.beginRescan = s.withTe { s.te with rescanPending := false } := by
  rw [State.beginRescan, if_pos (List.isEmpty_iff.mpr h)]

theorem beginRescan_of_window {s : State} (h : s.te.window ≠ []) : s.beginRescan =
    replayFrom (strokesOf s.te.window) [] (s.withTe { s.te with rescanPending := false }) := by
  rw [State.beginRescan, if_neg fun hempty => h (List.isEmpty_iff.mp hempty)]
  exact replayFrom_withWork (s.withTe { s.te with rescanPending := false }) .rescanning s.te.table s.te.replay _ _

/-! ### A replayed stroke is decided (R126, R127) -/

theorem completeReplayed_withTable (s : State) (x : Option ProbeTable) (t : ProbeTable) (rep : Replay) (d : Decision) :
    (s.withTe { s.te with table := x }).completeReplayed t rep d = s.completeReplayed t rep d := by
  rw [completeReplayed_eq, completeReplayed_eq]
  exact replayFrom_withWork (viewTested (probesWithdrawn s (tagsPending t)) t) s.te.state x s.te.replay _ _

/-- What holds of the state after the decision holds as the statements have the replay go on. -/
theorem replayGoesOn_of_completeReplayed {s : State} {t : ProbeTable} {rep : Replay} {after : State → Prop}
    (h : after (s.completeReplayed t rep (decisionOf t.pairs))) : replayGoesOn s t rep after := by
  let u := viewTested (probesWithdrawn s (tagsPending t)) t
  rw [completeReplayed_eq] at h
  refine ⟨fun v rest order hremaining hranks horder hsome =>
    ⟨_, probeTable_tableOf (s := u) hranks horder _ v, ?_⟩, fun hend => ?_⟩
  · rw [hremaining, replayFrom_of_undecided (s := u) (undecided_probeTable hranks horder hsome _ _)] at h
    exact h
  · rcases hend with hremaining | hnone
    · rw [hremaining, replayFrom_nil] at h
      rw [hremaining]
      exact h
    · rw [replayFrom_of_none (s := u) hnone] at h
      exact h

/-! ### The work of the TE, whatever command is in execution -/

section

variable (s : State) (c : Byte)

theorem replayFrom_beginExecution : ∀ (strokes : List Stroke) (window : List Record),
    replayFrom strokes window (s.beginExecution c) = (replayFrom strokes window s).beginExecution c
  | [], window => congrArg idled (changeWindow_beginExecution s c window)
  | v :: rest, window => by
      by_cases h : undecided (s.dict.probeTable window v).pairs
      · rw [replayFrom_of_undecided h, replayFrom_of_undecided (by exact h)]
        rfl
      · rw [replayFrom_of_decided h, replayFrom_of_decided (by exact h)]
        exact replayFrom_beginExecution rest _

theorem completeReplayed_beginExecution (t : ProbeTable) (rep : Replay) (d : Decision) :
    (s.beginExecution c).completeReplayed t rep d = (s.completeReplayed t rep d).beginExecution c := by
  rw [completeReplayed_eq, completeReplayed_eq]
  exact replayFrom_beginExecution (viewTested (probesWithdrawn s (tagsPending t)) t) c _ _

theorem tryDecide_beginExecution : (s.beginExecution c).tryDecide = s.tryDecide.beginExecution c := by
  by_cases hquiet : quiet s
  · rw [tryDecide_of_quiet hquiet, tryDecide_of_quiet (by exact hquiet)]
  · obtain ⟨t, ht, hdecided⟩ : ∃ t, s.te.table = some t ∧ ¬undecided t.pairs := by simpa [quiet] using hquiet
    cases hr : s.te.replay with
    | none =>
        rw [tryDecide_of_decided ht hr hdecided, tryDecide_of_decided (s := s.beginExecution c) ht hr hdecided]
        exact resolutionOver_beginExecution s c t
    | some rep =>
        rw [tryDecide_of_replayed ht hr hdecided, tryDecide_of_replayed (s := s.beginExecution c) ht hr hdecided]
        exact completeReplayed_beginExecution s c t rep _

end

end Sys2Proof.Machine

section

open Sys2Proof Sys2Proof.Machine Sys2Proof.Rules

/-- Settles O32: RESCAN begins the replay, and each of the three results that decide carries it on. -/
theorem rescanReplaysTheWindow : Obligations.RescanReplaysTheWindow := by
  unfold Obligations.RescanReplaysTheWindow
  refine ⟨fun s => ⟨exec_rescan_of_not_ready, fun hready => ?_⟩, fun s t rep hreplay hdecided => ?_⟩
  · rw [exec_rescan_of_ready hready]
    refine ⟨fun hwindow => congrArg _ (beginRescan_of_empty hwindow),
      fun v rest order hwindow hstrokes hranks horder hsome => ⟨_, probeTable_tableOf hranks horder [] v, ?_⟩,
      fun hwindow hnone => ?_⟩
    · rw [beginRescan_of_window hwindow, hstrokes]
      exact congrArg _ (replayFrom_of_undecided (s := s.withTe { s.te with rescanPending := false })
        (undecided_probeTable hranks horder hsome [] v) rest)
    · rw [beginRescan_of_window hwindow]
      exact congrArg _ (replayFrom_of_none (s := s.withTe { s.te with rescanPending := false }) hnone _ [])
  · refine ⟨fun n p w r h hkept hr ht => replayGoesOn_of_completeReplayed ?_, fun hissued =>
      replayGoesOn_of_completeReplayed ?_, fun v code n u h ht => replayGoesOn_of_completeReplayed ?_⟩
    · have hte := resultIn_probeGone_table s n p r
      have hgone : (resultIn (probeGone s n p) p.tag r).te.replay = some rep := by rw [hte]; exact hreplay
      rw [exec_probeEnd_of_result h (Walk.result_of_walkResult hr), endProbe_of_kept h hkept,
        tryDecide_of_replayed (hte ▸ ht) hgone hdecided]
      exact congrArg _ (completeReplayed_withTable _ _ _ _ _)
    · obtain ⟨old, before, p, after, tag, hold, hpairs, hbefore, hp, hfree, hnot, ht⟩ := hissued
      obtain ⟨tag', htag'⟩ := freeTag_isSome hfree
      rw [exec_probeIssue_of_pair hold (hpairs ▸ nextPair_of_first hbefore hp) htag', issue_of_notConsulted hnot,
        enterNextResult_of_first hold hpairs hbefore hp, ← ht,
        tryDecide_of_replayed (s := s.withTe { s.te with table := some t }) rfl hreplay hdecided]
      exact congrArg _ (completeReplayed_withTable _ _ _ _ _)
    · have hcp := stopsConsulting_cp h
      have hureplay : u.te.replay = some rep := by rw [h.answers]; exact hreplay
      obtain ⟨-, -, -, -, -, -, -, -, -, hexecuting, -, hrestarts, -⟩ :=
        State.completeReplayed_frame u t rep (decisionOf t.pairs)
      rw [exec_setAccess_of_stops h, tryDecide_beginExecution, tryDecide_of_replayed ht hureplay hdecided]
      exact congrArg _ (respond_beginExecution (by rw [hexecuting, hcp]; exact h.ready.noCommand)
        (by rw [hrestarts, hcp]; exact h.ready.noRestart) _ _ _)

end
end

section
/-!
PROOF. START, STOP, SET_SPEAKER, FLUSH, SET_SETTLE_TIME and the settle timer (R75 to R77, R109, R110, R119 to R121).
-/

namespace Sys2Proof.Machine

open Sys2Proof Sys2Proof.Rules

/-! ### The service order, whatever command is in execution (R77) -/

section

variable (s : State) (c : Byte)

theorem beginRescan_beginExecution : (s.beginExecution c).beginRescan = s.beginRescan.beginExecution c := by
  by_cases h : s.te.window = []
  · rw [beginRescan_of_empty h, beginRescan_of_empty (by exact h)]
    rfl
  · rw [beginRescan_of_window h, beginRescan_of_window (by exact h)]
    exact replayFrom_beginExecution (s.withTe { s.te with rescanPending := false }) c _ _

theorem takeStroke_beginExecution (r : StrokeRecord) (rest : List StrokeRecord) :
    (s.beginExecution c).takeStroke r rest = (s.takeStroke r rest).beginExecution c := by
  by_cases hkeys : r.keys.toNat = 1024
  · by_cases hwindow : s.te.window = []
    · rw [takeStroke_of_undoEmpty rest hkeys hwindow, takeStroke_of_undoEmpty rest hkeys (by exact hwindow)]
      rfl
    · rw [takeStroke_of_undo rest hkeys hwindow, takeStroke_of_undo rest hkeys (by exact hwindow)]
      exact congrArg idled (changeWindow_beginExecution (taken s r rest false) c _)
  · rw [takeStroke_of_other rest hkeys, takeStroke_of_other rest hkeys]
    exact tryDecide_beginExecution ((taken s r rest false).resolving r.keys) c

theorem serviceStroke_beginExecution : (s.beginExecution c).serviceStroke = s.serviceStroke.beginExecution c := by
  have hqueue : (s.beginExecution c).strokeQueue = s.strokeQueue := rfl
  have hready : (s.beginExecution c).strokeReady = s.strokeReady := rfl
  rw [State.serviceStroke, State.serviceStroke, hqueue, hready]
  split
  · rfl
  · split
    · exact takeStroke_beginExecution s c _ _
    · rfl

end

theorem serveSettleDue_beginExecution (c : Byte) : ∀ (w : List Record) (s : State),
    serveSettleDue w (s.beginExecution c) = (serveSettleDue w s).beginExecution c
  | [], _ => rfl
  | r :: rest, s => by
      have hfree : (s.beginExecution c).freeReports = s.freeReports := rfl
      rw [serveSettleDue, serveSettleDue, hfree]
      split
      · exact serveSettleDue_beginExecution c rest (s.settleOldest r rest)
      · rfl

theorem serviceOrder_beginExecution (s : State) (c : Byte) :
    (s.beginExecution c).serviceOrder = s.serviceOrder.beginExecution c := by
  have hrescan : (s.beginExecution c).rescanReady = s.rescanReady := rfl
  have hsettle : (s.beginExecution c).settleReady = s.settleReady := rfl
  rw [State.serviceOrder, State.serviceOrder, hrescan, hsettle]
  split
  · exact beginRescan_beginExecution s c
  · split
    · exact serveSettleDue_beginExecution c s.te.window s
    · exact serviceStroke_beginExecution s c

/-! ### START and STOP (R75, R76) -/

/-- The service order looked at by a TE that waits is the one step whose turn it is. -/
theorem serviceOrder_isOneStep {u : State} (hwaiting : u.te.state = .waiting) :
    (rescanMayBegin u → exec .rescan u = .next u.serviceOrder) ∧
    (¬rescanMayBegin u → u.te.settleDue = true → exec .settleDueService u = .next u.serviceOrder) ∧
    (¬rescanMayBegin u → u.te.settleDue = false → exec .takeStroke u = .next u.serviceOrder) := by
  refine ⟨fun hrescan => ?_, fun hrescan hdue => ?_, fun hrescan hdue => ?_⟩
  · rw [exec_rescan_of_ready hrescan, State.serviceOrder, if_pos ((rescanReady_iff u).mpr hrescan)]
  · have hready : teIdle u ∧ u.te.settleDue = true ∧ ¬rescanMayBegin u := ⟨.inl hwaiting, hdue, hrescan⟩
    rw [exec_settleDueService_of_ready hready, State.serviceOrder, if_neg fun h => hrescan ((rescanReady_iff u).mp h),
      if_pos ((settleReady_iff u).mpr hready)]
  · rw [State.serviceOrder, if_neg fun h => hrescan ((rescanReady_iff u).mp h), if_neg fun h =>
      Bool.eq_false_iff.mp hdue ((settleReady_iff u).mp h).2.1]
    rfl

theorem exec_start_of_running {s : State} (h : Ready s) (hrunning : s.te.state ≠ .stopped) :
    exec .start s = .next (answered (s.withTe { s.te with run := true }) .done 0x24 []) := by
  refine exec_answers rfl rfl h rfl rfl ?_
  rw [runCommand, cmdStart, if_neg (by exact hrunning)]
  rfl

theorem exec_start_of_stopped {s : State} (h : Ready s) (hstopped : s.te.state = .stopped) : exec .start s =
    .next (answered (s.withTe { s.te with run := true, state := .waiting }).serviceOrder .done 0x24 []) := by
  obtain ⟨-, -, -, -, -, -, -, -, hexecuting, -, hrestarts, -⟩ :=
    State.serviceOrder_frame (s.withTe { s.te with run := true, state := .waiting })
  refine exec_answers rfl rfl h hexecuting hrestarts ?_
  rw [runCommand, cmdStart, if_pos (by exact hstopped), ← serviceOrder_beginExecution]
  rfl

/-! ### SET_SPEAKER (R109, R110) -/

theorem speakerOf_of_lt {v : Byte} {n : Fin 16} (h : v.toNat = n.val) : speakerOf v = some n := by
  unfold speakerOf
  rw [dif_pos (h ▸ n.isLt)]
  exact congrArg some (Fin.ext h)

theorem speakerOf_of_gt {v : Byte} (h : 15 < v.toNat) : speakerOf v = none := dif_neg (by omega)

theorem printables_iff (label : List Byte) : label.all isPrintable = true ↔ ∀ b ∈ label, printable b := by
  simp [isPrintable, printable]

theorem signalRescan_eq (s : State) : s.signalRescan =
    s.withTe { s.te with rescanPending := s.te.rescanPending || !s.te.window.isEmpty } := by
  unfold State.signalRescan
  split
  · next hempty => rw [hempty, Bool.not_true, Bool.or_false]; rfl
  · next hempty => rw [Bool.eq_false_iff.mpr hempty, Bool.not_false, Bool.or_true]; rfl

theorem exec_setSpeaker_printable {s : State} {v : Byte} {n : Fin 16} {label : List Byte} (h : Ready s)
    (hv : v.toNat = n.val) (hlabel : ∀ b ∈ label, printable b) : exec (.setSpeaker v label) s =
      .next (answered ((s.withSpeakers (s.speakers.set n (label.take 24))).withTe { s.te with
        rescanPending := s.te.rescanPending || !s.te.window.isEmpty }) .done 0x27 []) := by
  refine exec_answers rfl rfl h rfl rfl ?_
  rw [runCommand, cmdSetSpeaker, speakerOf_of_lt hv]
  dsimp only
  rw [if_pos ((printables_iff label).mpr hlabel), signalRescan_eq]
  rfl

theorem exec_setSpeaker_unprintable {s : State} {v : Byte} {n : Fin 16} {label : List Byte} (h : Ready s)
    (hv : v.toNat = n.val) (hlabel : ¬∀ b ∈ label, printable b) :
    exec (.setSpeaker v label) s = .next (answered s .badText 0x27 []) := by
  refine exec_refuses rfl rfl h ?_
  rw [runCommand, cmdSetSpeaker, speakerOf_of_lt hv]
  exact if_neg fun hall => hlabel ((printables_iff label).mp hall)

theorem exec_setSpeaker_outOfRange {s : State} {v : Byte} (h : Ready s) (hv : 15 < v.toNat) (label : List Byte) :
    exec (.setSpeaker v label) s = .next (answered s .badArg 0x27 []) := by
  refine exec_refuses rfl rfl h ?_
  rw [runCommand, cmdSetSpeaker, speakerOf_of_gt hv]

/-! ### The settle timer (R119 to R121) -/

theorem exec_settleTimerExpiry_of_running {s : State} (h : s.te.settleTimer.isSome = true) :
    exec .settleTimerExpiry s = .next (s.withTe { s.te with settleTimer := none, settleDue := true }) := by
  rw [exec, execSettleTimerExpiry, if_pos h]
  rfl

theorem exec_settleTimerExpiry_of_idle {s : State} (h : s.te.settleTimer = none) :
    exec .settleTimerExpiry s = .next s := by
  rw [exec, execSettleTimerExpiry, if_neg (by rw [h]; nofun)]

theorem settleTimeOf_eq (n : Nat) : settleTimeOf n =
    if n = 0 then 0 else if n < 200 then 200 else if 20000 < n then 20000 else n := by
  unfold settleTimeOf clamp
  repeat' split
  all_goals omega

end Sys2Proof.Machine

section

open Sys2Proof Sys2Proof.Machine Sys2Proof.Rules

/-- Settles O40: each command by its cases; START looks at the service order in the words of the steps it may take. -/
theorem translationIsSteeredByItsCommands : Obligations.TranslationIsSteeredByItsCommands := by
  unfold Obligations.TranslationIsSteeredByItsCommands
  refine ⟨fun s h => ⟨exec_start_of_running h, fun hstopped => ⟨_, serviceOrder_isOneStep rfl,
    exec_start_of_stopped h hstopped⟩, exec_answers rfl rfl h rfl rfl rfl⟩, fun s v label h =>
    ⟨fun hv => exec_setSpeaker_outOfRange h hv label, fun n hv => ?_⟩,
    ⟨fun s => ⟨exec_settleTimerExpiry_of_running, exec_settleTimerExpiry_of_idle⟩, fun s h =>
      exec_answers (t := s.setSettleDue) rfl rfl h rfl rfl rfl, fun s v h => ?_⟩⟩
  · split
    · next hlabel => exact exec_setSpeaker_unprintable h hv hlabel
    · next hlabel => exact exec_setSpeaker_printable h hv (not_not.mp hlabel)
  · rw [← settleTimeOf_eq]
    exact exec_answers (t := s.withTe { s.te with settleTime := settleTimeOf v.toNat }) rfl rfl h rfl rfl rfl

end
end

section
/-!
PROOF. WINDOW_INFO: the TE and a record as bytes (R93, R94, R184, R185).
-/

namespace Sys2Proof.Machine

open Sys2Proof Sys2Proof.Rules

/-! ### Fields side by side in one byte -/

/-- A field placed above bits that are all below it adds to them. -/
theorem or_shiftLeft_eq_add {a : Byte} {k : Nat} (h : a.toNat < 2 ^ k) (n : Nat) :
    a ||| (byteOf n <<< k) = a + BitVec.ofNat 8 (2 ^ k * n) := by
  have hbelow : a &&& (byteOf n <<< k) = 0 := BitVec.eq_of_getLsbD_eq fun i _ => by
    rw [BitVec.getLsbD_and, BitVec.getLsbD_shiftLeft]
    by_cases hi : i < k
    · simp [hi]
    · have hzero : a.getLsbD i = false :=
        Nat.testBit_lt_two_pow (h.trans_le (Nat.pow_le_pow_right (by decide) (not_lt.mp hi)))
      simp [hzero]
  have hshift : byteOf n <<< k = BitVec.ofNat 8 (2 ^ k * n) := BitVec.eq_of_toNat_eq (by
    rw [BitVec.toNat_shiftLeft, byteOf, BitVec.toNat_ofNat, BitVec.toNat_ofNat, Nat.shiftLeft_eq, Nat.mod_mul_mod,
      Nat.mul_comm])
  rw [← BitVec.add_eq_or_of_and_eq_zero _ _ hbelow, hshift]

theorem source_code_eq (x : Source) : x.code = BitVec.ofNat 8 (sourceCode x) := by cases x <;> rfl

theorem sourceCode_lt (x : Source) : sourceCode x < 8 := by
  cases x with
  | slot n => exact n.isLt.trans (by decide)
  | number | raw => decide

theorem toNat_source_code_lt (x : Source) : x.code.toNat < 8 := by
  rw [source_code_eq, BitVec.toNat_ofNat]
  exact (Nat.mod_le _ _).trans_lt (sourceCode_lt x)

theorem byteOfBool_eq (b : Bool) : byteOfBool b = byteOf (if b then 1 else 0) := by cases b <;> rfl

/-! ### Format states (R184) -/

/-- The bits of the first byte of a format state, side by side below bit 5. -/
theorem fmt_bits_eq (a b c : Bool) (m : CaseMode) :
    byteOfBool a ||| (byteOfBool b <<< 1) ||| (byteOfBool c <<< 2) ||| (m.code <<< 3) =
      BitVec.ofNat 8 ((if a then 1 else 0) + (if b then 2 else 0) + (if c then 4 else 0) + 8 * m.code.toNat) ∧
    (byteOfBool a ||| (byteOfBool b <<< 1) ||| (byteOfBool c <<< 2) ||| (m.code <<< 3)).toNat < 32 := by
  cases m <;> revert a b c <;> decide

theorem toNat_fmt_byte1_lt (f : Fmt) : f.byte1.toNat < 32 := (fmt_bits_eq ..).2

theorem fmtBytes_eq (f : Fmt) : fmtBytes f = [f.byte1, f.byte2] := by
  rw [Fmt.byte1, (fmt_bits_eq ..).1, fmtBytes]
  cases f.caseMode <;> rfl

theorem toNat_fmt_byte2_lt (f : Fmt) : f.byte2.toNat < 32 := by
  unfold Fmt.byte2
  split
  · next n _ =>
    have hn := n.isLt
    rw [byteOf, BitVec.toNat_ofNat]
    omega
  · decide

/-! ### The TE (R93) -/

theorem strokeInResolution_eq (t : Te) :
    t.strokeInResolution = if t.state = .resolving then (t.table.map (·.stroke)).getD 0 else 0 := by
  unfold Te.strokeInResolution
  cases t.state <;> cases t.table <;> rfl

/-- A record in the list of WINDOW_INFO. -/
theorem summary_record_eq (r : Record) :
    r.summary = BitVec.ofNat 8 (sourceCode r.data.source + 16 * r.data.outline.length) := by
  rw [Record.summary, or_shiftLeft_eq_add ((toNat_source_code_lt _).trans (by decide)), source_code_eq, BitVec.ofNat_add]
  rfl

theorem pendingByte_eq (due rescan : Bool) :
    byteOfBool due ||| (byteOfBool rescan <<< 1) = (if due then 1 else 0) + (if rescan then 2 else 0) := by
  cases due <;> cases rescan <;> rfl

theorem windowData_eq (s : State) : s.windowData = [s.te.state.code, byteOfBool s.te.run] ++
    bytesOf24 (if s.te.state = .resolving then (s.te.table.map (·.stroke)).getD 0 else 0) ++
    [BitVec.ofNat 8 s.te.window.length, BitVec.ofNat 8 (strokesOf s.te.window).length] ++
    bytesOf16 (BitVec.ofNat 16 (openTextOf s.te.window).length) ++
    [(if s.te.settleDue then 1 else 0) + (if s.te.rescanPending then 2 else 0)] ++
    fmtBytes s.te.settledFmt ++ s.te.window.map (fun r =>
      BitVec.ofNat 8 (sourceCode r.data.source + 16 * r.data.outline.length)) := by
  rw [State.windowData, strokeInResolution_eq, pendingByte_eq, fmtBytes_eq, funext summary_record_eq]
  simp only [List.append_assoc]
  rfl

/-! ### A record (R94) -/

theorem record_windowData_eq (r : Record) : r.windowData =
    [BitVec.ofNat 8 (sourceCode r.data.source + (if r.data.truncated then 8 else 0) + 16 * r.data.flags.toNat),
      (fmtBytes r.data.before).headD 0 + BitVec.ofNat 8 (32 * r.displaced.records.length),
      ((fmtBytes r.data.before)[1]?).getD 0 + BitVec.ofNat 8 (32 * (r.data.outline.length - 1))] ++
      strokeBytes r.data.outline ++ r.data.text := by
  have hlow : r.data.source.code ||| (byteOfBool r.data.truncated <<< 3) =
      BitVec.ofNat 8 (sourceCode r.data.source + (if r.data.truncated then 8 else 0)) := by
    rw [byteOfBool_eq, or_shiftLeft_eq_add (toNat_source_code_lt _), source_code_eq, ← BitVec.ofNat_add]
    cases r.data.truncated <;> rfl
  have hlt : (BitVec.ofNat 8 (sourceCode r.data.source + (if r.data.truncated then 8 else 0))).toNat < 2 ^ 4 := by
    have := sourceCode_lt r.data.source
    rw [BitVec.toNat_ofNat]
    split <;> omega
  have hflags : r.data.flags = byteOf r.data.flags.toNat := by simp [byteOf]
  have hfirst : r.data.source.code ||| (byteOfBool r.data.truncated <<< 3) ||| (r.data.flags <<< 4) =
      BitVec.ofNat 8 (sourceCode r.data.source + (if r.data.truncated then 8 else 0) + 16 * r.data.flags.toNat) := by
    rw [hlow, hflags, or_shiftLeft_eq_add hlt, ← hflags, ← BitVec.ofNat_add]
    rfl
  rw [Record.windowData, hfirst, fmtBytes_eq, or_shiftLeft_eq_add (toNat_fmt_byte1_lt _),
    or_shiftLeft_eq_add (toNat_fmt_byte2_lt _)]
  rfl

/-! ### WINDOW_INFO -/

theorem exec_windowInfo {s : State} (h : Ready s) :
    exec .windowInfo s = .next (answered s .done 0x26 s.windowData) := exec_answers rfl rfl h rfl rfl rfl

theorem runCommand_windowInfo {v : Byte} (hv : v.toNat ≤ 16) (hpos : v ≠ 0) (s : State) :
    runCommand (.windowInfo v) s = (s.te.window[v.toNat - 1]?).elim (s.refuse .notFound)
      fun r => s.respond .done r.windowData := by
  rw [runCommand, cmdWindowInfo, if_neg (not_lt.mpr hv), if_neg hpos]
  cases s.te.window[v.toNat - 1]? <;> rfl

section

variable {s : State} {v : Byte} (h : Ready s)

include h

theorem exec_windowInfoRecord_of_gt (hv : 16 < v.toNat) :
    exec (.windowInfoRecord v) s = .next (answered s .badArg 0x26 []) := exec_refuses rfl rfl h (if_pos hv)

variable (hv : v.toNat ≤ 16) (hpos : v ≠ 0)

include hv hpos

theorem exec_windowInfoRecord_of_none (hnone : s.te.window[v.toNat - 1]? = none) :
    exec (.windowInfoRecord v) s = .next (answered s .notFound 0x26 []) := by
  have hcmd := runCommand_windowInfo hv hpos (s.beginExecution 0x26)
  rw [show (s.beginExecution 0x26).te = s.te from rfl, hnone] at hcmd
  exact exec_refuses rfl rfl h hcmd

theorem exec_windowInfoRecord_of_some {r : Record} (hr : s.te.window[v.toNat - 1]? = some r) :
    exec (.windowInfoRecord v) s = .next (answered s .done 0x26 r.windowData) := by
  have hcmd := runCommand_windowInfo hv hpos (s.beginExecution 0x26)
  rw [show (s.beginExecution 0x26).te = s.te from rfl, hr] at hcmd
  exact exec_answers rfl rfl h rfl rfl hcmd

end

end Sys2Proof.Machine

section

open Sys2Proof Sys2Proof.Machine Sys2Proof.Rules

/-- Settles O34: the bytes of the TE and of a record, and the refusals. -/
theorem windowIsReadWithoutChange : Obligations.WindowIsReadWithoutChange := by
  unfold Obligations.WindowIsReadWithoutChange
  refine ⟨fun s h data hdata => ?_, fun s v h hpos => ⟨exec_windowInfoRecord_of_gt h,
    fun hv hlength => exec_windowInfoRecord_of_none h hv hpos (List.getElem?_eq_none (by omega)),
    fun before r after hv hwindow hplace _ _ _ _ => ?_⟩⟩
  · have hbytes : s.windowData = data := (windowData_eq s).trans hdata.symm
    rw [exec_windowInfo h, hbytes]
  · have hr : s.te.window[v.toNat - 1]? = some r := by rw [hwindow, hplace]; simp
    rw [exec_windowInfoRecord_of_some h hv hpos hr, record_windowData_eq]

end
end

section
/-!
SUPPORT. The rendering of a record item by item: the characters of literals under a case mode, what each kind of item
appends and leaves, and the fields of the record formed (R38, R99 to R107, R182).
-/

namespace Sys2Proof.Machine

open Sys2Proof Sys2Proof.Rules

/-! ### Letters and case (R38, R101) -/

theorem isPrintable_iff (b : Byte) : isPrintable b = true ↔ printable b := by
  simp [isPrintable, printable]

theorem isLetter_iff (b : Byte) : isLetter b = true ↔ letter b := by
  simp [isLetter, isSmall, isCapital, letter]

theorem printable_of_letter {b : Byte} (h : letter b) : printable b := by
  unfold letter at h
  unfold printable
  omega

/-- A byte that is no letter stands as given in every case mode. -/
theorem inCase_of_not_letter (mode : CaseMode) {b : Byte} (h : ¬letter b) : inCase mode b = b := by
  obtain ⟨hsmall, hcapital⟩ := not_or.mp h
  cases mode
  · rfl
  · exact if_neg hsmall
  · exact if_neg hcapital

theorem letter_inCase (mode : CaseMode) {b : Byte} (h : letter b) : letter (inCase mode b) := by
  cases mode <;> simp only [inCase]
  · exact h
  · split
    · right; bv_omega
    · exact h
  · split
    · left; bv_omega
    · exact h

theorem caseChar_eq_inCase (mode : CaseMode) (b : Byte) : caseChar mode b = inCase mode b := by
  unfold caseChar
  by_cases h : letter b
  · rw [if_pos ((isLetter_iff b).mpr h)]
    cases mode <;> simp [inCase, toCapital, toSmall, isSmall, isCapital]
  · rw [if_neg (mt (isLetter_iff b).mp h), inCase_of_not_letter mode h]

theorem caseAfter_of_letter (mode : CaseMode) {b : Byte} (h : letter b) : caseAfter mode b = .none :=
  if_pos ((isLetter_iff b).mpr h)

theorem caseAfter_of_not_letter (mode : CaseMode) {b : Byte} (h : ¬letter b) : caseAfter mode b = mode :=
  if_neg (mt (isLetter_iff b).mp h)

/-! ### Literals as a case mode sets them, one after the other (R101) -/

/-- The characters of literals taken from a case mode. -/
def casedText (mode : CaseMode) : List Byte → List Byte
  | [] => []
  | b :: rest => inCase mode b :: casedText (caseAfter mode b) rest

/-- The case mode that literals leave. -/
def casedMode (mode : CaseMode) (text : List Byte) : CaseMode := text.foldl caseAfter mode

theorem casedText_append (a b : List Byte) :
    ∀ mode, casedText mode (a ++ b) = casedText mode a ++ casedText (casedMode mode a) b := by
  induction a with
  | nil => exact fun _ => rfl
  | cons x a ih => exact fun mode => congrArg (inCase mode x :: ·) (ih _)

theorem casedMode_append (mode : CaseMode) (a b : List Byte) :
    casedMode mode (a ++ b) = casedMode (casedMode mode a) b := List.foldl_append

theorem length_casedText : ∀ (text : List Byte) (mode : CaseMode), (casedText mode text).length = text.length
  | [], _ => rfl
  | _ :: rest, _ => congrArg (· + 1) (length_casedText rest _)

theorem printable_casedText : ∀ {text : List Byte} (mode : CaseMode), (∀ b ∈ text, printable b) →
    ∀ b ∈ casedText mode text, printable b
  | [], _, _ => List.forall_mem_nil _
  | x :: rest, mode, h => by
      obtain ⟨hx, hrest⟩ := List.forall_mem_cons.mp h
      refine List.forall_mem_cons.mpr ⟨?_, printable_casedText _ hrest⟩
      by_cases hletter : letter x
      · exact printable_of_letter (letter_inCase mode hletter)
      · rw [inCase_of_not_letter mode hletter]; exact hx

/-- Literals stand as stored, and leave the case mode, where none is a letter. -/
theorem cased_of_no_letter (mode : CaseMode) : ∀ {text : List Byte}, (∀ b ∈ text, ¬letter b) →
    casedText mode text = text ∧ casedMode mode text = mode
  | [], _ => ⟨rfl, rfl⟩
  | x :: rest, h => by
      obtain ⟨hx, hrest⟩ := List.forall_mem_cons.mp h
      obtain ⟨htext, hmode⟩ := cased_of_no_letter mode hrest
      rw [casedText, casedMode, List.foldl_cons, inCase_of_not_letter mode hx, caseAfter_of_not_letter mode hx, htext]
      exact ⟨rfl, hmode⟩

theorem caseAfter_none (b : Byte) : caseAfter .none b = .none := ite_self _

/-- Literals stand as stored where no case mode is set. -/
theorem cased_none : ∀ text : List Byte, casedText .none text = text ∧ casedMode .none text = .none
  | [] => ⟨rfl, rfl⟩
  | x :: rest => by
      obtain ⟨htext, hmode⟩ := cased_none rest
      rw [casedText, casedMode, List.foldl_cons, caseAfter_none, htext]
      exact ⟨rfl, hmode⟩

/-- The first letter takes the case mode and uses it up. -/
theorem cased_of_first_letter (mode : CaseMode) {a : List Byte} {c : Byte} (b : List Byte) (ha : ∀ x ∈ a, ¬letter x)
    (hc : letter c) :
    casedText mode (a ++ c :: b) = a ++ inCase mode c :: b ∧ casedMode mode (a ++ c :: b) = .none := by
  obtain ⟨htext, hmode⟩ := cased_of_no_letter mode ha
  obtain ⟨htext', hmode'⟩ := cased_none b
  rw [casedText_append, casedMode_append, htext, hmode, casedText, casedMode, List.foldl_cons,
    caseAfter_of_letter mode hc, htext']
  exact ⟨rfl, hmode'⟩

/-! ### The items of a record, one after the other (R99, R182) -/

/-- The item bytes of a list are taken from a rendering in progress. -/
def renderFrom (speakers : Vector (List Byte) 16) (r : Rendering) (items : List Byte) : Rendering :=
  (items.filterMap itemOf).foldl (Rendering.take speakers) r

theorem itemOf_printable {b : Byte} (h : printable b) : itemOf b = some (.literal b) :=
  if_pos ((isPrintable_iff b).mpr h)

theorem itemOf_speaker : ∀ n : Fin 16, itemOf (BitVec.ofNat 8 (0x80 + n.val)) = some (.speaker n) := by decide

section

variable (speakers : Vector (List Byte) 16)

theorem renderAll_eq_renderFrom (f : Fmt) (flags : Byte) (items : List Byte) :
    renderAll speakers f flags items = renderFrom speakers (.start f flags) items := rfl

theorem renderFrom_append (r : Rendering) (a b : List Byte) :
    renderFrom speakers r (a ++ b) = renderFrom speakers (renderFrom speakers r a) b := by
  simp only [renderFrom, List.filterMap_append, List.foldl_append]

theorem renderAll_append (f : Fmt) (flags : Byte) (a b : List Byte) :
    renderAll speakers f flags (a ++ b) = renderFrom speakers (renderAll speakers f flags a) b :=
  renderFrom_append speakers _ a b

theorem renderFrom_item {x : Byte} {i : TextItem} (h : itemOf x = some i) (r : Rendering) (b : List Byte) :
    renderFrom speakers r (x :: b) = renderFrom speakers (r.take speakers i) b := by
  rw [renderFrom, List.filterMap_cons_some h, List.foldl_cons, renderFrom]

theorem renderFrom_no_item {x : Byte} (h : itemOf x = none) (r : Rendering) (b : List Byte) :
    renderFrom speakers r (x :: b) = renderFrom speakers r b := by
  rw [renderFrom, List.filterMap_cons_none h, renderFrom]

theorem renderFrom_literal {x : Byte} (h : printable x) (r : Rendering) (b : List Byte) :
    renderFrom speakers r (x :: b) = renderFrom speakers
      ⟨r.chars ++ (if r.pendingSpace then [space] else []) ++ [inCase r.caseMode x], false, false,
        caseAfter r.caseMode x, r.speaker⟩ b := by
  rw [renderFrom_item speakers (itemOf_printable h), Rendering.take, caseChar_eq_inCase]

/-- UPPER_NEXT and LOWER_NEXT set the case mode and do nothing else (R102). -/
theorem renderFrom_caseItem {x : Byte} {mode : CaseMode} (h : caseItem x mode) (r : Rendering) (b : List Byte) :
    renderFrom speakers r (x :: b) = renderFrom speakers { r with caseMode := mode } b := by
  obtain ⟨rfl, rfl⟩ | ⟨rfl, rfl⟩ := h
  · exact renderFrom_item speakers (i := .upperNext) (by decide) r b
  · exact renderFrom_item speakers (i := .lowerNext) (by decide) r b

/-- Case items leave all but the case mode. -/
theorem renderFrom_caseItems : ∀ {b : List Byte} (r : Rendering), (∀ x ∈ b, ∃ m, caseItem x m) →
    ∃ m, renderFrom speakers r b = { r with caseMode := m }
  | [], r, _ => ⟨r.caseMode, rfl⟩
  | x :: b, r, h => by
      obtain ⟨⟨m, hx⟩, hb⟩ := List.forall_mem_cons.mp h
      rw [renderFrom_caseItem speakers hx]
      exact renderFrom_caseItems { r with caseMode := m } hb

/-- Literals with no space pending are appended as the case mode sets them (R101). -/
theorem renderFrom_literals : ∀ {items : List Byte} (chars : List Byte) (mode : CaseMode) (speaker : Option (Fin 16)),
    (∀ b ∈ items, printable b) → renderFrom speakers ⟨chars, false, false, mode, speaker⟩ items =
      ⟨chars ++ casedText mode items, false, false, casedMode mode items, speaker⟩
  | [], chars, _, _, _ => by rw [casedText, List.append_nil]; rfl
  | x :: rest, chars, mode, speaker, h => by
      obtain ⟨hx, hrest⟩ := List.forall_mem_cons.mp h
      rw [renderFrom_literal speakers hx]
      simpa [casedText, casedMode] using renderFrom_literals (chars ++ [inCase mode x]) _ speaker hrest

/-! ### The leading space (R100) -/

/-- The leading space of a record of literals. -/
def leadOf (f : Fmt) (flags : Byte) : List Byte := if startsPending f flags then [space] else []

theorem startsPending_iff (f : Fmt) (flags : Byte) : startsPending f flags = true ↔
    ¬(f.lineStart = true ∨ f.attachNext = true ∨ flags.getLsbD 0 = true ∨
      (flags.getLsbD 2 = true ∧ f.glueLast = true)) := by
  simp only [startsPending, attachBefore, glue, Bool.not_eq_true', ← Bool.not_eq_true, Bool.or_eq_true,
    Bool.and_eq_true, or_assoc]

theorem length_leadOf_le (f : Fmt) (flags : Byte) : (leadOf f flags).length ≤ 1 := by
  unfold leadOf
  split <;> decide

theorem printable_leadOf (f : Fmt) (flags : Byte) : ∀ b ∈ leadOf f flags, printable b := by
  unfold leadOf
  split
  · exact List.forall_mem_singleton.mpr (by unfold printable; decide)
  · exact List.forall_mem_nil _

/-- One literal or more are appended after the leading space. -/
theorem renderAll_literals (f : Fmt) (flags : Byte) {items : List Byte} (hne : items ≠ [])
    (hitems : ∀ b ∈ items, printable b) : renderAll speakers f flags items =
      ⟨leadOf f flags ++ casedText f.caseMode items, false, false, casedMode f.caseMode items, f.speaker⟩ := by
  obtain ⟨x, rest, rfl⟩ := List.exists_cons_of_ne_nil hne
  obtain ⟨hx, hrest⟩ := List.forall_mem_cons.mp hitems
  rw [renderAll_eq_renderFrom, renderFrom_literal speakers hx, renderFrom_literals speakers _ _ _ hrest]
  simp only [Rendering.start, List.nil_append, List.append_assoc]
  rfl

/-! ### Text appended goes on from where it stands (R101 to R104) -/

/-- A rendering appends what another does, the characters `pre` standing before. -/
structure AppendsAfter (pre : List Byte) (r r' : Rendering) : Prop where
  chars : r.chars = pre ++ r'.chars
  pendingSpace : r.pendingSpace = r'.pendingSpace
  caseMode : r.caseMode = r'.caseMode

theorem AppendsAfter.take {pre : List Byte} {r r' : Rendering} (h : AppendsAfter pre r r') (i : TextItem) :
    AppendsAfter pre (r.take speakers i) (r'.take speakers i) := by
  obtain ⟨hchars, hpending, hcase⟩ := h
  cases i with
  | literal b => constructor <;> simp [Rendering.take, hchars, hpending, hcase]
  | upperNext | lowerNext => exact ⟨hchars, hpending, rfl⟩
  | paragraph | speaker n => exact ⟨by simp [Rendering.take, hchars], rfl, rfl⟩

theorem AppendsAfter.renderFrom {pre : List Byte} {items : List Byte} {r r' : Rendering} (h : AppendsAfter pre r r') :
    AppendsAfter pre (renderFrom speakers r items) (renderFrom speakers r' items) := by
  induction items generalizing r r' with
  | nil => exact h
  | cons x items ih =>
      cases hx : itemOf x with
      | none => rw [renderFrom_no_item speakers hx, renderFrom_no_item speakers hx]; exact ih h
      | some i => rw [renderFrom_item speakers hx, renderFrom_item speakers hx]; exact ih (h.take speakers i)

/-! ### The record formed (R105, R107) -/

variable (f : Fmt) (outline : List Stroke) (source : Source) (flags : Byte) (items : List Byte) (d : Displaced)

theorem formRecord_text : (formRecord speakers f outline source flags items d).data.text =
    (renderAll speakers f flags items).chars.take 200 := rfl

theorem formRecord_truncated : (formRecord speakers f outline source flags items d).data.truncated =
    decide (200 < (renderAll speakers f flags items).chars.length) := rfl

theorem formRecord_after : (formRecord speakers f outline source flags items d).data.after =
    (renderAll speakers f flags items).after f flags := rfl

end

/-- Printable characters leave a state in mid-line, with no label space (R105). -/
theorem after_of_printable {chars : List Byte} (hne : chars ≠ []) (hchars : ∀ b ∈ chars, printable b) (pending : Bool)
    (mode : CaseMode) (speaker : Option (Fin 16)) (f : Fmt) (flags : Byte) :
    Rendering.after ⟨chars, pending, false, mode, speaker⟩ f flags =
      ⟨false, flags.getLsbD 1, flags.getLsbD 2, mode, speaker⟩ := by
  have hlast : (chars.getLast hne == lineBreak) = false := beq_false_of_ne fun h =>
    absurd (h ▸ hchars _ (List.getLast_mem hne)) (by unfold printable; decide)
  simp [Rendering.after, List.getLast?_eq_some_getLast hne, hlast, hne, attachAfter, glue]

end Sys2Proof.Machine
end

section
/-!
PROOF. Records of literals alone: their leading space and their first letter (R100, R101, R105).
-/

open Sys2Proof Sys2Proof.Machine Sys2Proof.Rules

/-- Settles O35: the leading space, then the literals as the case mode sets them. -/
theorem literalsTakeSpaceAndCase : Obligations.LiteralsTakeSpaceAndCase := by
  unfold Obligations.LiteralsTakeSpaceAndCase
  intro speakers f outline source flags items d hne hlength hitems joins r
  have hrender := renderAll_literals speakers f flags hne hitems
  have hcased : casedText f.caseMode items ≠ [] := by
    rw [← List.length_pos_iff, length_casedText]; exact List.length_pos_iff.mpr hne
  have hshort : (leadOf f flags ++ casedText f.caseMode items).length ≤ 200 := by
    have := length_leadOf_le f flags
    rw [List.length_append, length_casedText]
    omega
  have htext : r.data.text = leadOf f flags ++ casedText f.caseMode items := by
    rw [formRecord_text, hrender, List.take_of_length_le hshort]
  have hafter : r.data.after =
      ⟨false, flags.getLsbD 1, flags.getLsbD 2, casedMode f.caseMode items, f.speaker⟩ := by
    rw [formRecord_after, hrender]
    exact after_of_printable (List.append_ne_nil_of_right_ne_nil _ hcased) (List.forall_mem_append.mpr
      ⟨printable_leadOf f flags, printable_casedText _ hitems⟩) _ _ _ _ _
  refine ⟨leadOf f flags, fun hjoins => if_neg fun h => (startsPending_iff f flags).mp h hjoins,
    fun hjoins => if_pos ((startsPending_iff f flags).mpr hjoins), ?_, rfl, rfl, rfl, rfl, rfl, rfl,
    fun hplain => ?_, fun a c b hsplit ha hc => ?_⟩
  · rw [formRecord_truncated, hrender]
    exact decide_eq_false (not_lt.mpr hshort)
  · obtain ⟨hstored, hmode⟩ := cased_of_no_letter f.caseMode hplain
    rw [htext, hafter, hstored, hmode]
    exact ⟨rfl, rfl⟩
  · obtain ⟨hfirst, hmode⟩ := cased_of_first_letter f.caseMode b ha hc
    rw [htext, hafter, hsplit, hfirst, hmode, List.append_assoc]
    exact ⟨rfl, rfl⟩

end

section
/-!
PROOF. Case items, line-breaks and speaker turns within a record, and its 200-character limit (R102 to R105, R107).
-/

namespace Sys2Proof.Machine

open Sys2Proof Sys2Proof.Rules

variable (speakers : Vector (List Byte) 16)

/-! ### Case items (R102) -/

theorem renderAll_append_caseItem {x : Byte} {mode : CaseMode} (h : caseItem x mode) (f : Fmt) (flags : Byte)
    (a : List Byte) : renderAll speakers f flags (a ++ [x]) =
      { renderAll speakers f flags a with caseMode := mode } := by
  rw [renderAll_append, renderFrom_caseItem speakers h]
  rfl

/-- Of two case items in a row the second decides. -/
theorem renderAll_caseItem_caseItem {x y : Byte} {p q : CaseMode} (hx : caseItem x p) (hy : caseItem y q) (f : Fmt)
    (flags : Byte) (a b : List Byte) :
    renderAll speakers f flags (a ++ x :: y :: b) = renderAll speakers f flags (a ++ y :: b) := by
  rw [renderAll_append, renderAll_append, renderFrom_caseItem speakers hx, renderFrom_caseItem speakers hy,
    renderFrom_caseItem speakers hy]

/-- A case item first in a record acts as the case mode before the record does. -/
theorem renderAll_caseItem_cons {x : Byte} {mode : CaseMode} (h : caseItem x mode) (f : Fmt) (flags : Byte)
    (b : List Byte) :
    renderAll speakers f flags (x :: b) = renderAll speakers { f with caseMode := mode } flags b := by
  rw [renderAll_eq_renderFrom, renderFrom_caseItem speakers h]
  rfl

/-- A first letter under a case mode is that letter, cased, under none. -/
theorem renderAll_letter_cons {c : Byte} (h : letter c) (f : Fmt) (flags : Byte) (rest : List Byte) :
    renderAll speakers f flags (c :: rest) =
      renderAll speakers { f with caseMode := .none } flags (inCase f.caseMode c :: rest) := by
  have hcased := letter_inCase f.caseMode h
  rw [renderAll_eq_renderFrom, renderAll_eq_renderFrom, renderFrom_literal speakers (printable_of_letter h),
    renderFrom_literal speakers (printable_of_letter hcased), caseAfter_of_letter _ h, caseAfter_of_letter _ hcased]
  rfl

/-! ### PARAGRAPH and SPEAKER items (R103, R104) -/

/-- The state at which a PARAGRAPH leaves the items after it. -/
def Fmt.newLine : Fmt := ⟨true, false, false, .upper, none⟩

/-- After an item that cancels the pending space and sets UPPER, the items go on as from the start of a line. -/
theorem chars_renderAll_break {x : Byte} {i : TextItem} (hx : itemOf x = some i) (f : Fmt) (flags : Byte)
    (a b : List Byte) (hpending : ((renderAll speakers f flags a).take speakers i).pendingSpace = false)
    (hcase : ((renderAll speakers f flags a).take speakers i).caseMode = .upper) :
    (renderAll speakers f flags (a ++ x :: b)).chars =
      ((renderAll speakers f flags a).take speakers i).chars ++ (renderAll speakers .newLine 0 b).chars := by
  have hbreak : AppendsAfter ((renderAll speakers f flags a).take speakers i).chars
      ((renderAll speakers f flags a).take speakers i) (.start .newLine 0) :=
    ⟨(List.append_nil _).symm, hpending, hcase⟩
  rw [renderAll_append, renderFrom_item speakers hx]
  exact (hbreak.renderFrom speakers).chars

/-- The characters of a speaker's turn: a line-break, the label, and a space after a label. -/
def turnOf (n : Fin 16) : List Byte := [0x0A] ++ speakers[n] ++ (if speakers[n] = [] then [] else [0x20])

theorem take_speaker (r : Rendering) (n : Fin 16) : r.take speakers (.speaker n) =
    ⟨r.chars ++ turnOf speakers n, false, !speakers[n].isEmpty, .upper, some n⟩ := by
  simp [Rendering.take, turnOf, lineBreak, space]

theorem chars_renderAll_paragraph (f : Fmt) (flags : Byte) (a b : List Byte) :
    (renderAll speakers f flags (a ++ 0x03 :: b)).chars =
      (renderAll speakers f flags a).chars ++ [0x0A] ++ (renderAll speakers .newLine 0 b).chars :=
  chars_renderAll_break speakers (i := .paragraph) (by decide) f flags a b rfl rfl

theorem chars_renderAll_speaker (f : Fmt) (flags : Byte) (n : Fin 16) (a b : List Byte) :
    (renderAll speakers f flags (a ++ BitVec.ofNat 8 (0x80 + n.val) :: b)).chars =
      (renderAll speakers f flags a).chars ++ turnOf speakers n ++ (renderAll speakers .newLine 0 b).chars := by
  rw [chars_renderAll_break speakers (itemOf_speaker n) f flags a b rfl rfl, take_speaker]

/-! ### The state after a record that ends there, but for case items (R105) -/

/-- Case items after an item that is no case item leave what it leaves, the case mode apart. -/
theorem renderAll_item_caseItems {x : Byte} {i : TextItem} (hx : itemOf x = some i) (f : Fmt) (flags : Byte)
    (a : List Byte) {b : List Byte} (hb : ∀ x ∈ b, ∃ m, caseItem x m) : ∃ m, renderAll speakers f flags (a ++ x :: b) =
      { (renderAll speakers f flags a).take speakers i with caseMode := m } := by
  rw [renderAll_append, renderFrom_item speakers hx]
  exact renderFrom_caseItems speakers _ hb

section

variable (r : Rendering) (f : Fmt) (flags : Byte) (m : CaseMode)

theorem after_paragraph : Rendering.after { r.take speakers .paragraph with caseMode := m } f flags =
    ⟨true, flags.getLsbD 1, flags.getLsbD 2, m, r.speaker⟩ := by
  simp [Rendering.take, Rendering.after, attachAfter, glue]

theorem after_speaker_unlabelled {n : Fin 16} (h : speakers[n] = []) :
    Rendering.after { r.take speakers (.speaker n) with caseMode := m } f flags =
      ⟨true, flags.getLsbD 1, flags.getLsbD 2, m, some n⟩ := by
  rw [take_speaker, turnOf, h]
  simp [Rendering.after, attachAfter, glue, lineBreak]

theorem after_speaker_labelled {n : Fin 16} (h : speakers[n] ≠ []) :
    Rendering.after { r.take speakers (.speaker n) with caseMode := m } f flags =
      ⟨false, true, flags.getLsbD 2, m, some n⟩ := by
  have hlabel : speakers[n].isEmpty = false := List.isEmpty_eq_false_iff.mpr h
  rw [take_speaker, turnOf, if_neg h, hlabel]
  simp [Rendering.after, attachAfter, glue, lineBreak, List.getLast?_cons]

end

end Sys2Proof.Machine
end

section

open Sys2Proof Sys2Proof.Machine Sys2Proof.Rules

/-- Settles O36: a case item changes the case mode of the rendering in progress and nothing else. -/
theorem lastCaseItemDecides : Obligations.LastCaseItemDecides := by
  unfold Obligations.LastCaseItemDecides
  intro speakers f outline source flags a b d x y p q hx hy
  dsimp only
  simp only [formRecord_text, formRecord_after, renderAll_append_caseItem speakers hx,
    renderAll_caseItem_caseItem speakers hx hy, renderAll_caseItem_cons speakers hx]
  refine ⟨trivial, rfl, trivial, trivial, fun _ => ⟨trivial, rfl⟩, fun c rest hc _ hb => ?_⟩
  rw [hb, renderAll_letter_cons speakers hc]

/-- Settles O37: the item's characters, then the items after it as from the start of a line. -/
theorem breaksBeginALineOrATurn : Obligations.BreaksBeginALineOrATurn := by
  unfold Obligations.BreaksBeginALineOrATurn
  intro speakers f flags a b n outline source d
  dsimp only
  refine ⟨chars_renderAll_paragraph speakers f flags a b, chars_renderAll_speaker speakers f flags n a b,
    ⟨formRecord_text .., by rw [formRecord_truncated, decide_eq_true_iff]⟩, fun hb => ?_⟩
  simp only [formRecord_after]
  obtain ⟨m, hparagraph⟩ := renderAll_item_caseItems speakers (x := 0x03) (i := .paragraph) (by decide) f flags a hb
  obtain ⟨m', hspeaker⟩ := renderAll_item_caseItems speakers (itemOf_speaker n) f flags a hb
  obtain ⟨m'', hcaseItems⟩ := renderFrom_caseItems speakers (.start f flags) hb
  rw [hparagraph, hspeaker, renderAll_eq_renderFrom speakers f flags b, hcaseItems, after_paragraph]
  refine ⟨⟨rfl, rfl, rfl⟩, ⟨rfl, rfl⟩, fun hlabel => ?_, fun hlabel => ?_, rfl, rfl, rfl⟩
  · rw [after_speaker_unlabelled speakers _ _ _ _ hlabel]
    exact ⟨rfl, rfl⟩
  · rw [after_speaker_labelled speakers _ _ _ _ hlabel]
    exact ⟨rfl, rfl⟩

end

section
/-!
PROOF. The steno and digit renderings of a stroke, and number strokes (R88, R111, R112).
-/

namespace Sys2Proof.Machine

open Sys2Proof Sys2Proof.Rules

/-! ### The keys of a stroke in steno order (R1, R111) -/

/-- The keys of a stroke from number `lo` to number `hi`, in steno order. -/
def keysOf (v : Stroke) (lo hi : Nat) : List Nat :=
  (List.range 23).filter fun k => decide (lo ≤ k) && decide (k ≤ hi) && v.getLsbD k

/-- The letter of each key, by its number. -/
def keyLetters : List Byte :=
  [0x23, 0x53, 0x54, 0x4B, 0x50, 0x57, 0x48, 0x52, 0x41, 0x4F, 0x2A, 0x45, 0x55, 0x46, 0x52, 0x50, 0x42, 0x4C, 0x47,
    0x54, 0x53, 0x44, 0x5A]

/-- The digit of each key, by its number; 0 for a key without one. -/
def keyDigits : List Byte :=
  [0, 0x31, 0x32, 0, 0x33, 0, 0x34, 0, 0x35, 0x30, 0, 0, 0, 0x36, 0, 0x37, 0, 0x38, 0, 0x39, 0, 0, 0]

theorem mem_keysOf {v : Stroke} {lo hi k : Nat} :
    k ∈ keysOf v lo hi ↔ k < 23 ∧ (lo ≤ k ∧ k ≤ hi) ∧ v.getLsbD k = true := by
  simp only [keysOf, List.mem_filter, List.mem_range, Bool.and_eq_true, decide_eq_true_eq]

/-- The keys of a part of the keyboard are those of its numbers that the stroke holds. -/
theorem keysOf_eq_filter (v : Stroke) (lo hi : Nat) : keysOf v lo hi =
    ((List.range 23).filter fun k => decide (lo ≤ k) && decide (k ≤ hi)).filter fun k => hasStrokeKey v k := by
  rw [List.filter_filter]
  exact List.filter_congr fun k _ => Bool.and_comm _ _

theorem length_keysOf_le (v : Stroke) (lo hi : Nat) :
    (keysOf v lo hi).length ≤ ((List.range 23).filter fun k => decide (lo ≤ k) && decide (k ≤ hi)).length := by
  rw [keysOf_eq_filter]
  exact List.length_filter_le _ _

/-- A bank's table that lists the keys of a part of the keyboard with their letters gives the stroke's letters there. -/
theorem lettersOf_eq_map {table : List (Nat × Byte)} {letters : List Byte} {lo hi : Nat}
    (h : table = ((List.range 23).filter fun k => decide (lo ≤ k) && decide (k ≤ hi)).map
      fun k => (k, (letters[k]?).getD 0)) (v : Stroke) :
    lettersOf v table = (keysOf v lo hi).map fun k => (letters[k]?).getD 0 := by
  rw [h, lettersOf, List.filter_map, List.map_map, keysOf_eq_filter]
  rfl

theorem lettersOf_append (v : Stroke) (a b : List (Nat × Byte)) :
    lettersOf v (a ++ b) = lettersOf v a ++ lettersOf v b := by
  simp only [lettersOf, List.filter_append, List.map_append]

/-! ### The steno rendering (R111) -/

theorem stenoText_eq (v : Stroke) : stenoText v =
    ((keysOf v 0 12).map fun k => (keyLetters[k]?).getD 0) ++
      (if keysOf v 8 12 = [] ∧ keysOf v 13 22 ≠ [] then [0x2D] else []) ++
      (keysOf v 13 22).map fun k => (keyLetters[k]?).getD 0 := by
  have hleft : lettersOf v numberKey ++ lettersOf v leftBank ++ lettersOf v middleBank =
      (keysOf v 0 12).map fun k => (keyLetters[k]?).getD 0 := by
    rw [← lettersOf_append, ← lettersOf_append]
    exact lettersOf_eq_map (by decide) v
  have hmiddle := lettersOf_eq_map (table := middleBank) (letters := keyLetters) (lo := 8) (hi := 12) (by decide) v
  have hright := lettersOf_eq_map (table := rightBank) (letters := keyLetters) (lo := 13) (hi := 22) (by decide) v
  rw [stenoText, hleft, hmiddle, hright]
  simp [List.isEmpty_iff]

theorem length_stenoText (v : Stroke) : (stenoText v).length = (keysOf v 0 12).length +
    (if keysOf v 8 12 = [] ∧ keysOf v 13 22 ≠ [] then 1 else 0) + (keysOf v 13 22).length := by
  rw [stenoText_eq, List.length_append, List.length_append, List.length_map, List.length_map]
  split <;> rfl

theorem keysOf_left_middle (v : Stroke) : keysOf v 0 12 = keysOf v 0 7 ++ keysOf v 8 12 := by
  rw [keysOf_eq_filter, keysOf_eq_filter, keysOf_eq_filter, ← List.filter_append]
  exact congrArg (List.filter _) (by decide)

/-- A hyphen stands only where no middle key does, so that no rendering is longer than the keyboard. -/
theorem length_stenoText_le (v : Stroke) : (stenoText v).length ≤ 23 := by
  have hleft : (keysOf v 0 7).length ≤ 8 := length_keysOf_le v 0 7
  have hmiddle : (keysOf v 8 12).length ≤ 5 := length_keysOf_le v 8 12
  have hright : (keysOf v 13 22).length ≤ 10 := length_keysOf_le v 13 22
  rw [length_stenoText, keysOf_left_middle, List.length_append]
  split
  · next h =>
      obtain ⟨hnone, -⟩ := h
      rw [hnone, List.length_nil]
      omega
  · omega

theorem stroke_le_iff (v : Stroke) : v.toNat ≤ 8388607 ↔ v.getLsbD 23 = false := by
  have hmsb : v.getLsbD 23 = decide (8388608 ≤ v.toNat) := BitVec.msb_eq_decide v
  rw [hmsb, decide_eq_false_iff_not]
  omega

/-- A stroke of key numbers 0 to 22 that is not empty holds one of them. -/
theorem exists_key {v : Stroke} (hne : v.toNat ≠ 0) (hle : v.toNat ≤ 8388607) : ∃ k, k < 23 ∧ v.getLsbD k = true := by
  by_contra hnone
  refine hne (congrArg BitVec.toNat (BitVec.eq_of_getLsbD_eq (y := 0#24) fun k hk => ?_))
  rw [BitVec.getLsbD_zero]
  obtain hk | rfl : k < 23 ∨ k = 23 := by omega
  · exact Bool.eq_false_iff.mpr fun hkey => hnone ⟨k, hk, hkey⟩
  · exact (stroke_le_iff v).mp hle

theorem one_le_length_stenoText {v : Stroke} (hne : v.toNat ≠ 0) (hle : v.toNat ≤ 8388607) :
    1 ≤ (stenoText v).length := by
  obtain ⟨k, hk, hkey⟩ := exists_key hne hle
  rw [length_stenoText]
  rcases Nat.lt_or_ge k 13 with hleft | hright
  · have := List.length_pos_of_mem (mem_keysOf.mpr ⟨hk, ⟨Nat.zero_le k, Nat.le_of_lt_succ hleft⟩, hkey⟩)
    omega
  · have := List.length_pos_of_mem (mem_keysOf.mpr ⟨hk, ⟨hright, Nat.le_of_lt_succ hk⟩, hkey⟩)
    omega

/-! ### Digits and number strokes (R88, R112) -/

theorem lettersOf_filter (v : Stroke) (p : Byte → Bool) (table : List (Nat × Byte)) :
    lettersOf v (table.filter fun e => p e.2) = (lettersOf v table).filter p := by
  rw [lettersOf, lettersOf, List.filter_map, List.filter_filter, List.filter_filter]
  exact congrArg (List.map _) (List.filter_congr fun _ _ => Bool.and_comm _ _)

/-- The digits are what the digit of each key gives, the keys without one left out. -/
theorem digitText_eq (v : Stroke) :
    digitText v = ((keysOf v 0 22).map fun k => (keyDigits[k]?).getD 0).filter fun b => b != 0 := by
  rw [← lettersOf_eq_map rfl, ← lettersOf_filter]
  exact congrArg (lettersOf v) (by decide)

theorem numberStrokeMask_key : ∀ k < 24, numberStrokeMask.getLsbD k = (k == 0 || (keyDigits[k]?).getD 0 != 0) := by
  decide

/-- A stroke keeps to the mask of number strokes where its keys past the number key are digit keys. -/
theorem within_numberStrokeMask_iff (v : Stroke) : v &&& ~~~numberStrokeMask = 0 ↔
    v.toNat ≤ 8388607 ∧ ∀ k ∈ keysOf v 1 22, (keyDigits[k]?).getD 0 ≠ 0 := by
  have hbits : v &&& ~~~numberStrokeMask = 0 ↔
      ∀ k < 24, v.getLsbD k = true → k = 0 ∨ (keyDigits[k]?).getD 0 ≠ 0 := by
    rw [BitVec.eq_of_getLsbD_eq_iff]
    refine forall₂_congr fun k hk => ?_
    rw [BitVec.getLsbD_and, BitVec.getLsbD_not, numberStrokeMask_key k hk]
    simp [hk, or_iff_not_imp_left]
  rw [hbits, stroke_le_iff, ← Bool.not_eq_true]
  constructor
  · refine fun h => ⟨fun hkey => absurd (h 23 (by decide) hkey) (by decide), fun k hk => ?_⟩
    obtain ⟨hlt, ⟨hpos, -⟩, hkey⟩ := mem_keysOf.mp hk
    exact (h k (by omega) hkey).resolve_left (by omega)
  · rintro ⟨hlast, h⟩ k hk hkey
    rcases Nat.eq_zero_or_pos k with rfl | hpos
    · exact .inl rfl
    · have hne : k ≠ 23 := fun he => hlast (he ▸ hkey)
      exact .inr (h k (mem_keysOf.mpr ⟨by omega, ⟨hpos, by omega⟩, hkey⟩))

theorem isNumberStroke_iff (v : Stroke) : isNumberStroke v = true ↔ v.toNat ≤ 8388607 ∧ 0 ∈ keysOf v 0 22 ∧
    digitText v ≠ [] ∧ ∀ k ∈ keysOf v 1 22, (keyDigits[k]?).getD 0 ≠ 0 := by
  have hnumber : hasStrokeKey v 0 = true ↔ 0 ∈ keysOf v 0 22 := by simp [mem_keysOf, hasStrokeKey]
  rw [isNumberStroke, Bool.and_eq_true, Bool.and_eq_true, Bool.not_eq_true', List.isEmpty_eq_false_iff, beq_iff_eq,
    hnumber, within_numberStrokeMask_iff]
  tauto

end Sys2Proof.Machine
end

section

open Sys2Proof Sys2Proof.Machine Sys2Proof.Rules

/-- Settles O38: the model's tables of keys, as letters and digits by key number. -/
theorem strokesAreRenderedInStenoOrder : Obligations.StrokesAreRenderedInStenoOrder := by
  unfold Obligations.StrokesAreRenderedInStenoOrder
  rintro v _ _ rfl rfl
  exact ⟨stenoText_eq v, fun hne hle => ⟨one_le_length_stenoText hne hle, length_stenoText_le v⟩, digitText_eq v,
    isNumberStroke_iff v⟩

end

section
/-!
PROOF. The three steps of immediate settling, and what a change of the window reports and sends (R113, R115 to R118,
R129).
-/

namespace Sys2Proof.Machine

open Sys2Proof Sys2Proof.Rules

/-! ### One step of immediate settling (R117) -/

/-- The last record to settle did so because its condition held with it in the window. -/
theorem settleWhile_last {more : List Record → Bool} {a : List Record} {r : Record} : ∀ {w : List Record},
    (settleWhile more w).1 = a ++ [r] → more (r :: (settleWhile more w).2) = true
  | [], h => by simp [settleWhile] at h
  | x :: w, h => by
      by_cases hmore : more (x :: w) = true
      · rw [settleWhile, if_pos hmore] at h ⊢
        cases a with
        | nil =>
            obtain ⟨rfl, hnone⟩ := List.cons_eq_cons.mp h
            have hleft := settleWhile_append more w
            rw [hnone, List.nil_append] at hleft
            rw [hleft]
            exact hmore
        | cons y a => exact settleWhile_last (List.cons_eq_cons.mp h).2
      · rw [settleWhile, if_neg hmore] at h
        simp at h

/-- One step over a window whose newest record alone does not meet the condition: the records that settle, the record
that stays, and the condition before and after the last of them settles. -/
theorem settleWhile_splits {more : List Record → Bool} {new : Record} (hnew : more [new] = false) (w : List Record) :
    ∃ gone left, settleWhile more (w ++ [new]) = (gone, left ++ [new]) ∧ gone ++ left = w ∧
      more (left ++ [new]) = false ∧ ∀ a r, gone = a ++ [r] → more (r :: left ++ [new]) = true := by
  obtain ⟨left, hleft⟩ := settleWhile_keeps_newest _ hnew w
  have happend := settleWhile_append more (w ++ [new])
  refine ⟨(settleWhile more (w ++ [new])).1, left, Prod.ext rfl hleft, ?_, ?_, fun a r hlast => ?_⟩
  · rw [hleft, ← List.append_assoc] at happend
    exact List.append_cancel_right happend
  · have hstops := settleWhile_stops more (w ++ [new])
    rw [hleft] at hstops
    exact hstops.resolve_left (by simp)
  · have hmore := settleWhile_last hlast
    rw [hleft] at hmore
    exact hmore

/-! ### The conditions of the three steps (R117) -/

theorem tooManyStrokes_iff (w : List Record) : tooManyStrokes w = true ↔ 16 < (strokesOf w).length := decide_eq_true_iff

theorem textTooLong_iff (w : List Record) : textTooLong w = true ↔ 480 < (openTextOf w).length := decide_eq_true_iff

theorem newestSettlesBefore_iff (w : List Record) (new : Record) :
    newestSettlesBefore (w ++ [new]) = true ↔ new.data.flags.getLsbD 3 = true ∧ w ≠ [] := by
  simp [newestSettlesBefore, settleBefore, List.length_pos_iff]

/-- A record of at most 8 strokes and 200 characters meets no condition alone. -/
theorem alone_stays {new : Record} (h : recordSound new.data) :
    tooManyStrokes [new] = false ∧ newestSettlesBefore [new] = false ∧ textTooLong [new] = false := by
  obtain ⟨-, hstrokes, htext⟩ := h
  refine ⟨decide_eq_false ?_, ?_, decide_eq_false ?_⟩
  · rw [strokesOf_cons, strokesOf_nil, List.append_nil, Config.windowStrokes]
    omega
  · exact Bool.eq_false_iff.mpr fun hbefore => ((newestSettlesBefore_iff [] new).mp hbefore).2 rfl
  · rw [openTextOf_cons, openTextOf_nil, List.append_nil, Config.openTextLimit]
    omega

/-! ### The three steps together (R117) -/

theorem immediateSettle_splits {new : Record} (h : recordSound new.data) (w : List Record) :
    ∃ one two three left, immediateSettle (w ++ [new]) = (one ++ two ++ three, left ++ [new]) ∧
      one ++ two ++ three ++ left = w ∧
      (strokesOf (two ++ three ++ left ++ [new])).length ≤ 16 ∧
      (∀ a r, one = a ++ [r] → 16 < (strokesOf (r :: two ++ three ++ left ++ [new])).length) ∧
      (new.data.flags.getLsbD 3 = true → three ++ left = []) ∧
      (new.data.flags.getLsbD 3 = false → two = []) ∧
      (openTextOf (left ++ [new])).length ≤ 480 ∧
      ∀ a r, three = a ++ [r] → 480 < (openTextOf (r :: left ++ [new])).length := by
  obtain ⟨hstrokes, hbefore, htext⟩ := alone_stays h
  obtain ⟨one, v, hone, rfl, hfew, hlastOne⟩ := settleWhile_splits hstrokes w
  obtain ⟨two, u, htwo, rfl, hnone, hlastTwo⟩ := settleWhile_splits hbefore v
  obtain ⟨three, left, hthree, rfl, hshort, hlastThree⟩ := settleWhile_splits htext u
  rw [← Bool.not_eq_true] at hfew hnone hshort
  refine ⟨one, two, three, left, ?_, by simp only [List.append_assoc], ?_, fun a r hlast => ?_, fun hflag => ?_,
    fun hflag => ?_, not_lt.mp (mt (textTooLong_iff _).mpr hshort), fun a r hlast => ?_⟩
  · simp only [immediateSettle, hone, htwo, hthree]
  · rw [List.append_assoc two]
    exact not_lt.mp (mt (tooManyStrokes_iff _).mpr hfew)
  · simpa only [List.cons_append, List.append_assoc] using (tooManyStrokes_iff _).mp (hlastOne a r hlast)
  · by_contra hne
    exact hnone ((newestSettlesBefore_iff _ _).mpr ⟨hflag, hne⟩)
  · rcases List.eq_nil_or_concat two with htwo' | ⟨a, r, htwo'⟩
    · exact htwo'
    · rw [List.concat_eq_append] at htwo'
      have hset := ((newestSettlesBefore_iff _ _).mp (hlastTwo a r htwo')).1
      exact absurd (hset.symm.trans hflag) (by decide)
  · exact (textTooLong_iff _).mp (hlastThree a r hlast)

/-! ### A change of the window (R115, R129) -/

theorem settleRecords_eq (s : State) (gone : List Record) : s.settleRecords gone =
    (s.withCp { s.cp with reports := s.cp.reports ++ gone.map Record.settledReport }).withTe
      { s.te with settledFmt := lastFmt s.te.settledFmt gone } := by
  rw [lastFmt_eq, State.settleRecords]
  cases gone.getLast? <;> rfl

end Sys2Proof.Machine
end

section

open Sys2Proof Sys2Proof.Machine Sys2Proof.Rules

/-- Settles O39: the three steps one after the other, and the change of the window that follows them. -/
theorem windowChangeSettlesAndReports : Obligations.WindowChangeSettlesAndReports := by
  unfold Obligations.WindowChangeSettlesAndReports
  refine ⟨fun w hne hrecords _ => ?_, fun s w gone left hsettle => ⟨_, rfl, ?_⟩⟩
  · have hw := List.dropLast_concat_getLast hne
    obtain ⟨one, two, three, left, hsettle, hall, hsteps⟩ :=
      immediateSettle_splits (hrecords _ (List.getLast_mem hne)) w.dropLast
    rw [hw] at hsettle
    exact ⟨one, two, three, left, w.getLast hne, hsettle, by rw [hall, hw], hsteps⟩
  · rw [State.changeWindow, hsettle, settleRecords_eq, lastFmt_eq]
    rfl

end

section
/-!
PROOF. Change notices and the updates of a change: the run test over the candidates of a replay (R82, R122, R123, R126),
and the open text that the updates of a change turn the old one into (R129 to R131).
-/

namespace Sys2Proof.Machine

open Sys2Proof Sys2Proof.Rules

/-! ### The run test over a replay (R82, R123, R126) -/

/-- A candidate of the stroke that a replay has come to ends where the replayed part of the sequence ends. -/
theorem candidateOutline_infix_of_replay {window replayed : List Record} {v : Stroke} {rest : List Stroke}
    (h : strokesOf window = strokesOf replayed ++ v :: rest) (j : Nat) :
    candidateOutline replayed v j <:+: strokesOf window :=
  ⟨strokesOf (older replayed j), rest, by rw [strokesOf_older_append, h, List.append_assoc, List.singleton_append]⟩

theorem candidateOutline_ne_nil (window : List Record) (v : Stroke) (j : Nat) : candidateOutline window v j ≠ [] :=
  List.append_ne_nil_of_right_ne_nil _ (List.cons_ne_nil v [])

/-! ### The kept count of a correction (R130) -/

/-- The texts agree in the characters kept, and differ right after them or one of them ends there. -/
theorem commonPrefix_longest : ∀ x y : List Byte, commonPrefix x y ≤ x.length ∧ commonPrefix x y ≤ y.length ∧
    x.take (commonPrefix x y) = y.take (commonPrefix x y) ∧
    (commonPrefix x y < x.length → commonPrefix x y < y.length → x[commonPrefix x y]? ≠ y[commonPrefix x y]?)
  | [], y => by simp [commonPrefix]
  | a :: x, [] => by simp [commonPrefix]
  | a :: x, b :: y => by
      by_cases hab : a = b
      · obtain ⟨hx, hy, htake, hdiffer⟩ := commonPrefix_longest x y
        rw [commonPrefix, if_pos hab]
        simpa [hab, hx, hy, htake] using hdiffer
      · simp [commonPrefix, hab]

/-- A display that keeps what the texts begin with together and appends the rest shows the new text. -/
theorem take_commonPrefix_append_drop (x y : List Byte) :
    x.take (commonPrefix x y) ++ y.drop (commonPrefix x y) = y := by
  obtain ⟨-, -, htake, -⟩ := commonPrefix_longest x y
  rw [htake, List.take_append_drop]

/-- Settled text that is not what the old text begins with is longer than what a correction keeps. -/
theorem commonPrefix_lt_of_not_prefix {old settled : List Byte} (h : ¬settled <+: old) (new : List Byte) :
    commonPrefix old (settled ++ new) < settled.length := by
  by_contra hle
  obtain ⟨-, -, htake, -⟩ := commonPrefix_longest old (settled ++ new)
  have hbegins : settled <+: old.take (commonPrefix old (settled ++ new)) := by
    rw [htake, List.prefix_take_iff]
    exact ⟨List.prefix_append settled new, not_lt.mp hle⟩
  exact h (hbegins.trans (List.take_prefix _ _))

/-! ### One update or two (R130, R131) -/

section

variable (chunks : List (List Byte)) (new : List Byte)

theorem updatesOf_settled_append (left : List Byte) : updatesOf (chunks.flatten ++ left) chunks new =
    [⟨chunks, commonPrefix left new, new.drop (commonPrefix left new)⟩] := by
  unfold updatesOf
  dsimp only
  rw [if_pos (List.isPrefixOf_iff_prefix.mpr (List.prefix_append _ left)), List.drop_left]

theorem updatesOf_of_not_prefix {old : List Byte} (h : ¬chunks.flatten <+: old) : updatesOf old chunks new =
    [⟨[], commonPrefix old (chunks.flatten ++ new), (chunks.flatten ++ new).drop
      (commonPrefix old (chunks.flatten ++ new))⟩, ⟨chunks, new.length, []⟩] :=
  if_neg (mt List.isPrefixOf_iff_prefix.mp h)

/-- A display of the old open text that takes the updates of a change shows the new one. -/
theorem foldl_shownBy_updatesOf (old : List Byte) : (updatesOf old chunks new).foldl shownBy old = new := by
  by_cases h : chunks.flatten <+: old
  · obtain ⟨left, rfl⟩ := h
    rw [updatesOf_settled_append, List.foldl_cons, List.foldl_nil, shownBy, List.drop_left]
    exact take_commonPrefix_append_drop left new
  · have hfirst : shownBy old ⟨[], commonPrefix old (chunks.flatten ++ new), (chunks.flatten ++ new).drop
        (commonPrefix old (chunks.flatten ++ new))⟩ = chunks.flatten ++ new :=
      take_commonPrefix_append_drop old _
    rw [updatesOf_of_not_prefix chunks new h, List.foldl_cons, List.foldl_cons, List.foldl_nil, hfirst, shownBy,
      List.drop_left, List.take_length, List.append_nil]

end

end Sys2Proof.Machine
end

section

open Sys2Proof Sys2Proof.Machine Sys2Proof.Rules

/-- Settles O42: the candidates of a replay end with the replayed part of the sequence. -/
theorem runTestFindsAContiguousRun : Obligations.RunTestFindsAContiguousRun := by
  unfold Obligations.RunTestFindsAContiguousRun
  refine ⟨fun outline sequence hne => ?_, fun window replayed v rest j hwindow => ?_,
    fun s outline hne => changeNotice_eq_noticeTaken s hne⟩
  · rw [runTest_iff_isRun hne, isRun, and_iff_right hne]
  · exact (runTest_iff_infix (candidateOutline_ne_nil replayed v j) _).mpr (candidateOutline_infix_of_replay hwindow j)

/-- Settles O43: by whether the old open text begins with the settled chunks. -/
theorem updatesTurnTheOldTextIntoTheNew : Obligations.UpdatesTurnTheOldTextIntoTheNew := by
  unfold Obligations.UpdatesTurnTheOldTextIntoTheNew
  intro old new chunks settled common
  refine ⟨foldl_shownBy_updatesOf chunks new old, ?_, fun h => ?_⟩
  · rintro left rfl
    exact ⟨_, commonPrefix_longest left new, updatesOf_settled_append chunks new left⟩
  · have hprefix : ¬settled <+: old := fun ⟨left, hleft⟩ => h left hleft.symm
    exact ⟨_, commonPrefix_longest old _, commonPrefix_lt_of_not_prefix hprefix new,
      updatesOf_of_not_prefix chunks new hprefix⟩

end

section
/-!
PROOF. A correction on a LIVE_TEXT channel: what its screen shows after a trim, an erase and the new characters, and
what the trimmable count still tells of the end of its FIFO (R129, R136, R137, R141, R143, R144).
-/

namespace Sys2Proof.Machine

open Sys2Proof Sys2Proof.Rules

/-! ### The screen (R136) -/

theorem screen_append (shows : List Byte) (a b : List FifoByte) :
    screen shows (a ++ b) = screen (screen shows a) b := by
  rw [screen, List.map_append, List.foldl_append]
  rfl

theorem screen_cons (shows : List Byte) (x : FifoByte) (l : List FifoByte) :
    screen shows (x :: l) = screen (typed shows x.byte) l := rfl

/-- Bytes other than 0x08 are shown one after the other. -/
theorem screen_of_shown : ∀ {l : List FifoByte} (shows : List Byte), (∀ x ∈ l, x.byte ≠ 0x08) →
    screen shows l = shows ++ l.map (·.byte)
  | [], shows, _ => (List.append_nil shows).symm
  | x :: l, shows, h => by
      obtain ⟨hx, hl⟩ := List.forall_mem_cons.mp h
      rw [screen_cons, typed, if_neg hx, screen_of_shown _ hl, List.append_assoc, List.map_cons, List.singleton_append]

/-- An erase of `m` characters takes the last `m` away. -/
theorem screen_eraseBytes (shows : List Byte) : ∀ m, screen shows (eraseBytes .live m) = shows.rdrop m
  | 0 => shows.rdrop_zero.symm
  | m + 1 => by
      have ih := screen_eraseBytes shows.dropLast m
      rw [eraseBytes] at ih ⊢
      rw [List.replicate_succ, screen_cons, typed, controlByte, if_pos rfl]
      refine ih.trans ?_
      rw [List.rdrop, List.rdrop, List.length_dropLast, List.dropLast_eq_take, List.take_take]
      congr 1
      omega

/-- A trim takes characters away that the screen would have shown last. -/
theorem screen_rdrop (shows : List Byte) {fifo : List FifoByte} {t : Nat} (hle : t ≤ fifo.length)
    (hshown : ∀ x ∈ fifo.drop (fifo.length - t), x.byte ≠ 0x08) :
    screen shows (fifo.take (fifo.length - t)) = (screen shows fifo).rdrop t := by
  have hall : screen shows fifo =
      screen shows (fifo.take (fifo.length - t)) ++ (fifo.drop (fifo.length - t)).map (·.byte) := by
    conv_lhs => rw [← List.take_append_drop (fifo.length - t) fifo, screen_append, screen_of_shown _ hshown]
  have hlength : ((fifo.drop (fifo.length - t)).map (·.byte)).length = t := by
    rw [List.length_map, List.length_drop]
    omega
  have hdrop := List.rdrop_append_length (l₁ := screen shows (fifo.take (fifo.length - t)))
    (l₂ := (fifo.drop (fifo.length - t)).map (·.byte))
  rw [hlength, ← hall] at hdrop
  exact hdrop.symm

/-! ### What the trimmable count tells (R137, R141) -/

/-- A character byte that a screen shows as a character. -/
def FifoByte.showsChar (x : FifoByte) : Prop := x.char = true ∧ x.byte ≠ 0x08

theorem FifoByte.showsChar_charByte {b : Byte} (h : b ≠ 0x08) : (charByte b).showsChar := ⟨rfl, h⟩

/-- The last T bytes of the FIFO are there, are character bytes that a screen shows, and are of the D displayed. -/
structure TrimSound (c : Channel) : Prop where
  le_shown : c.trimmable ≤ c.shown
  le_fifo : c.trimmable ≤ c.fifo.length
  last_shown : ∀ x ∈ c.fifo.drop (c.fifo.length - c.trimmable), x.showsChar

/-- The settled chunks come off D one after the other as they do together (R143). -/
theorem foldl_applyChunk_eq_chunksOff : ∀ (chunks : List (List Byte)) (c : Channel),
    chunks.foldl Channel.applyChunk c = chunksOff chunks c
  | [], _ => rfl
  | chunk :: chunks, c => by
      rw [List.foldl_cons, foldl_applyChunk_eq_chunksOff chunks]
      unfold chunksOff
      rw [if_neg (List.cons_ne_nil chunk chunks), List.flatten_cons, List.length_append, ← Nat.sub_sub]
      cases chunks with
      | nil => rfl
      | cons next rest =>
          rw [if_neg (List.cons_ne_nil next rest), Channel.applyChunk, min_assoc, min_eq_right (Nat.sub_le ..)]

theorem chunksOff_trimmable_le (chunks : List (List Byte)) (c : Channel) :
    (chunksOff chunks c).trimmable ≤ c.trimmable := by
  dsimp only [chunksOff]
  split
  · exact le_rfl
  · exact min_le_left ..

theorem TrimSound.chunksOff {c : Channel} (h : TrimSound c) (chunks : List (List Byte)) :
    TrimSound (chunksOff chunks c) where
  le_shown := by
    dsimp only [Rules.chunksOff]
    split
    · next hnil => simpa [hnil] using h.le_shown
    · exact min_le_right ..
  le_fifo := (chunksOff_trimmable_le chunks c).trans h.le_fifo
  last_shown := fun x hx => h.last_shown x
    (List.drop_subset_drop_left _ (Nat.sub_le_sub_left (chunksOff_trimmable_le chunks c) _) hx)

/-! ### A correction (R144) -/

theorem trimCount_le_trimmable (c : Channel) (kept : Nat) : c.trimCount kept ≤ c.trimmable := min_le_right ..

/-- The trim and the erase together take away what the update does not keep. -/
theorem screen_correct {c : Channel} (h : TrimSound c) (hmode : c.settings.mode = .live) {fresh : List Byte}
    (hfresh : ∀ b ∈ fresh, b ≠ 0x08) (shows : List Byte) (kept : Nat) : screen shows (c.correct kept fresh).fifo =
      (screen shows c.fifo).rdrop (c.shown - kept) ++ fresh := by
  have htrim := trimCount_le_trimmable c kept
  have hcount : c.trimCount kept + (c.eraseCount kept - c.trimCount kept) = c.shown - kept :=
    Nat.add_sub_cancel' (min_le_left ..)
  have hspared : ∀ x ∈ c.fifo.drop (c.fifo.length - c.trimCount kept), x.byte ≠ 0x08 := fun x hx =>
    (h.last_shown x (List.drop_subset_drop_left _ (Nat.sub_le_sub_left htrim _) hx)).2
  have hchars : ∀ x ∈ fresh.map charByte, x.byte ≠ 0x08 := List.forall_mem_map.mpr hfresh
  rw [Channel.correct, screen_append, screen_append, screen_rdrop shows (htrim.trans h.le_fifo) hspared,
    Channel.correctionErase, hmode, screen_eraseBytes, List.rdrop_add, hcount, screen_of_shown _ hchars]
  exact congrArg _ (List.map_map.trans (List.map_id _))

theorem eraseBytes_zero (mode : ChanMode) : eraseBytes mode 0 = [] := by cases mode <;> rfl

/-- What holds of the last `n` elements of one list and of all of another holds of the last of both together. -/
theorem forall_mem_last_append {α : Type} {P : α → Prop} {a b : List α} {n : Nat}
    (ha : ∀ x ∈ a.drop (a.length - n), P x) (hb : ∀ x ∈ b, P x) :
    ∀ x ∈ (a ++ b).drop ((a ++ b).length - (n + b.length)), P x := by
  rw [List.length_append, Nat.add_sub_add_right, List.drop_append]
  exact fun x hx => (List.mem_append.mp hx).elim (ha x) fun hx => hb x (List.mem_of_mem_drop hx)

/-- The trimmable bytes that a trim spares are the last of what it leaves. -/
theorem TrimSound.spared {c : Channel} (h : TrimSound c) (kept : Nat) :
    ∀ x ∈ (c.fifo.take (c.fifo.length - c.trimCount kept)).drop
      ((c.fifo.take (c.fifo.length - c.trimCount kept)).length - (c.trimmable - c.trimCount kept)),
      x.showsChar := by
  intro x hx
  have htrim := trimCount_le_trimmable c kept
  have hfrom : c.fifo.length - c.trimCount kept - (c.trimmable - c.trimCount kept) =
      c.fifo.length - c.trimmable := by omega
  rw [List.length_take_of_le (Nat.sub_le ..), hfrom, List.drop_take] at hx
  exact h.last_shown x (List.mem_of_mem_take hx)

/-- Where nothing is erased, the trimmable bytes that the trim spared stand before the new characters; else the new
characters alone are trimmable. -/
theorem TrimSound.correct {c : Channel} (h : TrimSound c) (kept : Nat) {fresh : List Byte}
    (hfresh : ∀ b ∈ fresh, b ≠ 0x08) : TrimSound (c.correct kept fresh) := by
  have htrim := trimCount_le_trimmable c kept
  have hle := h.le_shown
  have hleFifo := h.le_fifo
  have hchars : ∀ x ∈ fresh.map charByte, x.showsChar :=
    List.forall_mem_map.mpr fun b hb => FifoByte.showsChar_charByte (hfresh b hb)
  refine ⟨?_, ?_, ?_⟩
  · have hcount : c.eraseCount kept = c.shown - kept := rfl
    simp only [Channel.correct]
    split <;> omega
  · simp only [Channel.correct, List.length_append, List.length_take, List.length_map]
    split <;> omega
  · have hlast := forall_mem_last_append (P := FifoByte.showsChar)
      (a := c.fifo.take (c.fifo.length - c.trimCount kept) ++ c.correctionErase kept)
      (n := if c.eraseCount kept - c.trimCount kept = 0 then c.trimmable - c.trimCount kept else 0) ?_ hchars
    · rwa [List.length_map] at hlast
    · split
      · next hnone =>
          rw [Channel.correctionErase, hnone, eraseBytes_zero, List.append_nil]
          exact h.spared kept
      · rw [Nat.sub_zero, List.drop_length]
        exact List.forall_mem_nil _

theorem length_correct_le {c : Channel} (h : TrimSound c) {kept : Nat} {fresh : List Byte}
    (hfits : c.correctionFits kept fresh = true) : (c.correct kept fresh).fifo.length ≤ max c.fifo.length 1024 := by
  have htrim := (trimCount_le_trimmable c kept).trans h.le_fifo
  rw [Channel.correctionFits, decide_eq_true_iff, Config.fifoBytes] at hfits
  simp only [Channel.correct, List.length_append, List.length_take, List.length_map]
  omega

/-! ### An update that fits (R142, R145) -/

theorem Channel.isOpen_iff (c : Channel) : c.isOpen = true ↔ opened c := by
  simp [Channel.isOpen, opened]

theorem applyUpdate_of_not_lapsed {c : Channel} {u : Update} (hmode : c.settings.mode = .live) (hopen : opened c)
    (hstays : (c.applyUpdate u).state ≠ .lapsed) : (chunksOff u.chunks c).correctionFits u.kept u.fresh = true ∧
      c.applyUpdate u = (chunksOff u.chunks c).correct u.kept u.fresh := by
  have happly : c.applyUpdate u = c.applyRevising u := by
    rw [Channel.applyUpdate, c.isOpen_iff.mpr hopen, hmode]
    rfl
  rw [happly, Channel.applyRevising, foldl_applyChunk_eq_chunksOff] at hstays ⊢
  split at hstays
  · next hfits => exact ⟨hfits, if_pos hfits⟩
  · exact absurd rfl hstays

end Sys2Proof.Machine
end

section

open Sys2Proof Sys2Proof.Machine Sys2Proof.Rules

/-- Settles O48: the settled chunks come off D, and the correction removes the open text that the update does not
keep. -/
theorem correctionShowsTheNewText : Obligations.CorrectionShowsTheNewText := by
  unfold Obligations.CorrectionShowsTheNewText
  rintro c u shows before text hmode hopen hfresh ⟨hscreen, hshown⟩ hleShown hleFifo hkept hchars hstays
  obtain ⟨hfits, heq⟩ := applyUpdate_of_not_lapsed hmode hopen hstays
  have hsound : TrimSound (chunksOff u.chunks c) := TrimSound.chunksOff ⟨hleShown, hleFifo, hchars⟩ u.chunks
  obtain ⟨hle, hlefifo, hlast⟩ := hsound.correct u.kept hfresh
  have hleft : (chunksOff u.chunks c).shown = text.length := by
    rw [chunksOff, hshown, Nat.add_sub_cancel_left]
  have hremoved : text.rdrop (text.length - u.kept) = text.take u.kept := by
    rw [List.rdrop, Nat.sub_sub_self hkept]
  refine ⟨_, heq, ?_, rfl, hle, hlefifo, length_correct_le hsound hfits, hlast⟩
  rw [screen_correct hsound hmode hfresh, hleft, ← hremoved]
  show (screen shows c.fifo).rdrop _ ++ _ = _
  rw [hscreen, List.rdrop_append_of_le_length _ (Nat.sub_le ..)]

end

section
/-!
SUPPORT. What a feed channel does of itself, in the words of the statements: recovery, the stopped flag, and a refresh
(R140, R147, R151, R152).
-/

namespace Sys2Proof.Machine

open Sys2Proof Sys2Proof.Rules

theorem revising_iff (c : Channel) : c.settings.mode.revising = true ↔ revises c := by
  simp [ChanMode.revising, revises]

theorem Channel.canRecover_iff (c : Channel) :
    c.canRecover = true ↔ c.state = .lapsed ∧ c.stopped = false ∧ c.fifo.length ≤ c.settings.resume := by
  simp [Channel.canRecover, and_assoc]

theorem testRecovery_eq_recoveryTested (text : List Byte) (c : Channel) :
    c.testRecovery text = recoveryTested text c := by
  unfold Channel.testRecovery recoveryTested
  simp only [Channel.canRecover_iff, queueResync_eq_resynced]

theorem stop_eq_stoppedNow (c : Channel) : c.stop = stoppedNow c := rfl

theorem release_eq_releasedNow (text : List Byte) (c : Channel) : c.release text = releasedNow text c := by
  unfold Channel.release releasedNow
  simp only [Bool.not_eq_true', testRecovery_eq_recoveryTested]

theorem refresh_of_open_revising {c : Channel} (hopen : opened c) (hrevises : revises c) (text : List Byte) :
    c.refresh text = resynced text { c with fifo := [] } := by
  rw [Channel.refresh, c.isOpen_iff.mpr hopen, (revising_iff c).mpr hrevises, ← queueResync_eq_resynced]
  rfl

theorem refresh_of_other {c : Channel} (h : ¬opened c ∨ ¬revises c) (text : List Byte) : c.refresh text = c := by
  refine if_neg fun hboth => ?_
  rw [Bool.and_eq_true, c.isOpen_iff, revising_iff] at hboth
  exact h.elim (· hboth.1) (· hboth.2)

theorem withChan_self (s : State) (n : ChanNo) : s.withChan n (s.chan n) = s := by
  simp [State.withChan, State.withChans, State.chan]

end Sys2Proof.Machine
end

section
/-!
PROOF. SET_CHANNEL, CHANNEL_ON, CHANNEL_OFF and CHANNEL_INFO (R134, R140, R141, R151, R155 to R157).
-/

namespace Sys2Proof.Machine

open Sys2Proof Sys2Proof.Rules

/-! ### Codes in their ranges (R134) -/

theorem chanOf_of_lt {v : Byte} {n : ChanNo} (h : v.toNat = n.val) : chanOf v = some n := slotOf_of_lt h

theorem chanOf_of_gt {v : Byte} (h : 3 < v.toNat) : chanOf v = none := slotOf_of_gt h

theorem modeOf_eq_lookup (v : Byte) : modeOf v = [(0, ChanMode.live), (1, .framed), (2, .final)].lookup v.toNat := by
  revert v; decide

theorem flowOf_eq_lookup (v : Byte) :
    flowOf v = [(0, FlowSetting.none), (1, .xonxoff), (2, .line)].lookup v.toNat := by
  revert v; decide

/-- A code above 2 names no mode and no flow setting. -/
theorem modeOf_flowOf_of_gt {v : Byte} (h : 2 < v.toNat) : modeOf v = none ∧ flowOf v = none := by
  revert v; decide

/-! ### SET_CHANNEL (R134) -/

section

variable {s : State} {v m f : Byte} (d r : BitVec 16) (st ka : Byte)

theorem cmdSetChannel_of_outOfRange (h : 3 < v.toNat ∨ 2 < m.toNat ∨ 2 < f.toNat) :
    cmdSetChannel v m f d r st ka s = s.refuse .badArg := by
  have hnone : chanOf v = none ∨ modeOf m = none ∨ flowOf f = none :=
    h.imp chanOf_of_gt (.imp (fun hm => (modeOf_flowOf_of_gt hm).1) fun hf => (modeOf_flowOf_of_gt hf).2)
  unfold cmdSetChannel
  split
  · next hchan hmode hflow => simp [hchan, hmode, hflow] at hnone
  · rfl

theorem exec_setChannel_inRange {n : ChanNo} {mode : ChanMode} {flow : FlowSetting} (h : Ready s)
    (hchan : v.toNat = n.val) (hmode : modeOf m = some mode) (hflow : flowOf f = some flow) :
    exec (.setChannel v m f d r st ka) s = .next
      (if (s.chan n).state ≠ .down then answered s .badState 0x2A []
      else answered (s.withChan n { s.chan n with settings := ⟨mode, flow, max 1 d.toNat, min 512 r.toNat,
        min 120 st.toNat, min 60 ka.toNat⟩ }) .done 0x2A []) := by
  split
  · next hopen =>
    refine exec_refuses rfl rfl h ?_
    rw [runCommand, cmdSetChannel, chanOf_of_lt hchan, hmode, hflow]
    exact if_neg hopen
  · next hdown =>
    refine exec_answers rfl rfl h rfl rfl ?_
    rw [runCommand, cmdSetChannel, chanOf_of_lt hchan, hmode, hflow]
    exact if_pos (not_not.mp hdown)

end

/-- A divisor is no less than 1. -/
theorem max_one_eq_ite (a : Nat) : max 1 a = if a = 0 then 1 else a := by
  split <;> omega

/-! ### CHANNEL_ON, CHANNEL_OFF and CHANNEL_INFO (R155, R156, R157) -/

section

variable {s : State} {v : Byte}

theorem exec_channel_outOfRange (h : Ready s) (hv : 3 < v.toNat) :
    exec (.channelOn v) s = .next (answered s .badArg 0x2B []) ∧
    exec (.channelOff v) s = .next (answered s .badArg 0x2C []) ∧
    exec (.channelInfo v) s = .next (answered s .badArg 0x2D []) := by
  refine ⟨exec_refuses rfl rfl h ?_, exec_refuses rfl rfl h ?_, exec_refuses rfl rfl h ?_⟩
  · rw [runCommand, cmdChannelOn, chanOf_of_gt hv]
  · rw [runCommand, cmdChannelOff, chanOf_of_gt hv]
  · rw [runCommand, cmdChannelInfo, chanOf_of_gt hv]

theorem stoppedAtOn_eq (c : Channel) :
    c.stoppedAtOn = if c.settings.flow = .line then c.fclrHigh else false := by
  unfold Channel.stoppedAtOn
  cases c.settings.flow <;> rfl

/-- The break that FRXn had seen is cleared before a channel opens or after it. -/
theorem startWith_breakSeen (text : List Byte) (stopped : Bool) (c : Channel) :
    Channel.startWith text stopped { c with breakSeen := false } =
      { started text stopped c with breakSeen := false } := by
  rw [startWith_eq_started]
  unfold started resynced
  cases c.settings.mode <;> rfl

variable {n : ChanNo} (h : Ready s) (hv : v.toNat = n.val)
include h hv

theorem exec_channelOn_inRange : exec (.channelOn v) s = .next
    (if (s.chan n).state ≠ .down then answered s .badState 0x2B []
    else answered (s.withChan n { started (openTextOf s.te.window)
      (if (s.chan n).settings.flow = .line then (s.chan n).fclrHigh else false) (s.chan n) with breakSeen := false })
      .done 0x2B []) := by
  split
  · next hopen =>
    refine exec_refuses rfl rfl h ?_
    rw [runCommand, cmdChannelOn, chanOf_of_lt hv]
    exact if_neg hopen
  · next hdown =>
    refine exec_answers rfl rfl h rfl rfl ?_
    rw [runCommand, cmdChannelOn, chanOf_of_lt hv, ← stoppedAtOn_eq, ← startWith_breakSeen]
    exact if_pos (not_not.mp hdown)

theorem exec_channelOff_inRange : exec (.channelOff v) s = .next
    (if (s.chan n).state = .down then answered s .done 0x2C []
    else answered (s.withChan n (s.chan n).close) .done 0x2C []) := by
  split
  · next hdown =>
    refine exec_answers rfl rfl h rfl rfl ?_
    rw [runCommand, cmdChannelOff, chanOf_of_lt hv]
    exact if_pos hdown
  · next hopen =>
    refine exec_answers rfl rfl h rfl rfl ?_
    rw [runCommand, cmdChannelOff, chanOf_of_lt hv]
    exact if_neg hopen

theorem exec_channelInfo_inRange :
    exec (.channelInfo v) s = .next (answered s .done 0x2D (s.chan n).info) := by
  refine exec_answers rfl rfl h rfl rfl ?_
  rw [runCommand, cmdChannelInfo, chanOf_of_lt hv]
  rfl

end

end Sys2Proof.Machine

section

open Sys2Proof Sys2Proof.Machine Sys2Proof.Rules

/-- Settles O44: each command by its checks and its effect. -/
theorem channelIsSetOpenedClosedAndRead : Obligations.ChannelIsSetOpenedClosedAndRead := by
  unfold Obligations.ChannelIsSetOpenedClosedAndRead
  refine ⟨fun s v m f st ka d r h => ⟨fun hrange => ?_, fun n mode flow hv hmode hflow => ?_⟩,
    fun s v h => ⟨exec_channel_outOfRange h, ?_⟩⟩
  · exact exec_refuses rfl rfl h (cmdSetChannel_of_outOfRange d r st ka hrange)
  · rw [exec_setChannel_inRange d r st ka h hv ((modeOf_eq_lookup m).trans hmode) ((flowOf_eq_lookup f).trans hflow)]
    simp only [max_one_eq_ite, min_def_lt]
  · rintro n hv c rfl
    refine ⟨exec_channelOn_inRange h hv, exec_channelOff_inRange h hv, ?_⟩
    rw [exec_channelInfo_inRange h hv]
    rfl

end
end

section
/-!
PROOF. The transmitter and the keepalive timer (R135, R136, R138, R141, R151, R154).
-/

namespace Sys2Proof.Machine

open Sys2Proof Sys2Proof.Rules

/-! ### TRANSMIT_BYTE (R138) -/

theorem Channel.canTransmit_iff (c : Channel) : c.canTransmit = true ↔
    (c.state = .sending ∨ c.state = .lapsed) ∧ c.stopped = false ∧ c.wire = none := by
  simp [Channel.canTransmit, and_assoc]

/-- The head byte `b` starts on the wire and leaves `rest` in the FIFO. -/
theorem transmit_of_head {c : Channel} {b : FifoByte} {rest : List FifoByte} (hfifo : c.fifo = b :: rest)
    (hcan : c.canTransmit = true) (text : List Byte) : c.transmit text = recoveryTested text { c with
      fifo := rest
      wire := some (1#1 ++ b.byte ++ 0#1)
      trimmable := min c.trimmable (rest.filter (·.char)).length
      keep := keepLoaded c } := by
  rw [Channel.transmit, hfifo]
  dsimp only
  rw [if_pos hcan, testRecovery_eq_recoveryTested, loadKeepalive_eq, charsIn, List.countP_eq_length_filter]
  rfl

theorem transmit_of_quiet {c : Channel} (h : c.fifo = [] ∨ c.canTransmit = false) (text : List Byte) :
    c.transmit text = c := by
  unfold Channel.transmit
  split
  · rfl
  · next hfifo =>
    refine if_neg (Bool.eq_false_iff.mp (h.resolve_left fun hempty => ?_))
    cases hempty.symm.trans hfifo

theorem canTransmit_eq_false {c : Channel}
    (h : c.state = .down ∨ c.state = .held ∨ c.stopped = true ∨ c.wire.isSome = true) : c.canTransmit = false := by
  rw [Bool.eq_false_iff, Ne, Channel.canTransmit_iff]
  rintro ⟨hstate, hstopped, hwire⟩
  rcases h with h | h | h | h <;> simp_all

/-! ### KEEPALIVE_TIMER_EXPIRY (R154) -/

theorem keepaliveExpires_of_idle {c : Channel} (h : c.keep = none) : c.keepaliveExpires = c :=
  if_pos (Option.isNone_iff_eq_none.mpr h)

theorem keepaliveExpires_of_running {c : Channel} (h : c.keep.isSome = true) : c.keepaliveExpires = { c with
    fifo := if c.state = .sending ∧ c.fifo = [] then controls [0x1E, 0x4B] else c.fifo
    keep := keepLoaded c } := by
  have hsome : ¬c.keep.isNone = true := by rwa [Option.isNone_iff_eq_none, ← Option.not_isSome_iff_eq_none, not_not]
  rw [Channel.keepaliveExpires, if_neg hsome]
  split
  · rw [loadKeepalive_eq]
    rfl
  · exact loadKeepalive_eq c

end Sys2Proof.Machine

section

open Sys2Proof Sys2Proof.Machine Sys2Proof.Rules

/-- Settles O45: the byte that starts, what holds it back, and a keepalive timer that expires. -/
theorem transmitterSendsTheHeadByte : Obligations.TransmitterSendsTheHeadByte := by
  unfold Obligations.TransmitterSendsTheHeadByte
  rintro s n c rfl
  refine ⟨fun b rest hfifo hstate hstopped hwire => ?_, fun hquiet => ?_, rfl, fun hidle => ?_, fun hrunning => ?_⟩
  · have hcan := (s.chan n).canTransmit_iff.mpr ⟨hstate, hstopped, hwire⟩
    rw [exec, execTransmitByte, transmit_of_head hfifo hcan]
    rfl
  · rw [exec, execTransmitByte, transmit_of_quiet (hquiet.imp_right canTransmit_eq_false), withChan_self]
  · rw [exec, execKeepaliveTimerExpiry, keepaliveExpires_of_idle hidle, withChan_self]
  · rw [exec, execKeepaliveTimerExpiry, keepaliveExpires_of_running hrunning]

end
end

section
/-!
PROOF. What the receive line, FCLRn and the stall timer do to a channel (R135, R140, R147 to R153).
-/

namespace Sys2Proof.Machine

open Sys2Proof Sys2Proof.Rules

/-! ### A byte sampled (R135, R153) -/

/-- The bits between a start bit and a stop bit are the byte. -/
theorem sampledByte_of_frame (b : Byte) : sampledByte (b ++ 0#1) true = some b := by
  revert b; decide

theorem sampledByte_of_broken {sampled : BitVec 9} {stopBit : Bool}
    (h : stopBit = false ∨ sampled.getLsbD 0 = true) : sampledByte sampled stopBit = none := by
  refine if_neg fun hframed => ?_
  rw [Bool.and_eq_true, Bool.not_eq_true'] at hframed
  obtain ⟨hstop, hstart⟩ := hframed
  exact h.elim (fun h => Bool.noConfusion (h.symm.trans hstop)) fun h => Bool.noConfusion (h.symm.trans hstart)

theorem exec_inboundByte_of_none {sampled : BitVec 9} {stopBit : Bool} (h : sampledByte sampled stopBit = none)
    (s : State) (n : ChanNo) : exec (.inboundByte n sampled stopBit) s = .next s := by
  rw [exec, execInboundByte, h]

theorem exec_inboundByte_of_some {sampled : BitVec 9} {stopBit : Bool} {b : Byte}
    (h : sampledByte sampled stopBit = some b) (s : State) (n : ChanNo) :
    exec (.inboundByte n sampled stopBit) s = .next (s.withChan n ((s.chan n).receive (openTextOf s.te.window) b)) := by
  rw [exec, execInboundByte, h]
  rfl

/-! ### A byte received (R140, R152) -/

section

variable (text : List Byte) {c : Channel}

theorem receive_of_down (b : Byte) (h : c.state = .down) : c.receive text b = c := if_pos h

variable (h : c.state ≠ .down)
include h

theorem receive_refresh : c.receive text 0x12 = c.refresh text := by
  rw [Channel.receive, if_neg h, if_pos rfl]

theorem receive_xoff (hflow : c.settings.flow = .xonxoff) : c.receive text 0x13 = stoppedNow c := by
  rw [Channel.receive, if_neg h, if_neg (by decide), if_pos ⟨hflow, rfl⟩, stop_eq_stoppedNow]

theorem receive_xon (hflow : c.settings.flow = .xonxoff) : c.receive text 0x11 = releasedNow text c := by
  rw [Channel.receive, if_neg h, if_neg (by decide), if_neg fun hoff => absurd hoff.2 (by decide),
    if_pos ⟨hflow, rfl⟩, release_eq_releasedNow]

theorem receive_other {b : Byte} (hb : b ≠ 0x12) (hflow : c.settings.flow ≠ .xonxoff ∨ (b ≠ 0x11 ∧ b ≠ 0x13)) :
    c.receive text b = c := by
  rw [Channel.receive, if_neg h, if_neg hb, if_neg, if_neg]
  · exact fun hon => hflow.elim (· hon.1) (·.1 hon.2)
  · exact fun hoff => hflow.elim (· hoff.1) (·.2 hoff.2)

end

/-! ### FCLRn, a break and a stall (R140, R147 to R150) -/

theorem clearLine_eq (text : List Byte) (high : Bool) (c : Channel) : c.clearLine text high =
    if c.state = .down ∨ c.settings.flow ≠ .line then { c with fclrHigh := high }
    else if high then stoppedNow { c with fclrHigh := high }
    else releasedNow text { c with fclrHigh := high } := by
  simp only [Channel.clearLine, stop_eq_stoppedNow, release_eq_releasedNow]

theorem takeBreak_of_quiet {c : Channel} (h : c.state = .down ∨ c.breakSeen = true) (text : List Byte) :
    c.takeBreak text = c := if_pos h

theorem takeBreak_of_first {c : Channel} (h : c.state ≠ .down) (hseen : c.breakSeen = false) (text : List Byte) :
    c.takeBreak text = recoveryTested text (lapsed { c with
      breakSeen := true
      fifo := []
      stopped := if c.settings.flow = .xonxoff then false else c.stopped }) := by
  rw [Channel.takeBreak, if_neg (by simp [h, hseen]), testRecovery_eq_recoveryTested]
  rfl

theorem Channel.stalling_iff (c : Channel) : c.stalling = true ↔ c.state = .held ∧ c.stall.isSome = true := by
  simp [Channel.stalling]

theorem exec_breakReceived_of_quiet {s : State} {n : ChanNo}
    (h : (s.chan n).state = .down ∨ (s.chan n).breakSeen = true) : exec (.breakReceived n) s = .next s := by
  have hentered : ((s.chan n).isOpen && !(s.chan n).breakSeen) = false := by
    rcases h with h | h <;> simp [Channel.isOpen, h]
  rw [exec, execBreakReceived, takeBreak_of_quiet h, withChan_self, hentered]
  rfl

/-- A break sets the channel's notice where the channel was open. -/
theorem exec_breakReceived_of_first {s : State} {n : ChanNo} (h : (s.chan n).state ≠ .down)
    (hseen : (s.chan n).breakSeen = false) : exec (.breakReceived n) s = .next
      ((s.withChan n (recoveryTested (openTextOf s.te.window) (lapsed { s.chan n with
        breakSeen := true
        fifo := []
        stopped := if (s.chan n).settings.flow = .xonxoff then false else (s.chan n).stopped }))).noteLapse n
        (s.chan n).isOpen) := by
  rw [exec, execBreakReceived, takeBreak_of_first h hseen, hseen, Bool.not_false, Bool.and_true]
  rfl

theorem exec_stallTimerExpiry_of_running {s : State} {n : ChanNo} (hheld : (s.chan n).state = .held)
    (hrunning : (s.chan n).stall.isSome = true) : exec (.stallTimerExpiry n) s = .next
      (noticed (s.withChan n (recoveryTested (openTextOf s.te.window) (lapsed { s.chan n with fifo := [] })))
        (BitVec.twoPow 8 (4 + n.val))) := by
  have hstalling := (s.chan n).stalling_iff.mpr ⟨hheld, hrunning⟩
  rw [exec, execStallTimerExpiry, if_pos hstalling, testRecovery_eq_recoveryTested]
  rfl

theorem exec_stallTimerExpiry_of_idle {s : State} {n : ChanNo}
    (h : (s.chan n).state ≠ .held ∨ (s.chan n).stall = none) : exec (.stallTimerExpiry n) s = .next s := by
  rw [exec, execStallTimerExpiry, if_neg]
  rw [Channel.stalling_iff]
  rintro ⟨hheld, hrunning⟩
  rcases h with h | h
  · exact h hheld
  · rw [h] at hrunning
    cases hrunning

end Sys2Proof.Machine

section

open Sys2Proof Sys2Proof.Machine Sys2Proof.Rules

/-- Settles O46: a byte by what it is, then FCLRn, a break and the stall timer by the channel's state. -/
theorem equipmentStopsReleasesAndLapsesAChannel : Obligations.EquipmentStopsReleasesAndLapsesAChannel := by
  unfold Obligations.EquipmentStopsReleasesAndLapsesAChannel
  rintro s n c text rfl rfl received
  have hreceived (b : Byte) {d : Channel} (h : (s.chan n).receive (openTextOf s.te.window) b = d) :
      exec (received b) s = .next (s.withChan n d) := by
    rw [← h]
    exact exec_inboundByte_of_some (sampledByte_of_frame b) s n
  have hignored (b : Byte) (h : (s.chan n).receive (openTextOf s.te.window) b = s.chan n) :
      exec (received b) s = .next s := by
    rw [hreceived b h, withChan_self]
  refine ⟨fun sampled stopBit h => ?_, fun hup => ⟨fun hopen hrevises => ?_, fun hother => ?_, fun hflow => ⟨?_, ?_⟩,
    fun b hb hflow => ?_⟩, fun high => ?_, exec_breakReceived_of_quiet, fun hup hseen => ⟨fun hopen => ?_,
    fun hlapsed => ?_⟩, rfl, exec_stallTimerExpiry_of_running, exec_stallTimerExpiry_of_idle⟩
  · cases hb : sampledByte sampled stopBit with
    | none => exact exec_inboundByte_of_none hb s n
    | some b =>
      have hdown : (s.chan n).state = .down := by
        by_contra hup
        have hbroken : stopBit = false ∨ sampled.getLsbD 0 = true :=
          h.imp_right fun h => h.resolve_right hup
        cases (sampledByte_of_broken hbroken).symm.trans hb
      rw [exec_inboundByte_of_some hb, receive_of_down _ _ hdown, withChan_self]
  · exact hreceived 0x12 ((receive_refresh _ hup).trans (refresh_of_open_revising hopen hrevises _))
  · exact hignored 0x12 ((receive_refresh _ hup).trans (refresh_of_other hother _))
  · exact hreceived 0x13 (receive_xoff _ hup hflow)
  · exact hreceived 0x11 (receive_xon _ hup hflow)
  · exact hignored b (receive_other _ hup hb hflow)
  · rw [exec, execFclrChange, clearLine_eq]
    rfl
  · rw [exec_breakReceived_of_first hup hseen, (s.chan n).isOpen_iff.mpr hopen]
    rfl
  · have hclosed : (s.chan n).isOpen = false := by simp [Channel.isOpen, hlapsed]
    rw [exec_breakReceived_of_first hup hseen, hclosed]
    rfl

end
end

section
/-!
PROOF. The updates of a change: a channel takes one whole or lapses, and every channel takes those of a change together
(R129, R142 to R147, R151).
-/

namespace Sys2Proof.Machine

open Sys2Proof Sys2Proof.Rules

/-! ### One update (R142 to R146) -/

theorem eraseBytes_eq_controls (mode : ChanMode) (m : Nat) : eraseBytes mode m = controls (eraseOf mode m) := by
  cases mode with
  | live => exact List.map_replicate.symm
  | framed | final => rfl

theorem applyUpdate_of_closed {c : Channel} (h : ¬opened c) (u : Update) : c.applyUpdate u = c := by
  rw [Channel.applyUpdate, Bool.eq_false_iff.mpr (mt c.isOpen_iff.mp h)]
  rfl

theorem applyUpdate_of_revising {c : Channel} (hopen : opened c) (hrevises : revises c) (u : Update) :
    c.applyUpdate u = if (chunksOff u.chunks c).correctionFits u.kept u.fresh then
      (chunksOff u.chunks c).correct u.kept u.fresh else lapsed c := by
  rw [Channel.applyUpdate, c.isOpen_iff.mpr hopen, (revising_iff c).mpr hrevises, ← foldl_applyChunk_eq_chunksOff]
  rfl

theorem applyUpdate_of_final {c : Channel} (hopen : opened c) (hfinal : c.settings.mode = .final) (u : Update) :
    c.applyUpdate u = if (u.chunks.flatten.flatMap finalBytes).length ≤ 1024 - c.fifo.length then
      { c with fifo := c.fifo ++ u.chunks.flatten.flatMap finalBytes } else lapsed c := by
  rw [Channel.applyUpdate, c.isOpen_iff.mpr hopen, hfinal]
  rfl

theorem Channel.correctionFits_iff (c : Channel) (kept : Nat) (fresh : List Byte) :
    c.correctionFits kept fresh = true ↔
      (c.correctionErase kept).length + fresh.length ≤ 1024 - c.fifo.length + c.trimCount kept := decide_eq_true_iff

theorem correctionErase_eq_controls (c : Channel) (kept : Nat) : c.correctionErase kept =
    controls (eraseOf c.settings.mode (c.eraseCount kept - c.trimCount kept)) := eraseBytes_eq_controls _ _

/-! ### The updates of a change (R129, R142, R147, R151) -/

theorem Channel.lapsedFrom_iff (old new : Channel) : old.lapsedFrom new = true ↔ opened old ∧ new.state = .lapsed := by
  rw [Channel.lapsedFrom, Bool.and_eq_true, old.isOpen_iff, beq_iff_eq]

theorem sendUpdates_chan (s : State) (us : List Update) (n : ChanNo) : (s.sendUpdates us).chan n =
    recoveryTested (openTextOf s.te.window) (us.foldl Channel.applyUpdate (s.chan n)) := by
  rw [← testRecovery_eq_recoveryTested]
  simp [State.sendUpdates, State.chan, State.setNotices, Channel.takeUpdates, State.openText]

/-- A bit of notices set together is set in one of them. -/
theorem getLsbD_foldl_or (i : Nat) : ∀ (masks : List Byte) (m : Byte),
    (masks.foldl (· ||| ·) m).getLsbD i = true ↔ m.getLsbD i = true ∨ ∃ x ∈ masks, x.getLsbD i = true
  | [], m => by simp
  | x :: masks, m => by
      rw [List.foldl_cons, getLsbD_foldl_or i masks, BitVec.getLsbD_or, Bool.or_eq_true, List.exists_mem_cons_iff,
        or_assoc]

theorem getLsbD_lapseNotice (n : ChanNo) (i : Nat) : (lapseNotice n).getLsbD i = true ↔ i = 4 + n.val := by
  have hn := n.isLt
  rw [lapseNotice, noticeBit, BitVec.getLsbD_twoPow, Bool.and_eq_true, decide_eq_true_iff, decide_eq_true_iff]
  omega

theorem sendUpdates_notices (s : State) (us : List Update) (i : Nat) :
    (s.sendUpdates us).cp.notices.getLsbD i = true ↔ s.cp.notices.getLsbD i = true ∨
      ∃ n : ChanNo, i = 4 + n.val ∧ opened (s.chan n) ∧ (us.foldl Channel.applyUpdate (s.chan n)).state = .lapsed := by
  have hbits : (s.sendUpdates us).cp.notices = s.cp.notices ||| ((allFour.filter fun n =>
    (s.chan n).lapsedFrom ((s.chan n).takeUpdates us)).map lapseNotice).foldl (· ||| ·) 0 := rfl
  rw [hbits, BitVec.getLsbD_or, Bool.or_eq_true, getLsbD_foldl_or]
  refine or_congr_right ⟨?_, ?_⟩
  · rintro (hzero | ⟨mask, hmask, hbit⟩)
    · simp at hzero
    · obtain ⟨n, hn, rfl⟩ := List.mem_map.mp hmask
      exact ⟨n, (getLsbD_lapseNotice n i).mp hbit, (Channel.lapsedFrom_iff _ _).mp (List.mem_filter.mp hn).2⟩
  · rintro ⟨n, hi, hlapsed⟩
    have hmem : n ∈ allFour.filter fun n => (s.chan n).lapsedFrom ((s.chan n).takeUpdates us) :=
      List.mem_filter.mpr ⟨mem_allFour n, (Channel.lapsedFrom_iff _ _).mpr hlapsed⟩
    exact .inr ⟨_, List.mem_map.mpr ⟨n, hmem, rfl⟩, (getLsbD_lapseNotice n i).mpr hi⟩

end Sys2Proof.Machine

section

open Sys2Proof Sys2Proof.Machine Sys2Proof.Rules

/-- Settles O47: one update by the channel's state and mode, then those of a change on every channel. -/
theorem updateIsTakenWholeOrTheChannelLapses : Obligations.UpdateIsTakenWholeOrTheChannelLapses := by
  unfold Obligations.UpdateIsTakenWholeOrTheChannelLapses
  refine ⟨fun c u => ⟨fun hclosed => applyUpdate_of_closed hclosed u, fun hopen hrevises => ?_,
    fun hopen hfinal => ?_⟩, fun s us => ⟨_, rfl, rfl, sendUpdates_chan s us, fun i => sendUpdates_notices s us i.val⟩⟩
  · rintro d e t erase rfl rfl rfl rfl
    have herase := correctionErase_eq_controls (chunksOff u.chunks c) u.kept
    have hfits := (chunksOff u.chunks c).correctionFits_iff u.kept u.fresh
    rw [applyUpdate_of_revising hopen hrevises]
    refine ⟨fun hroom => ?_, fun hroom => ?_⟩
    · rw [if_pos (hfits.mpr (herase ▸ hroom)), Channel.correct, herase]
      simp only [Nat.pos_iff_ne_zero, ite_not]
      rfl
    · exact if_neg fun h => absurd (herase ▸ hfits.mp h) (not_le.mpr hroom)
  · rintro bytes rfl
    rw [applyUpdate_of_final hopen hfinal]
    exact ⟨fun hroom => if_pos hroom, fun hroom => if_neg (not_le.mpr hroom)⟩

end
end

section
/-!
SUPPORT. A channel in order stays so by each of its own moves (R134, R137 to R141, R147 to R157), and by the updates of
a change, which carry it from the old open text to the new one (R129 to R131, R142 to R146).
-/

namespace Sys2Proof.Machine

open Sys2Proof Sys2Proof.Rules

/-! ### Channels that show no open text -/

/-- The ranges of a channel's settings (R134). -/
def settingsInRange (x : ChanSettings) : Prop :=
  1 ≤ x.divisor ∧ x.divisor ≤ 65535 ∧ x.resume ≤ 512 ∧ x.stallLimit ≤ 120 ∧ x.keepalive ≤ 60

/-- A channel that shows no open text looks at none. -/
theorem inOrder_of_hidden {text text' : List Byte} {c : Channel} (h : channelInOrder text c)
    (hidden : ¬opened c ∨ ¬revises c) : channelInOrder text' c :=
  { h with shown := fun hopen hrevises => absurd hidden (not_or.mpr ⟨not_not.mpr hopen, not_not.mpr hrevises⟩) }

theorem not_opened_of_down {c : Channel} (h : c.state = .down) : ¬opened c := by
  rintro (hopen | hopen) <;> cases h.symm.trans hopen

theorem not_opened_of_lapsed {c : Channel} (h : c.state = .lapsed) : ¬opened c := by
  rintro (hopen | hopen) <;> cases h.symm.trans hopen

theorem not_down_of_opened {c : Channel} (h : opened c) : c.state ≠ .down := fun hdown => not_opened_of_down hdown h

theorem lapsed_inOrder {text : List Byte} {c : Channel} (hsettings : settingsInRange c.settings)
    (hlevel : c.fifo.length ≤ 1024) : channelInOrder text (lapsed c) where
  settings := hsettings
  level := hlevel
  down := nofun
  held := fun hopen => absurd hopen (not_opened_of_lapsed rfl)
  stall := nofun
  shown := fun hopen => absurd hopen (not_opened_of_lapsed rfl)
  hidden := fun _ => rfl
  trimmable := ⟨le_rfl, Nat.zero_le _⟩
  characters := by simp [lapsed]

/-- A channel that is DOWN, with empty FIFO, counts, flags and timers. -/
theorem down_inOrder {text : List Byte} {c : Channel} (hsettings : settingsInRange c.settings)
    (hstate : c.state = .down) (hfifo : c.fifo = []) (hshown : c.shown = 0) (htrimmable : c.trimmable = 0)
    (hrest : c.stopped = false ∧ c.stall = none ∧ c.keep = none ∧ c.breakSeen = false) : channelInOrder text c where
  settings := hsettings
  level := by rw [hfifo]; exact Nat.zero_le _
  down := fun _ => ⟨hfifo, hrest⟩
  held := fun hopen => absurd hopen (not_opened_of_down hstate)
  stall := by
    obtain ⟨-, hstall, -⟩ := hrest
    rw [hstall]
    nofun
  shown := fun hopen => absurd hopen (not_opened_of_down hstate)
  hidden := fun _ => hshown
  trimmable := by rw [htrimmable]; exact ⟨Nat.zero_le _, Nat.zero_le _⟩
  characters := by simp [hfifo]

/-! ### A resync (R141, R151) -/

theorem not_revises_iff (c : Channel) : ¬revises c ↔ c.settings.mode = .final := by
  unfold revises
  cases c.settings.mode <;> simp

theorem resynced_of_revises {c : Channel} (h : revises c) (text : List Byte) : resynced text c = { c with
    fifo := c.fifo ++ controls (resyncOf c.settings.mode) ++ characters text
    shown := text.length
    trimmable := text.length } := by
  unfold resynced
  rcases h with h | h <;> rw [h]

theorem resynced_of_final {c : Channel} (h : c.settings.mode = .final) (text : List Byte) : resynced text c = { c with
    fifo := c.fifo ++ controls (resyncOf .final), shown := 0, trimmable := 0 } := by
  rw [resynced, h]

theorem length_resyncOf_le (mode : ChanMode) : (resyncOf mode).length ≤ 2 := by cases mode <;> decide

/-- What holds of the last `n` elements of a list holds of fewer. -/
theorem forall_mem_last_of_le {α : Type} {P : α → Prop} {l : List α} {m n : Nat} (hle : m ≤ n)
    (h : ∀ x ∈ l.drop (l.length - n), P x) : ∀ x ∈ l.drop (l.length - m), P x :=
  fun x hx => h x (List.drop_subset_drop_left _ (Nat.sub_le_sub_left hle _) hx)

/-- What holds of all of a list holds of its last elements, whatever stands before it. -/
theorem forall_mem_last {α : Type} {P : α → Prop} {b : List α} (hb : ∀ x ∈ b, P x) (a : List α) :
    ∀ x ∈ (a ++ b).drop ((a ++ b).length - b.length), P x := by
  rw [List.length_append, Nat.add_sub_cancel, List.drop_left]
  exact hb

section

variable {text : List Byte} {c : Channel} (htext : text.length ≤ 480)
include htext

theorem resynced_inOrder (hsettings : settingsInRange c.settings) (hlevel : c.fifo.length ≤ 512) (hopen : opened c)
    (hheld : c.state = .held ↔ c.stopped = true) (hstall : c.stall.isSome = true → c.state = .held) :
    channelInOrder text (resynced text c) := by
  have hup := not_down_of_opened hopen
  have hsync := length_resyncOf_le c.settings.mode
  by_cases hrevises : revises c
  · rw [resynced_of_revises hrevises]
    refine ⟨hsettings, ?_, fun hdown => absurd hdown hup, fun _ => hheld, hstall, fun _ _ => rfl,
      fun h => absurd h (not_or.mpr ⟨not_not.mpr hopen, not_not.mpr hrevises⟩), ⟨le_rfl, ?_⟩, ?_⟩
    · simp only [controls, characters, List.length_append, List.length_map]
      omega
    · simp only [characters, List.length_append, List.length_map]
      omega
    · have hlast := forall_mem_last (P := fun x : FifoByte => x.char = true) (b := characters text)
        (by simp [characters]) (c.fifo ++ controls (resyncOf c.settings.mode))
      rwa [characters, List.length_map] at hlast
  · have hfinal := (not_revises_iff c).mp hrevises
    rw [resynced_of_final hfinal]
    refine ⟨hsettings, ?_, fun hdown => absurd hdown hup, fun _ => hheld, hstall,
      fun _ h => absurd h hrevises, fun _ => rfl, ⟨le_rfl, Nat.zero_le _⟩, by simp⟩
    simp only [controls, List.length_append, List.length_map]
    rw [hfinal] at hsync
    omega

/-- A LAPSED channel that recovers has a FIFO level of 512 bytes or less. -/
theorem recoveryTested_inOrder (h : channelInOrder text c) : channelInOrder text (recoveryTested text c) := by
  unfold recoveryTested
  split
  · next hrecovers =>
    obtain ⟨hlapsed, hstopped, hlevel⟩ := hrecovers
    obtain ⟨-, -, hresume, -⟩ := h.settings
    have hstall : ¬c.stall.isSome = true := fun hstall => by cases hlapsed.symm.trans (h.stall hstall)
    have hsync := resynced_inOrder (c := { c with state := .sending }) htext h.settings (hlevel.trans hresume)
      (.inl rfl) (by rw [hstopped]; exact ⟨nofun, nofun⟩) fun hsome => absurd hsome hstall
    convert hsync using 1
    unfold resynced
    cases c.settings.mode <;> rfl
  · exact h

/-- A channel that starts afresh is HELD exactly where its stopped flag is set. -/
theorem started_inOrder (hsettings : settingsInRange c.settings) (stopped : Bool) :
    channelInOrder text (started text stopped c) := by
  have hsync : channelInOrder text (resynced text { c with
      fifo := []
      stopped := stopped
      state := if stopped then .held else .sending
      stall := if stopped then stallStarted c else none
      keep := keepLoaded c }) := by
    refine resynced_inOrder htext hsettings (Nat.zero_le _) ?_ ?_ ?_ <;> cases stopped <;> simp [opened]
  convert hsync using 1
  unfold started resynced
  cases c.settings.mode <;> rfl

end

/-! ### The stopped flag (R140, R148, R149) -/

section

variable {text : List Byte} {c : Channel} (h : channelInOrder text c)
include h

theorem stoppedNow_inOrder (hup : c.state ≠ .down) : channelInOrder text (stoppedNow c) := by
  unfold stoppedNow
  split
  · exact h
  · split
    · next hsending =>
      exact { h with
        down := nofun
        held := fun _ => iff_of_true rfl rfl
        stall := fun _ => rfl
        shown := fun _ => h.shown (.inl hsending)
        hidden := fun hidden => h.hidden (hidden.imp_left fun hopen => absurd (.inr rfl) hopen) }
    · next hsending =>
      exact { h with
        down := fun hdown => absurd hdown hup
        held := fun hopen => iff_of_true (hopen.resolve_left hsending) rfl }

theorem releasedNow_inOrder (htext : text.length ≤ 480) : channelInOrder text (releasedNow text c) := by
  unfold releasedNow
  split
  · exact h
  · next hstopped =>
    have hset : c.stopped = true := Bool.eq_true_of_not_eq_false hstopped
    split
    · next hheld =>
      exact { h with
        down := nofun
        held := fun _ => ⟨nofun, nofun⟩
        stall := nofun
        shown := fun _ => h.shown (.inr hheld)
        hidden := fun hidden => h.hidden (hidden.imp_left fun hopen => absurd (.inl rfl) hopen) }
    · next hheld =>
      exact recoveryTested_inOrder htext { h with
        down := fun hdown => by
          obtain ⟨-, hclear, -⟩ := h.down hdown
          exact absurd hclear hstopped
        held := fun hopen => absurd ((h.held hopen).mpr hset) hheld }

end

/-! ### The line and the transmitter (R138, R140, R148 to R154) -/

section

variable {text : List Byte} {c : Channel} (h : channelInOrder text c)
include h

theorem clearLine_inOrder (htext : text.length ≤ 480) (high : Bool) : channelInOrder text (c.clearLine text high) := by
  have hline : channelInOrder text { c with fclrHigh := high } := { h with }
  rw [clearLine_eq]
  split
  · exact hline
  · next hfollows =>
    split
    · exact stoppedNow_inOrder hline (not_or.mp hfollows).1
    · exact releasedNow_inOrder hline htext

theorem refresh_inOrder (htext : text.length ≤ 480) : channelInOrder text (c.refresh text) := by
  by_cases hboth : opened c ∧ revises c
  · obtain ⟨hopen, hrevises⟩ := hboth
    rw [refresh_of_open_revising hopen hrevises]
    exact resynced_inOrder htext h.settings (Nat.zero_le _) hopen (h.held hopen) h.stall
  · rwa [refresh_of_other (not_and_or.mp hboth)]

theorem receive_inOrder (htext : text.length ≤ 480) (b : Byte) : channelInOrder text (c.receive text b) := by
  unfold Channel.receive
  split
  · exact h
  · next hup =>
    split
    · exact refresh_inOrder h htext
    · split
      · exact stoppedNow_inOrder h hup
      · split
        · rw [release_eq_releasedNow]
          exact releasedNow_inOrder h htext
        · exact h

theorem takeBreak_inOrder (htext : text.length ≤ 480) : channelInOrder text (c.takeBreak text) := by
  unfold Channel.takeBreak
  split
  · exact h
  · rw [testRecovery_eq_recoveryTested]
    exact recoveryTested_inOrder htext (lapsed_inOrder h.settings (Nat.zero_le _))

/-- The head byte leaves, and the trimmable bytes that are left are still the last. -/
theorem transmit_inOrder (htext : text.length ≤ 480) : channelInOrder text (c.transmit text) := by
  cases hfifo : c.fifo with
  | nil => rwa [transmit_of_quiet (.inl hfifo)]
  | cons b rest =>
    cases hcan : c.canTransmit with
    | false => rwa [transmit_of_quiet (.inr hcan)]
    | true =>
      have hup : c.state ≠ .down := by
        obtain ⟨hstate, -⟩ := c.canTransmit_iff.mp hcan
        rcases hstate with hstate | hstate <;> rw [hstate] <;> nofun
      have hleft : min c.trimmable (rest.filter (·.char)).length ≤ rest.length :=
        (min_le_right ..).trans (List.length_filter_le ..)
      obtain ⟨hshown, -⟩ := h.trimmable
      have hlevel := h.level
      have hchars := forall_mem_last_of_le (min_le_left c.trimmable (rest.filter (·.char)).length) h.characters
      rw [hfifo, List.length_cons] at hlevel hchars
      rw [Nat.succ_sub hleft, List.drop_succ_cons] at hchars
      rw [transmit_of_head hfifo hcan]
      refine recoveryTested_inOrder htext { h with
        level := (Nat.le_succ _).trans hlevel
        down := fun hdown => absurd hdown hup
        trimmable := ⟨(min_le_left ..).trans hshown, hleft⟩
        characters := hchars }

theorem keepaliveExpires_inOrder : channelInOrder text c.keepaliveExpires := by
  cases hkeep : c.keep with
  | none => rwa [keepaliveExpires_of_idle hkeep]
  | some k =>
    have hrunning : c.keep.isSome = true := by rw [hkeep]; rfl
    have hup : c.state ≠ .down := fun hdown => by
      obtain ⟨-, -, -, hnone, -⟩ := h.down hdown
      cases hkeep.symm.trans hnone
    rw [keepaliveExpires_of_running hrunning]
    split
    · next hempty =>
      obtain ⟨-, hfifo⟩ := hempty
      obtain ⟨hshown, hle⟩ := h.trimmable
      rw [hfifo, List.length_nil, Nat.le_zero] at hle
      exact { h with
        level := by simp [controls]
        down := fun hdown => absurd hdown hup
        trimmable := ⟨hshown, by rw [hle]; exact Nat.zero_le _⟩
        characters := by simp [hle] }
    · exact { h with down := fun hdown => absurd hdown hup }

/-- A RESTART, once the open text is empty. -/
theorem restarted_inOrder : channelInOrder [] c.restarted := by
  by_cases hdown : c.state = .down
  · rw [Channel.restarted, if_pos hdown]
    exact inOrder_of_hidden h (.inl (not_opened_of_down hdown))
  · rw [restarted_of_open hdown]
    exact started_inOrder (Nat.zero_le _) h.settings _

end

/-! ### An update (R142 to R146) -/

/-- What holds of the last `n` elements of a list holds, once the last `t` of them are gone, of the others. -/
theorem forall_mem_last_take {α : Type} {P : α → Prop} {l : List α} {n t : Nat} (ht : t ≤ n)
    (h : ∀ x ∈ l.drop (l.length - n), P x) :
    ∀ x ∈ (l.take (l.length - t)).drop ((l.take (l.length - t)).length - (n - t)), P x := by
  have hfrom : l.length - t - (n - t) = l.length - n := by omega
  rw [List.length_take_of_le (Nat.sub_le ..), hfrom, List.drop_take]
  exact fun x hx => h x (List.mem_of_mem_take hx)

/-- The new characters, with the trimmable ones that a trim has spared before them where nothing is erased, are the last
of the FIFO. -/
theorem correct_characters {c : Channel} (h : ∀ x ∈ c.fifo.drop (c.fifo.length - c.trimmable), x.char = true)
    (kept : Nat) (fresh : List Byte) : ∀ x ∈ (c.correct kept fresh).fifo.drop
      ((c.correct kept fresh).fifo.length - (c.correct kept fresh).trimmable), x.char = true := by
  have hlast := forall_mem_last_append (P := fun x : FifoByte => x.char = true) (b := fresh.map charByte)
    (a := c.fifo.take (c.fifo.length - c.trimCount kept) ++ c.correctionErase kept)
    (n := if c.eraseCount kept - c.trimCount kept = 0 then c.trimmable - c.trimCount kept else 0) ?_ (by simp [charByte])
  · rwa [List.length_map] at hlast
  · split
    · next hnone =>
      rw [Channel.correctionErase, hnone, eraseBytes_zero, List.append_nil]
      exact forall_mem_last_take (trimCount_le_trimmable c kept) h
    · rw [Nat.sub_zero, List.drop_length]
      exact List.forall_mem_nil _

section

variable {text : List Byte} {c : Channel} (h : channelInOrder text c)
include h

theorem chunksOff_trimmable_le_shown (chunks : List (List Byte)) :
    (chunksOff chunks c).trimmable ≤ (chunksOff chunks c).shown := by
  obtain ⟨hshown, -⟩ := h.trimmable
  dsimp only [chunksOff]
  split
  · next hnil => rw [hnil]; exact hshown
  · exact min_le_right ..

/-- An update that fits leaves D the length of what the display shows after it. -/
theorem correct_inOrder {u : Update} (hopen : opened c) (hrevises : revises c)
    (hkept : u.chunks.flatten.length + u.kept ≤ text.length)
    (hfits : (chunksOff u.chunks c).correctionFits u.kept u.fresh = true) :
    channelInOrder (shownBy text u) ((chunksOff u.chunks c).correct u.kept u.fresh) := by
  obtain ⟨-, hleFifo⟩ := h.trimmable
  have hoff := chunksOff_trimmable_le u.chunks c
  have hle := chunksOff_trimmable_le_shown h u.chunks
  have htrim := trimCount_le_trimmable (chunksOff u.chunks c) u.kept
  have hcount : (chunksOff u.chunks c).eraseCount u.kept = c.shown - u.chunks.flatten.length - u.kept := rfl
  have hfifo : (chunksOff u.chunks c).fifo = c.fifo := rfl
  rw [Channel.correctionFits_iff, hfifo] at hfits
  refine ⟨h.settings, ?_, fun hdown => absurd hdown (not_down_of_opened hopen), fun _ => h.held hopen, h.stall,
    fun _ _ => ?_, fun hidden => absurd hidden (not_or.mpr ⟨not_not.mpr hopen, not_not.mpr hrevises⟩), ⟨?_, ?_⟩, ?_⟩
  · have hlevel := h.level
    simp only [Channel.correct, List.length_append, List.length_take, List.length_map, hfifo]
    omega
  · simp only [Channel.correct, shownBy, List.length_append, List.length_take, List.length_drop]
    omega
  · have hshown : (chunksOff u.chunks c).shown = c.shown - u.chunks.flatten.length := rfl
    simp only [Channel.correct]
    split <;> omega
  · simp only [Channel.correct, List.length_append, List.length_take, List.length_map, hfifo]
    split <;> omega
  · exact correct_characters (forall_mem_last_of_le hoff h.characters) u.kept u.fresh

/-- An update that the channel's display can follow keeps the channel in order, whether it is taken or not. -/
theorem applyUpdate_inOrder {u : Update} (hkept : u.chunks.flatten.length + u.kept ≤ text.length) :
    channelInOrder (shownBy text u) (c.applyUpdate u) := by
  have hlapsed (text' : List Byte) : channelInOrder text' (lapsed c) := lapsed_inOrder h.settings h.level
  by_cases hopen : opened c
  · by_cases hrevises : revises c
    · rw [applyUpdate_of_revising hopen hrevises]
      split
      · next hfits => exact correct_inOrder h hopen hrevises hkept hfits
      · exact hlapsed _
    · rw [applyUpdate_of_final hopen ((not_revises_iff c).mp hrevises)]
      split
      · next hfits =>
        have hshown := h.hidden (.inr hrevises)
        obtain ⟨hle, -⟩ := h.trimmable
        rw [hshown, Nat.le_zero] at hle
        have hlevel := h.level
        exact inOrder_of_hidden (text := text) { h with
          level := by rw [List.length_append]; omega
          down := fun hdown => absurd hdown (not_down_of_opened hopen)
          trimmable := by rw [hshown, hle]; exact ⟨le_rfl, Nat.zero_le _⟩
          characters := by
            rw [hle, Nat.sub_zero, List.drop_length]
            exact List.forall_mem_nil _ } (.inr hrevises)
      · exact hlapsed _
  · rw [applyUpdate_of_closed hopen]
    exact inOrder_of_hidden h (.inl hopen)

/-- The updates of a change carry a channel from the old open text to the new one. -/
theorem updatesOf_inOrder (chunks : List (List Byte)) (new : List Byte) :
    channelInOrder new ((updatesOf text chunks new).foldl Channel.applyUpdate c) := by
  have hnew := foldl_shownBy_updatesOf chunks new text
  by_cases hprefix : chunks.flatten <+: text
  · obtain ⟨left, rfl⟩ := hprefix
    obtain ⟨hkept, -⟩ := commonPrefix_longest left new
    rw [updatesOf_settled_append, List.foldl_cons, List.foldl_nil] at hnew ⊢
    have hone := applyUpdate_inOrder h (u := ⟨chunks, commonPrefix left new, new.drop (commonPrefix left new)⟩)
      (by rw [List.length_append]; exact Nat.add_le_add_left hkept _)
    rwa [hnew] at hone
  · obtain ⟨hkept, -⟩ := commonPrefix_longest text (chunks.flatten ++ new)
    have hwhole : shownBy text ⟨[], commonPrefix text (chunks.flatten ++ new),
        (chunks.flatten ++ new).drop (commonPrefix text (chunks.flatten ++ new))⟩ = chunks.flatten ++ new :=
      take_commonPrefix_append_drop text _
    rw [updatesOf_of_not_prefix chunks new hprefix, List.foldl_cons, List.foldl_cons, List.foldl_nil] at hnew ⊢
    have hone := applyUpdate_inOrder h (u := ⟨[], commonPrefix text (chunks.flatten ++ new),
      (chunks.flatten ++ new).drop (commonPrefix text (chunks.flatten ++ new))⟩)
      (by rw [List.flatten_nil, List.length_nil, Nat.zero_add]; exact hkept)
    have htwo := applyUpdate_inOrder hone (u := ⟨chunks, new.length, []⟩) (by rw [hwhole, List.length_append])
    rwa [hnew] at htwo

end

end Sys2Proof.Machine
end

section
/-!
SUPPORT. The channels stay in order by the work of the TE: each change of the window carries them from the old open text
to the new one, and nothing else that the TE does touches the window or a channel (R90, R91, R115, R121, R127, R129).
-/

namespace Sys2Proof.Machine

open Sys2Proof Sys2Proof.Rules

/-- The open text is within its limit, and every channel is in order with it. -/
structure channelsInOrder (s : State) : Prop where
  text : (openTextOf s.te.window).length ≤ 480
  channels : ∀ n, channelInOrder (openTextOf s.te.window) (s.chan n)

/-- From `s` to `t` the window and the channels stay. -/
structure FeedsKept (s t : State) : Prop where
  window : t.te.window = s.te.window
  chans : t.chans = s.chans

namespace FeedsKept

variable {s t u : State}

theorem refl (s : State) : FeedsKept s s := ⟨rfl, rfl⟩

theorem of_te (hte : t.te = s.te) (hchans : t.chans = s.chans) : FeedsKept s t := ⟨by rw [hte], hchans⟩

theorem trans (h : FeedsKept s t) (k : FeedsKept t u) : FeedsKept s u :=
  ⟨k.window.trans h.window, k.chans.trans h.chans⟩

theorem respond (h : FeedsKept s t) (st : Status) (d : List Byte) : FeedsKept s (t.respond st d) :=
  h.trans (of_te (by simp) (by simp))

theorem done (h : FeedsKept s t) : FeedsKept s t.done := h.respond _ _

theorem refuse (s : State) (st : Status) : FeedsKept s (s.refuse st) := (refl s).respond _ _

theorem inOrder (h : FeedsKept s t) (hs : channelsInOrder s) : channelsInOrder t where
  text := by rw [h.window]; exact hs.text
  channels := fun n => by
    rw [h.window, State.chan, h.chans]
    exact hs.channels n

end FeedsKept

/-- The channels stay in order where the window and the channels stay. -/
theorem channelsInOrder.same {s t : State} (h : channelsInOrder s) (hwindow : t.te.window = s.te.window)
    (hchans : t.chans = s.chans) : channelsInOrder t := (FeedsKept.mk hwindow hchans).inOrder h

/-- A change of one channel by a move that keeps it in order. -/
theorem withChan_channelsInOrder {s : State} (h : channelsInOrder s) {n : ChanNo} {c : Channel}
    (hc : channelInOrder (openTextOf s.te.window) c) : channelsInOrder (s.withChan n c) where
  text := h.text
  channels := fun m => by
    rw [State.chan_withChan]
    split
    · exact hc
    · exact h.channels m

/-! ### A change of the window (R115, R129, R151) -/

/-- The updates of a change carry the channels to the open text as the change has left it. -/
theorem sendUpdates_channelsInOrder {s : State} {old : List Byte} (h : ∀ n, channelInOrder old (s.chan n))
    (htext : (openTextOf s.te.window).length ≤ 480) (chunks : List (List Byte)) :
    channelsInOrder (s.sendUpdates (updatesOf old chunks (openTextOf s.te.window))) where
  text := by rw [sendUpdates_te]; exact htext
  channels := fun n => by
    rw [sendUpdates_te, sendUpdates_chan]
    exact recoveryTested_inOrder htext (updatesOf_inOrder (h n) chunks _)

theorem settleRecords_window (s : State) (gone : List Record) : (s.settleRecords gone).te.window = s.te.window := by
  rw [settleRecords_te]

/-- The records of a change settle, and its updates go to the channels. -/
theorem settled_channelsInOrder {s : State} (h : channelsInOrder s) (gone left : List Record)
    (htext : (openTextOf left).length ≤ 480) (chunks : List (List Byte)) :
    channelsInOrder (((s.withTe { s.te with window := left }).settleRecords gone).sendUpdates
      (updatesOf s.openText chunks (openTextOf left))) := by
  have hwindow := settleRecords_window (s.withTe { s.te with window := left }) gone
  have hchan (n : ChanNo) : ((s.withTe { s.te with window := left }).settleRecords gone).chan n = s.chan n := by
    simp [State.chan]
  have hsent := sendUpdates_channelsInOrder (fun n => (hchan n).symm ▸ h.channels n) (hwindow.symm ▸ htext) chunks
  rwa [hwindow] at hsent

theorem changeWindow_channelsInOrder {s : State} (h : channelsInOrder s) (w : List Record) :
    channelsInOrder (s.changeWindow w) :=
  settled_channelsInOrder h _ _ (length_openTextOf_immediateSettle_le w) _

theorem serveSettleDue_channelsInOrder : ∀ {w : List Record} {s : State}, channelsInOrder s → s.te.window = w →
    channelsInOrder (serveSettleDue w s)
  | [], s, h, _ => h.same rfl rfl
  | r :: rest, s, h, hwindow => by
      rw [serveSettleDue]
      split
      · have htext := h.text
        rw [hwindow, openTextOf_cons, List.length_append] at htext
        refine serveSettleDue_channelsInOrder (settled_channelsInOrder h [r] rest (by omega) [r.data.text]) ?_
        rw [settleOldest_te]
      · exact h

/-! ### The replay of a rescan (R125 to R127) -/

theorem replayFrom_channelsInOrder : ∀ {strokes : List Stroke} {window : List Record} {s : State}, channelsInOrder s →
    channelsInOrder (replayFrom strokes window s)
  | [], window, s, h => channelsInOrder.same (changeWindow_channelsInOrder h window) rfl rfl
  | v :: rest, window, s, h => by
      rw [replayFrom]
      split
      · exact h.same rfl rfl
      · exact replayFrom_channelsInOrder h

theorem beginRescan_channelsInOrder {s : State} (h : channelsInOrder s) : channelsInOrder s.beginRescan := by
  unfold State.beginRescan
  dsimp only
  split
  · exact h.same rfl rfl
  · exact replayFrom_channelsInOrder (h.same rfl rfl)

/-! ### The decision (R84, R85, R90, R126) -/

theorem testView_feeds (s : State) (t : ProbeTable) : FeedsKept s (s.testView t) := by
  unfold State.testView
  split
  · exact ⟨rfl, rfl⟩
  · exact .refl s

theorem tryDecide_channelsInOrder {s : State} (h : channelsInOrder s) : channelsInOrder s.tryDecide := by
  have hcleared (t : ProbeTable) : channelsInOrder (s.clearTable t) := h.same rfl rfl
  unfold State.tryDecide
  split
  · exact h
  · next t _ =>
    split
    · exact h
    · split
      · exact channelsInOrder.same ((testView_feeds _ t).inOrder (changeWindow_channelsInOrder (hcleared t) _)) rfl rfl
      · exact replayFrom_channelsInOrder ((testView_feeds _ t).inOrder (hcleared t))

theorem deliver_channelsInOrder {s : State} (h : channelsInOrder s) (tags : List (Fin 32)) (r : PairResult) :
    channelsInOrder (s.deliver tags r) := tryDecide_channelsInOrder (h.same rfl rfl)

/-! ### The stroke taken, and the service order (R77, R79, R91, R92) -/

theorem takeStroke_channelsInOrder {s : State} (h : channelsInOrder s) (r : StrokeRecord) (rest : List StrokeRecord) :
    channelsInOrder (s.takeStroke r rest) := by
  have htaken : channelsInOrder
      (((s.withStrokeQueue rest).pushReport (s.strokeReport r)).withTe s.te.restartTimer) :=
    h.same rfl rfl
  unfold State.takeStroke
  dsimp only
  split
  · split
    · exact htaken
    · exact channelsInOrder.same (changeWindow_channelsInOrder htaken _) rfl rfl
  · exact tryDecide_channelsInOrder (htaken.same rfl rfl)

theorem serviceStroke_channelsInOrder {s : State} (h : channelsInOrder s) : channelsInOrder s.serviceStroke := by
  unfold State.serviceStroke
  split
  · exact h
  · split
    · exact takeStroke_channelsInOrder h _ _
    · exact h

theorem serviceOrder_channelsInOrder {s : State} (h : channelsInOrder s) : channelsInOrder s.serviceOrder := by
  unfold State.serviceOrder
  repeat' split
  · exact beginRescan_channelsInOrder h
  · exact serveSettleDue_channelsInOrder h rfl
  · exact serviceStroke_channelsInOrder h

end Sys2Proof.Machine
end

section
/-!
PROOF. Every step keeps the channels in order (R137, R139 to R141, R151): the work of the TE, the commands on channels,
a RESTART, and what the lines and timers of the channels do; no other step touches the window or a channel.
-/

namespace Sys2Proof.Machine

open Sys2Proof Sys2Proof.Rules

/-! ### Commands on channels (R134, R155, R156) -/

section

variable {s : State} (h : channelsInOrder s)
include h

theorem cmdSetChannel_channelsInOrder (v m f : Byte) (d r : BitVec 16) (st ka : Byte) :
    channelsInOrder (cmdSetChannel v m f d r st ka s) := by
  unfold cmdSetChannel
  split
  · next n mode flow _ _ _ =>
    split
    · next hdown =>
      have hn := h.channels n
      have hclosed := not_opened_of_down hdown
      obtain ⟨hfifo, hrest⟩ := hn.down hdown
      have hhidden := hn.hidden (.inl hclosed)
      obtain ⟨htrimmable, -⟩ := hn.trimmable
      rw [hhidden, Nat.le_zero] at htrimmable
      have hd := d.isLt
      refine (FeedsKept.refl _).done.inOrder (withChan_channelsInOrder h
        (down_inOrder ?_ hdown hfifo hhidden htrimmable hrest))
      dsimp only [settingsInRange]
      omega
    · exact (FeedsKept.refuse s _).inOrder h
  · exact (FeedsKept.refuse s _).inOrder h

theorem cmdChannelOn_channelsInOrder (v : Byte) : channelsInOrder (cmdChannelOn v s) := by
  unfold cmdChannelOn
  split
  · exact (FeedsKept.refuse s _).inOrder h
  · next n _ =>
    split
    · refine (FeedsKept.refl _).done.inOrder (withChan_channelsInOrder h ?_)
      rw [startWith_eq_started]
      exact started_inOrder (c := { s.chan n with breakSeen := false }) h.text (h.channels n).settings _
    · exact (FeedsKept.refuse s _).inOrder h

theorem cmdChannelOff_channelsInOrder (v : Byte) : channelsInOrder (cmdChannelOff v s) := by
  unfold cmdChannelOff
  split
  · exact (FeedsKept.refuse s _).inOrder h
  · next n _ =>
    split
    · exact (FeedsKept.refl _).done.inOrder h
    · exact (FeedsKept.refl _).done.inOrder (withChan_channelsInOrder h
        (down_inOrder (h.channels n).settings rfl rfl rfl rfl ⟨rfl, rfl, rfl, rfl⟩))

/-! ### Commands on the lookup view and the TE (R28, R31, R75, R109) -/

theorem answerMiss_channelsInOrder (n : SlotNo) : channelsInOrder (s.answerMiss n) :=
  deliver_channelsInOrder (s := s.withMp (s.mp.withdraw (s.mp.waitingInto n))) (h.same rfl rfl) _ _

end

@[simp] theorem signalRescan_te_window (s : State) : s.signalRescan.te.window = s.te.window :=
  (signalRescan_window s).window

@[simp] theorem noteViewChange_te_window (s : State) : s.noteViewChange.te.window = s.te.window := rfl

@[simp] theorem setSettleDue_te_window (s : State) : s.setSettleDue.te.window = s.te.window := rfl

theorem giveAccess_channelsInOrder {s : State} (h : channelsInOrder s) (n : SlotNo) (a : Access) :
    channelsInOrder (s.giveAccess n a) := by
  have hslot : FeedsKept s (s.withSlot n { s.slot n with access := a }) := ⟨rfl, rfl⟩
  have hview (u : State) : FeedsKept u u.signalRescan.noteViewChange := ⟨by simp, by simp⟩
  unfold State.giveAccess
  dsimp only
  repeat' split
  · exact hslot.inOrder h
  · exact (hslot.trans (hview _)).inOrder h
  · exact answerMiss_channelsInOrder ((hslot.trans (hview _)).inOrder h) n

theorem cmdSetAccess_channelsInOrder {s : State} (h : channelsInOrder s) (v code : Byte) :
    channelsInOrder (cmdSetAccess v code s) := by
  unfold cmdSetAccess
  repeat' split
  any_goals exact (FeedsKept.refuse s _).inOrder h
  exact (FeedsKept.refl _).done.inOrder (giveAccess_channelsInOrder h _ _)

theorem cmdStart_channelsInOrder {s : State} (h : channelsInOrder s) : channelsInOrder (cmdStart s) := by
  unfold cmdStart
  dsimp only
  split
  · exact (FeedsKept.refl _).done.inOrder (serviceOrder_channelsInOrder (h.same rfl rfl))
  · exact (FeedsKept.refl _).done.inOrder (h.same rfl rfl)

theorem foldl_chans {f : State → Key → State} (h : ∀ s k, (f s k).chans = s.chans) (l : List Key) (s : State) :
    (l.foldl f s).chans = s.chans := by
  induction l generalizing s with
  | nil => rfl
  | cons k l ih => exact (ih _).trans (h s k)

/-- The key commands that handle the keys one after another. -/
theorem cmdKeys_feeds (s : State) : (∀ d g st, FeedsKept s (cmdSetKeyTiming d g st s)) ∧
    (∀ v, FeedsKept s (cmdSetKeyPolarity v s)) ∧ ∀ v, FeedsKept s (cmdSetKeyMask v s) := by
  obtain ⟨htiming, hpolarity, hmask⟩ := cmdKeys_window s
  refine ⟨fun d g st => ⟨(htiming d g st).window, ?_⟩, fun v => ⟨(hpolarity v).window, ?_⟩,
    fun v => ⟨(hmask v).window, ?_⟩⟩
  · simp [cmdSetKeyTiming, foldl_chans]
  · unfold cmdSetKeyPolarity
    split <;> simp [foldl_chans]
  · unfold cmdSetKeyMask
    split <;> simp [foldl_chans]

theorem runCommand_channelsInOrder {s : State} (h : channelsInOrder s) (c : Command) :
    channelsInOrder (runCommand c s) := by
  obtain ⟨htiming, hpolarity, hmask⟩ := cmdKeys_feeds s
  cases c with
  | setChannel v m f d r st ka => exact cmdSetChannel_channelsInOrder h v m f d r st ka
  | channelOn v => exact cmdChannelOn_channelsInOrder h v
  | channelOff v => exact cmdChannelOff_channelsInOrder h v
  | setAccess n a => exact cmdSetAccess_channelsInOrder h n a
  | start => exact cmdStart_channelsInOrder h
  | setKeyTiming d g st => exact (htiming d g st).inOrder h
  | setKeyPolarity v => exact (hpolarity v).inOrder h
  | setKeyMask v => exact (hmask v).inOrder h
  | setRanks | setSpeaker | stop | setSettleTime | flush | setStacking | injectStroke | setClock | keyInfo | setMemory
  | setWindow | format | releaseSlot | lockSlot | slotInfo | addEntry | replaceEntry | retireEntry | fetchEntry
  | setMaintShare | windowInfo | channelInfo | clearNotices | setInterrupts =>
      refine FeedsKept.inOrder ?_ h
      simp only [runCommand, cmdSetRanks, cmdSetSpeaker, cmdStop, cmdSetSettleTime, cmdFlush, cmdSetStacking,
        cmdInjectStroke, cmdSetClock, cmdKeyInfo, cmdSetMemory, cmdSetWindow, cmdFormat, cmdReleaseSlot, cmdLockSlot,
        cmdSlotInfo, cmdEntryWrite, cmdFetchEntry, cmdFetchAny, cmdFetchNamed, cmdSetMaintShare, cmdWindowInfo,
        cmdChannelInfo]
      repeat' split
      all_goals exact ⟨by simp, by simp⟩

theorem beginFrame_channelsInOrder {s : State} (h : channelsInOrder s) (f : Frame) (rest : List Frame) :
    channelsInOrder (s.beginFrame f rest) := by
  have hbegun : channelsInOrder ((s.withCp { s.cp with queue := rest }).beginExecution (echoOf f.bytes)) :=
    h.same rfl rfl
  unfold State.beginFrame
  dsimp only
  split
  · exact runCommand_channelsInOrder hbegun _
  · exact (FeedsKept.refuse _ _).inOrder hbegun

theorem hostCommand_channelsInOrder {s : State} (h : channelsInOrder s) (c : Command) :
    channelsInOrder (hostCommand c (runCommand c) s) := by
  unfold hostCommand
  split
  · exact runCommand_channelsInOrder (s := s.beginExecution c.code) (h.same rfl rfl) c
  · exact h.same (by simp) (by simp)

/-! ### RESTART and the hard reset (R158, R159, R178, R180) -/

theorem restartEffect_channelsInOrder {s : State} (h : channelsInOrder s) : channelsInOrder s.restartEffect where
  text := Nat.zero_le _
  channels := fun n => by
    rw [restartEffect_chan]
    exact restarted_inOrder (h.channels n)

theorem reset_inOrder (high : Bool) : channelInOrder [] (Channel.reset high) :=
  down_inOrder (by unfold settingsInRange; decide +revert) rfl rfl rfl rfl ⟨rfl, rfl, rfl, rfl⟩

theorem restartIfFree_channelsInOrder {s : State} (h : channelsInOrder s) : channelsInOrder s.restartIfFree := by
  unfold State.restartIfFree
  split
  · exact restartEffect_channelsInOrder h
  · exact h

theorem takeRestart_channelsInOrder {s : State} (h : channelsInOrder s) : channelsInOrder s.takeRestart := by
  unfold State.takeRestart
  dsimp only
  repeat' split
  · exact restartIfFree_channelsInOrder (h.same (by simp) (by simp))
  · exact restartIfFree_channelsInOrder (h.same (by simp) (by simp))
  · exact h.same (by simp) (by simp)

theorem takeFrame_channelsInOrder {s : State} (h : channelsInOrder s) (f : Frame) :
    channelsInOrder (s.takeFrame f) := by
  unfold State.takeFrame
  split
  · exact takeRestart_channelsInOrder h
  · exact h.same (by simp) (by simp)

/-! ### Transactions, entry operations and probes -/

theorem leadByte_feeds (s : State) (b : Byte) : FeedsKept s (s.leadByte b) := by
  refine ⟨(leadByte_window s b).window, ?_⟩
  unfold State.leadByte
  repeat' split
  all_goals rfl

theorem selectFall_feeds (s : State) : FeedsKept s s.selectFall := by
  refine ⟨(selectFall_window s).window, ?_⟩
  unfold State.selectFall
  split <;> rfl

/-- A transaction keeps the channels in order where the effect at its end does. -/
theorem transaction_channelsInOrder {shifted : Type} {s : State} (h : channelsInOrder s) (part : SpiPart shifted)
    {lead : State → State} (hlead : ∀ u, FeedsKept u (lead u)) (kind : Option Transfer) (n : shifted → Nat)
    {effect : shifted → Transaction → State → State}
    (heffect : ∀ x t u, channelsInOrder u → channelsInOrder (effect x t u)) :
    channelsInOrder (s.transact part lead fun x u => u.selectRise kind (n x) (effect x)) :=
  transact_keeps part h (fun u hu => (selectFall_feeds u).inOrder hu) (fun u hu => (hlead u).inOrder hu)
    fun x _ hu => selectRise_keeps kind (n x) hu (fun _ _ hv => hv.same rfl rfl)
      fun t v _ _ _ hv => heffect x t v hv

theorem issue_channelsInOrder {s : State} (h : channelsInOrder s) (p : Pair) (tag : Fin 32) :
    channelsInOrder (s.issue p tag) := by
  have hentered (r : PairResult) : channelsInOrder (s.enterNextResult r) := h.same rfl rfl
  unfold State.issue
  dsimp only
  split
  · exact (hentered (.pending tag)).same (by simp) (by simp)
  · exact tryDecide_channelsInOrder (hentered _)

theorem endProbe_channelsInOrder {s : State} (h : channelsInOrder s) (n : SlotNo) (p : Probe) (r : PairResult) :
    channelsInOrder (s.endProbe n p r) := by
  have hreleased : channelsInOrder ((s.freeTagOf p.tag).releaseGate n) :=
    h.same (by simp [State.freeTagOf]) (by simp [State.freeTagOf])
  unfold State.endProbe
  dsimp only
  split
  · exact hreleased
  · exact deliver_channelsInOrder hreleased _ _

theorem withKsu_feeds (s : State) (u : Ksu) : FeedsKept s (s.withKsu u) := ⟨rfl, rfl⟩

/-! ### The lines and timers of the channels (R147 to R150) -/

theorem noteLapse_channelsInOrder {s : State} (h : channelsInOrder s) (n : ChanNo) (entered : Bool) :
    channelsInOrder (s.noteLapse n entered) := by
  cases entered <;> exact h.same rfl rfl

theorem stalled_inOrder {text : List Byte} {c : Channel} (h : channelInOrder text c) (htext : text.length ≤ 480) :
    channelInOrder text (Channel.testRecovery text (Channel.lapse { c with fifo := [] })) := by
  rw [testRecovery_eq_recoveryTested]
  exact recoveryTested_inOrder htext (lapsed_inOrder h.settings (Nat.zero_le _))

theorem returnToMark_inOrder {text : List Byte} {c : Channel} (h : channelInOrder text c) :
    channelInOrder text { c with breakSeen := false } :=
  { h with
    down := fun hdown => by
      obtain ⟨hfifo, hstopped, hstall, hkeep, -⟩ := h.down hdown
      exact ⟨hfifo, hstopped, hstall, hkeep, rfl⟩ }

/-! ### Every step -/

theorem exec_channelsInOrder (i : Instr) {s t : State} (h : channelsInOrder s) (hexec : exec i s = .next t) :
    channelsInOrder t := by
  cases hc : commandOf i with
  | some c =>
      cases (exec_of_command hc s).symm.trans hexec
      exact hostCommand_channelsInOrder h c
  | none =>
      cases i with
      | hardReset =>
          cases hexec
          refine ⟨Nat.zero_le _, fun n => ?_⟩
          rw [State.chan, Fin.getElem_fin, Vector.getElem_ofFn]
          exact reset_inOrder _
      | commandBegin =>
          cases hexec
          repeat' split
          · exact h
          · exact beginFrame_channelsInOrder h _ _
          · exact h
      | commandWrite part =>
          cases hexec
          refine transaction_channelsInOrder h part (leadByte_feeds · _) _ _ fun x t u hu => ?_
          split
          · exact hu
          · exact takeFrame_channelsInOrder hu _
      | responseRead part | reportRead part =>
          cases hexec
          refine transaction_channelsInOrder h part (leadByte_feeds · _) _ _ fun x t u hu => ?_
          split
          · exact hu.same rfl rfl
          · exact hu
      | statusRead part =>
          cases hexec
          exact transaction_channelsInOrder h part (leadByte_feeds · _) _ _ fun x t u hu => hu
      | voidTransaction lead part =>
          cases hexec
          repeat' split
          · exact transaction_channelsInOrder h part (leadByte_feeds · _) _ _ fun x t u hu => hu
          · exact h
          · exact transaction_channelsInOrder h part FeedsKept.refl _ _ fun x t u hu => hu
      | restart => cases hexec; exact takeRestart_channelsInOrder h
      | restartTakesEffect =>
          cases hexec
          split
          · exact restartEffect_channelsInOrder h
          · exact h
      | upkeepOperationEnd =>
          cases hexec
          repeat' split
          · next op _ _ => exact h.same (endEntryOp_window s op).window (by simp)
          · exact h
          · exact h
      | probeIssue =>
          cases hexec
          repeat' split
          · exact h
          · exact issue_channelsInOrder h _ _
          · exact h
      | probeEnd n =>
          cases hexec
          repeat' split
          · exact h
          · exact h
          · exact endProbe_channelsInOrder h n _ _
      | takeStroke => cases hexec; exact serviceStroke_channelsInOrder h
      | settleDueService =>
          cases hexec
          split
          · exact serveSettleDue_channelsInOrder h rfl
          · exact h
      | rescan =>
          cases hexec
          split
          · exact beginRescan_channelsInOrder h
          · exact h
      | transmitByte n =>
          cases hexec
          exact withChan_channelsInOrder h (transmit_inOrder (h.channels n) h.text)
      | byteComplete n => cases hexec; exact withChan_channelsInOrder h { h.channels n with }
      | inboundByte n sampled stopBit =>
          cases hexec
          split
          · exact withChan_channelsInOrder h (receive_inOrder (h.channels n) h.text _)
          · exact h
      | fclrChange n high =>
          cases hexec
          exact withChan_channelsInOrder h (clearLine_inOrder (h.channels n) h.text high)
      | breakReceived n =>
          cases hexec
          exact noteLapse_channelsInOrder (withChan_channelsInOrder h (takeBreak_inOrder (h.channels n) h.text)) n _
      | returnToMark n => cases hexec; exact withChan_channelsInOrder h (returnToMark_inOrder (h.channels n))
      | keepaliveTimerExpiry n =>
          cases hexec
          exact withChan_channelsInOrder h (keepaliveExpires_inOrder (h.channels n))
      | stallTimerExpiry n =>
          cases hexec
          split
          · exact noteLapse_channelsInOrder (withChan_channelsInOrder h (stalled_inOrder (h.channels n) h.text)) n true
          · exact h
      | lineLevelChange | strokeClockTick => cases hexec; exact (withKsu_feeds s _).inOrder h
      | settleTimerExpiry | arbiterGrant =>
          cases hexec
          repeat' split
          all_goals exact h.same rfl rfl
      | debounceExpiry | holdTimerExpiry =>
          cases hexec
          split
          · exact h.same (by simp) (by simp)
          · exact h
      | formatComplete =>
          cases hexec
          repeat' split
          · exact h.same (by simp) (by simp)
          · exact h
          · exact h
      | _ => cases hc

end Sys2Proof.Machine

section

open Sys2Proof Sys2Proof.Machine Sys2Proof.Rules

/-- Settles O59: every step, by what it does to the window and to the channels. -/
theorem channelsKeepCountOfTheOpenText : Obligations.ChannelsKeepCountOfTheOpenText := by
  unfold Obligations.ChannelsKeepCountOfTheOpenText
  intro s t hwindow hchannels hstep
  have h : channelsInOrder s := ⟨hwindow.text, hchannels⟩
  unfold step at hstep
  split at hstep
  · cases hstep; exact hchannels
  · next i rest _ =>
    have hwaiting : channelsInOrder (s.withPending rest) := h.same rfl rfl
    exact (exec_channelsInOrder i hwaiting hstep).channels

end
end

section
/-!
PROOF. Reset and hard reset meet every invariant (R180).
-/

namespace Sys2Proof.Machine

open Sys2Proof Sys2Proof.Rules

/-! ### Reset and hard reset (R180) -/

/-- A hard reset right after reset changes nothing: with every line high no debounce timer starts. -/
theorem hardReset_reset : exec .hardReset State.reset = .next State.reset := by
  have hksu : Ksu.reset.hardReset = Ksu.reset := by decide
  have hchans : (Vector.ofFn fun n : ChanNo => Channel.reset (State.reset.chan n).fclrHigh) =
      State.reset.chans := by decide
  calc exec .hardReset State.reset
      = .next { State.reset with
          ksu := Ksu.reset.hardReset
          chans := Vector.ofFn fun n : ChanNo => Channel.reset (State.reset.chan n).fclrHigh } := rfl
    _ = .next State.reset := by rw [hksu, hchans]; rfl

theorem hardReset_windowInOrder {s t : State} (h : execHardReset s = .next t) : windowInOrder t := by
  cases h
  exact inOrder_of_empty (not_busy_of_idle (.inr rfl)) rfl rfl rfl rfl

theorem hardReset_channelsInOrder {s t : State} (h : execHardReset s = .next t) (n : ChanNo) :
    channelInOrder (openTextOf t.te.window) (t.chan n) := by
  cases h
  have hchan : (Vector.ofFn fun n : ChanNo => Channel.reset (s.chan n).fclrHigh)[n] =
      Channel.reset (s.chan n).fclrHigh := by simp
  change channelInOrder [] (Vector.ofFn fun n : ChanNo => Channel.reset (s.chan n).fclrHigh)[n]
  rw [hchan]
  exact reset_inOrder _

/-- A hard reset leaves every block in order; of the SDRAM it keeps the contents. -/
theorem hardReset_meets {s t : State} (hstore : Memory.wf s.sdram = true) (h : execHardReset s = .next t) :
    inOrder t where
  keys := by cases h; exact hardReset_inOrder s.ksu
  store := by cases h; exact ⟨hstore, List.mem_cons_of_mem _ List.mem_cons_self, Nat.zero_le _⟩
  queues := hardReset_inBounds h
  gates := by
    cases h
    exact gatesInOrder_of_idle rfl rfl fun n => by simp [State.gate, State.reset, Mp.reset]
  slots := hardReset_slots h
  window := hardReset_windowInOrder h
  channels := hardReset_channelsInOrder h

end Sys2Proof.Machine

section

open Sys2Proof Sys2Proof.Machine Sys2Proof.Rules

/-- Settles O60: each block's invariant holds after a hard reset, and reset is a hard reset of itself. -/
theorem resetMeetsEveryInvariant : Obligations.ResetMeetsEveryInvariant := by
  unfold Obligations.ResetMeetsEveryInvariant
  exact ⟨hardReset_meets rfl hardReset_reset, fun s hstore => ⟨_, rfl, hardReset_meets hstore rfl⟩⟩

end
end

section
/-!
SUPPORT. What each moment of each transaction does, in the words of the statements: the bits shifted out, the
frames fixed on and the frame taken (R160 to R163, R169, R171, R172).
-/

namespace Sys2Proof.Machine

open Sys2Proof Sys2Proof.Rules

/-! ### The bits on SPDO (R160, R161) -/

/-- A transaction with `n` whole bytes after its lead byte shifts out enough fill bytes. -/
theorem shiftedBits_bitsFor (status : Byte) (frame : List Byte) (n : Nat) (extra : Fin 8) :
    shiftedBits status frame (bitsFor n extra) = shifted status frame n extra := by
  have hfill : bitsFor n extra / 8 = n + 1 := by unfold bitsFor; omega
  rw [shiftedBits, hfill]
  rfl

/-- Of an incomplete lead byte only the port status byte's first bits are shifted out. -/
theorem shiftedBits_incomplete (status : Byte) (extra : Fin 8) :
    shiftedBits status [] extra.val = (wireBits [status]).take extra.val := by
  have hfill : extra.val / 8 = 0 := Nat.div_eq_of_lt extra.isLt
  rw [shiftedBits, hfill]
  rfl

/-! ### The moments of a transaction (R160, R161) -/

theorem selectFall_eq_selected {s : State} (h : s.spi = .idle) : s.selectFall = selected s s.portStatus :=
  State.selectFall_idle s h

theorem leadByte_eq_named {s : State} {status : Byte} (lead : Byte) (h : s.spi = .busy ⟨status, none, [], false⟩) :
    s.leadByte lead = named s status (transferOf lead) (s.fixes (transferOf lead)).1 (s.fixes (transferOf lead)).2 :=
  State.leadByte_busy s lead status [] false h

/-- The lead byte right after the fall of SPSEL: what it fixes on is what the state held before. -/
theorem leadByte_selected (s : State) (lead : Byte) : (selected s s.portStatus).leadByte lead =
    named s s.portStatus (transferOf lead) (s.fixes (transferOf lead)).1 (s.fixes (transferOf lead)).2 := by
  rw [leadByte_eq_named (s := selected s s.portStatus) lead rfl]
  cases transferOf lead <;> rfl

theorem leadByte_eq_filled {s : State} (lead : Byte) (h : s.spi = .ignored) :
    s.leadByte lead = s.withSpdo (wireBits [0xFF]) := State.leadByte_ignored s lead h

/-- SPSEL rises on a transaction of the kind the step is of. -/
theorem selectRise_eq_over {s : State} {status : Byte} {kind : Transfer} {frame : List Byte} {queued : Bool}
    (h : s.spi = .busy ⟨status, some kind, frame, queued⟩) (n : Nat) (extra : Fin 8)
    (effect : Transaction → State → State) :
    s.selectRise (some kind) (bitsFor n extra) effect =
      effect ⟨status, some kind, frame, queued⟩ (transferOver s status frame n extra) := by
  rw [transferOver, ← shiftedBits_bitsFor]
  exact State.selectRise_busy s ⟨status, some kind, frame, queued⟩ _ effect h

theorem selectRise_eq_filled {s : State} (h : s.spi = .ignored) (kind : Option Transfer) (n : Nat) (extra : Fin 8)
    (effect : Transaction → State → State) :
    s.selectRise kind (bitsFor n extra) effect = transferOver s 0xFF [] n extra := by
  rw [State.selectRise_ignored s kind _ effect h, transferOver, ← shiftedBits_bitsFor]
  rfl

/-! ### A row of transactions, moment by moment (R160) -/

/-- A row of transactions with the lead byte `lead`: `clocked` tells what has been shifted when SPSEL rises, and
`effect` is what the transaction does then. -/
def transacts {shifted : Type} (row : SpiPart shifted → Instr) (lead : Byte) (clocked : shifted → Clocked)
    (effect : shifted → Transaction → State → State) : Prop :=
  ∀ part s, exec (row part) s = .next (s.transact part (State.leadByte · lead) fun x t =>
    t.selectRise (some (transferOf lead)) (bitsFor (clocked x).count (clocked x).extra) (effect x))

namespace transacts

variable {shifted : Type} {row : SpiPart shifted → Instr} {lead : Byte} {clocked : shifted → Clocked}
  {effect : shifted → Transaction → State → State} (h : transacts row lead clocked effect) {s : State}
include h

theorem fall (hidle : s.spi = .idle) : exec (row .fall) s = .next (selected s s.portStatus) :=
  (h .fall s).trans (congrArg _ (selectFall_eq_selected hidle))

theorem leads (s : State) : exec (row .lead) s = .next (s.leadByte lead) := h .lead s

/-- A whole transaction is its three moments one after another. -/
theorem whole (hidle : s.spi = .idle) (x : shifted) : exec (row (.whole x)) s =
    exec (row (.rise x)) ((selected s s.portStatus).leadByte lead) := by
  rw [h, h, ← selectFall_eq_selected hidle]
  exact congrArg _ (if_pos hidle)

/-- SPSEL rises on the transaction that the lead byte has named. -/
theorem rise {status : Byte} {frame : List Byte} {queued : Bool}
    (hbusy : s.spi = .busy ⟨status, some (transferOf lead), frame, queued⟩) (x : shifted) : exec (row (.rise x)) s =
      .next (effect x ⟨status, some (transferOf lead), frame, queued⟩
        (transferOver s status frame (clocked x).count (clocked x).extra)) :=
  (h (.rise x) s).trans (congrArg _ (selectRise_eq_over hbusy _ _ _))

/-- A selection that is ignored shifts out fill bytes and ends without effect. -/
theorem ignored (hignored : s.spi = .ignored) (x : shifted) : exec (row .lead) s = .next (s.withSpdo (wireBits [0xFF])) ∧
    exec (row (.rise x)) s = .next (transferOver s 0xFF [] (clocked x).count (clocked x).extra) :=
  ⟨(h.leads s).trans (congrArg _ (leadByte_eq_filled lead hignored)),
    (h (.rise x) s).trans (congrArg _ (selectRise_eq_filled hignored _ _ _ _))⟩

end transacts

theorem commandWrite_transacts : transacts .commandWrite 0x5A (fun x => ⟨x.bytes.length, x.extra⟩) fun x _ u =>
    if x.bytes.isEmpty then u else u.takeFrame (keepFrame x.bytes) := fun _ _ => rfl

theorem responseRead_transacts : transacts .responseRead 0x5B id fun x r u =>
    if r.removes x.count then u.withCp { u.cp with responses := u.cp.responses.drop 1 } else u := fun _ _ => rfl

theorem reportRead_transacts : transacts .reportRead 0x5C id fun x r u =>
    if r.removes x.count then u.withCp { u.cp with reports := u.cp.reports.drop 1 } else u := fun _ _ => rfl

theorem statusRead_transacts : transacts .statusRead 0x5D id fun _ _ u => u := fun _ _ => rfl

/-! ### A void transaction (R160) -/

theorem transferOf_of_other {b : Byte} (h : b ∉ [0x5A, 0x5B, 0x5C, 0x5D]) : transferOf b = .void :=
  (transferOf_void b).mpr h

theorem voidTransaction_transacts {b : Byte} (h : b ∉ [0x5A, 0x5B, 0x5C, 0x5D]) :
    transacts (.voidTransaction (some b)) b id fun _ _ u => u := fun part s => by
  rw [transferOf_of_other h]
  exact congrArg _ (if_pos (transferOf_of_other h))

/-- With its lead byte incomplete a transaction ends after some of the bits of its first byte. -/
theorem exec_voidTransaction_rise {s : State} {status : Byte} (h : s.spi = .busy ⟨status, none, [], false⟩)
    (x : Clocked) : exec (.voidTransaction none (.rise x)) s =
      .next ((s.withSpi .idle).withSpdo ((wireBits [status]).take x.extra.val)) := by
  rw [← shiftedBits_incomplete]
  exact congrArg _ (State.selectRise_busy s ⟨status, none, [], false⟩ x.extra.val (fun _ u => u) h)

theorem exec_voidTransaction_rise_ignored {s : State} (h : s.spi = .ignored) (x : Clocked) :
    exec (.voidTransaction none (.rise x)) s =
      .next ((s.withSpi .idle).withSpdo ((wireBits [0xFF]).take x.extra.val)) := by
  rw [← shiftedBits_incomplete]
  exact congrArg _ (State.selectRise_ignored s none x.extra.val (fun _ u => u) h)

theorem exec_voidTransaction_whole {s : State} (h : s.spi = .idle) (x : Clocked) :
    exec (.voidTransaction none (.whole x)) s =
      exec (.voidTransaction none (.rise x)) (selected s s.portStatus) := by
  rw [← selectFall_eq_selected h]
  exact congrArg _ (if_pos h)

theorem exec_voidTransaction_of_named {b : Byte} (h : b ∈ [0x5A, 0x5B, 0x5C, 0x5D]) (part : SpiPart Clocked)
    (s : State) : exec (.voidTransaction (some b) part) s = .next s :=
  congrArg _ (if_neg fun hvoid => (transferOf_void b).mp hvoid h)

/-! ### The reads (R169, R171, R172) -/

/-- The oldest frame of a queue, or a length byte of 0. -/
theorem oldestFrame_eq (frames : List (List Byte)) : oldestFrame frames = frames.headD [0] := by
  cases frames <;> rfl

theorem fixes_responseRead (s : State) : s.fixes .responseRead =
    ((s.cp.responses.map responseBytes).headD [0], decide (s.cp.responses.map responseBytes ≠ [])) := by
  rw [← oldestFrame_eq]
  cases h : s.cp.responses <;> simp [State.fixes, h]; rfl

theorem fixes_reportRead (s : State) : s.fixes .reportRead =
    ((s.cp.reports.map reportBytes).headD [0], decide (s.cp.reports.map reportBytes ≠ [])) := by
  rw [← oldestFrame_eq, ← funext reportFrame_eq]
  cases h : s.cp.reports <;> simp [State.fixes, h]

/-- The status record captured is that of R172. -/
theorem statusRecord_eq (s : State) : s.statusRecord = statusBytes s := by
  have hrestart : byteOfBool (s.cp.restarts != 0) = if s.cp.restarts = 0 then 0 else 1 := by
    by_cases h : s.cp.restarts = 0 <;> simp [h, byteOfBool]
  rw [State.statusRecord, hrestart]
  rfl

/-! ### The command write (R162, R163) -/

/-- Only the two bytes of a RESTART frame are one. -/
theorem keepFrame_eq_restart (bytes : List Byte) :
    ((keepFrame bytes).bytes = restartFrame ∧ (keepFrame bytes).overLong = false) ↔ bytes = [0x01, 0x2E] := by
  refine ⟨fun ⟨hbytes, hshort⟩ => ?_, fun h => by subst h; exact ⟨rfl, rfl⟩⟩
  have hlength : bytes.length ≤ 256 := not_lt.mp (of_decide_eq_false hshort)
  rw [← List.take_of_length_le hlength]
  exact hbytes

theorem takeFrame_of_restart (s : State) : s.takeFrame (keepFrame [0x01, 0x2E]) = s.takeRestart :=
  if_pos ((keepFrame_eq_restart _).mpr rfl)

theorem takeFrame_of_other (s : State) {bytes : List Byte} (h : bytes ≠ [0x01, 0x2E]) :
    s.takeFrame (keepFrame bytes) = framed s ⟨bytes.take 256, decide (256 < bytes.length)⟩ :=
  if_neg fun hrestart => h ((keepFrame_eq_restart bytes).mp hrestart)

/-- What a whole command write leaves, before it takes its frame, is the state with SPDO shifted out. -/
theorem transferOver_named {s : State} (h : s.spi = .idle) (status : Byte) (kind : Transfer) (frame : List Byte)
    (queued : Bool) (n : Nat) (extra : Fin 8) :
    transferOver (named s status kind frame queued) status frame n extra = s.withSpdo (shifted status frame n extra) := by
  rw [transferOver, named, ← h]
  rfl

/-- A frame that is not RESTART's, taken by a whole command write, waits or is dropped. -/
theorem exec_commandWrite_framed {s : State} (h : s.spi = .idle) {bytes : List Byte} (hsome : bytes ≠ [])
    (hother : bytes ≠ [0x01, 0x2E]) (extra : Fin 8) : exec (.commandWrite (.whole ⟨bytes, extra⟩)) s =
      .next (framed (s.withSpdo (shifted s.portStatus [] bytes.length extra))
        ⟨bytes.take 256, decide (256 < bytes.length)⟩) := by
  rw [commandWrite_transacts.whole h, leadByte_selected, commandWrite_transacts.rise rfl, if_neg (by simpa using hsome)]
  exact congrArg _ ((congrArg (State.takeFrame · _) (transferOver_named h _ _ _ _ _ _)).trans
    (takeFrame_of_other _ hother))

end Sys2Proof.Machine
end

section
/-!
PROOF. Notices and CLEAR_NOTICES; the port status byte, HINT, SET_INTERRUPTS and the transactions; command writes
and the reads of the oldest record (R160 to R163, R169, R171 to R176, R180, R184).
-/

namespace Sys2Proof.Machine

open Sys2Proof Sys2Proof.Rules

/-! ### CLEAR_NOTICES (R174) -/

theorem exec_clearNotices {s : State} (h : Ready s) (mask : Byte) : exec (.clearNotices mask) s =
    .next (answered (s.withCp { s.cp with notices := s.cp.notices &&& ~~~mask }) .done 0x2F [s.cp.notices]) :=
  exec_answers rfl rfl h rfl rfl rfl

/-- A notice that is set does not keep the Command Port from beginning a command. -/
theorem ready_noticed {s : State} (h : Ready s) (event : Byte) : Ready (noticed s event) :=
  ⟨h.noCommand, h.noRestart, h.room, h.noFrame⟩

/-! ### SET_INTERRUPTS (R176) -/

theorem clamp_one_sixtyFour (n : Nat) : clamp 1 64 n = if n = 0 then 1 else if 64 < n then 64 else n := by
  unfold clamp
  split
  · omega
  · split <;> omega

theorem exec_setInterrupts {s : State} (h : Ready s) (r p m t : Byte) : exec (.setInterrupts r p m t) s =
    .next (answered (s.withCp { s.cp with
      respEnable := decide (r ≠ 0)
      reportEnable := decide (p ≠ 0)
      noticeEnable := m
      trigger := if t.toNat = 0 then 1 else if 64 < t.toNat then 64 else t.toNat }) .done 0x30 []) := by
  have hbool (b : Byte) : (b != 0) = decide (b ≠ 0) := by
    rw [Bool.eq_iff_iff, bne_iff_ne, decide_eq_true_eq]
  refine exec_answers rfl rfl h rfl rfl ?_
  rw [runCommand, clamp_one_sixtyFour, hbool, hbool]
  rfl

/-! ### The port status byte and HINT (R161, R175, R184) -/

/-- A count of at most 4 and three flags side by side in one byte. -/
theorem flagged_toNat : ∀ (n : Fin 5) (a b c : Bool), (byteOf n.val ||| (if a then 0 else 0x08) |||
    (if b then 0 else 0x10) ||| (if c then 0x20 else 0)).toNat =
      n.val + (if a then 0 else 8) + (if b then 0 else 16) + (if c then 32 else 0) := by decide

theorem portStatus_toNat (s : State) : s.portStatus.toNat =
    (4 - s.cp.queue.length) + (if s.cp.responses = [] then 0 else 8) + (if s.cp.reports = [] then 0 else 16) +
      (if s.hint then 32 else 0) := by
  simp only [← List.isEmpty_iff]
  exact flagged_toNat ⟨4 - s.cp.queue.length, by omega⟩ s.cp.responses.isEmpty s.cp.reports.isEmpty s.hint

/-- Two bytes have a bit in common. -/
theorem and_ne_zero_iff (a b : Byte) :
    a &&& b ≠ 0#8 ↔ ∃ i : Fin 8, a.getLsbD i.val = true ∧ b.getLsbD i.val = true := by
  constructor
  · contrapose!
    intro h
    refine BitVec.eq_of_getLsbD_eq fun i hi => ?_
    rw [BitVec.getLsbD_and, BitVec.getLsbD_zero, Bool.and_eq_false_iff]
    exact or_iff_not_imp_left.mpr fun ha => Bool.eq_false_iff.mpr (h ⟨i, hi⟩ (Bool.not_eq_false _ ▸ ha))
  · rintro ⟨i, ha, hb⟩ hzero
    have hbit : (a &&& b).getLsbD i.val = true := by rw [BitVec.getLsbD_and, ha, hb]; rfl
    rw [hzero, BitVec.getLsbD_zero] at hbit
    cases hbit

theorem hint_iff (s : State) : s.hint = true ↔
    (s.cp.respEnable = true ∧ s.cp.responses ≠ []) ∨
    (s.cp.reportEnable = true ∧ s.cp.trigger ≤ s.cp.reports.length) ∨
    ∃ i : Fin 8, s.cp.notices.getLsbD i.val = true ∧ s.cp.noticeEnable.getLsbD i.val = true := by
  rw [← and_ne_zero_iff]
  simp [State.hint, or_assoc]

theorem spdoDriven_iff (s : State) : s.spdoDriven = true ↔ s.spi ≠ .idle := by
  unfold State.spdoDriven
  split <;> simp_all

/-! ### The rows of transactions other than the command write (R160) -/

/-- A row of a transaction has a lead byte, but for a void transaction whose lead byte stays incomplete. -/
theorem transacts_of_row {row : SpiPart Clocked → Instr} {lead : Option Byte}
    (hrow : row ∈ [.responseRead, .reportRead, .statusRead, .voidTransaction lead])
    (hlead : ∀ b ∈ lead, b ∉ [0x5A, 0x5B, 0x5C, 0x5D]) :
    (∃ b effect, transacts row b id effect) ∨ (lead = none ∧ row = .voidTransaction none) := by
  simp only [List.mem_cons, List.not_mem_nil, or_false] at hrow
  rcases hrow with rfl | rfl | rfl | rfl
  · exact .inl ⟨_, _, responseRead_transacts⟩
  · exact .inl ⟨_, _, reportRead_transacts⟩
  · exact .inl ⟨_, _, statusRead_transacts⟩
  · cases lead with
    | none => exact .inr ⟨rfl, rfl⟩
    | some b => exact .inl ⟨_, _, voidTransaction_transacts (hlead b rfl)⟩

/-- Every transaction begins with the fall of SPSEL, and a whole one goes on from the end of its lead byte. -/
theorem transaction_begins {row : SpiPart Clocked → Instr} {lead : Option Byte}
    (hrow : row ∈ [.responseRead, .reportRead, .statusRead, .voidTransaction lead])
    (hlead : ∀ b ∈ lead, b ∉ [0x5A, 0x5B, 0x5C, 0x5D]) {s : State} (hidle : s.spi = .idle) (x : Clocked) :
    exec (row .fall) s = .next (selected s s.portStatus) ∧
      ∃ u, exec (row .lead) (selected s s.portStatus) = .next u ∧
        exec (row (.whole x)) s = exec (row (.rise x)) u := by
  rcases transacts_of_row hrow hlead with ⟨b, effect, h⟩ | ⟨-, rfl⟩
  · exact ⟨h.fall hidle, _, h.leads _, h.whole hidle x⟩
  · exact ⟨congrArg _ (selectFall_eq_selected hidle), _, rfl, exec_voidTransaction_whole hidle x⟩

/-- A selection that is ignored shifts out fill bytes, whatever its lead byte, or some bits of one. -/
theorem transaction_ignored {row : SpiPart Clocked → Instr} {lead : Option Byte}
    (hrow : row ∈ [.responseRead, .reportRead, .statusRead, .voidTransaction lead])
    (hlead : ∀ b ∈ lead, b ∉ [0x5A, 0x5B, 0x5C, 0x5D]) {s : State} (hignored : s.spi = .ignored) (x : Clocked) :
    (lead = none → exec (.voidTransaction lead .lead) s = .next s ∧
      exec (.voidTransaction lead (.rise ⟨0, x.extra⟩)) s =
        .next ((s.withSpi .idle).withSpdo ((wireBits [0xFF]).take x.extra.val))) ∧
    (lead.isSome = true → exec (row .lead) s = .next (s.withSpdo (wireBits [0xFF])) ∧
      exec (row (.rise x)) s = .next (transferOver s 0xFF [] x.count x.extra)) := by
  refine ⟨fun hnone => ?_, fun hsome => ?_⟩
  · subst hnone
    exact ⟨rfl, exec_voidTransaction_rise_ignored hignored _⟩
  · rcases transacts_of_row hrow hlead with ⟨b, effect, h⟩ | ⟨rfl, -⟩
    · exact h.ignored hignored x
    · cases hsome

/-- The lead byte of a row, and the transaction it names. -/
theorem transacts_of_lead {lead : Byte} {kind : Transfer} {row : SpiPart Clocked → Instr}
    (h : (lead, kind, row) ∈ [(0x5B, Transfer.responseRead, Instr.responseRead), (0x5C, .reportRead, .reportRead),
        (0x5D, .statusRead, .statusRead)] ∨
      (lead ∉ [0x5A, 0x5B, 0x5C, 0x5D] ∧ kind = .void ∧ row = .voidTransaction (some lead))) :
    transferOf lead = kind ∧ ∃ effect, transacts row lead id effect := by
  rcases h with h | ⟨hlead, rfl, rfl⟩
  · simp only [List.mem_cons, List.not_mem_nil, or_false, Prod.mk.injEq] at h
    rcases h with ⟨rfl, rfl, rfl⟩ | ⟨rfl, rfl, rfl⟩ | ⟨rfl, rfl, rfl⟩
    · exact ⟨rfl, _, responseRead_transacts⟩
    · exact ⟨rfl, _, reportRead_transacts⟩
    · exact ⟨rfl, _, statusRead_transacts⟩
  · exact ⟨transferOf_of_other hlead, _, voidTransaction_transacts hlead⟩

/-! ### The reads of the oldest record (R169, R171) -/

/-- A read of the oldest of `frames`: `less` takes it out of its queue. -/
theorem read_of_row {s : State} {row : SpiPart Clocked → Instr} {kind : Transfer} {frames : List (List Byte)}
    {less : State → State} (h : (row, kind, frames, less) ∈
      [(Instr.responseRead, Transfer.responseRead, s.cp.responses.map responseBytes,
        fun u => u.withCp { u.cp with responses := u.cp.responses.drop 1 }),
       (.reportRead, .reportRead, s.cp.reports.map reportBytes,
        fun u => u.withCp { u.cp with reports := u.cp.reports.drop 1 })]) :
    ∃ lead, transferOf lead = kind ∧ s.fixes kind = (frames.headD [0], decide (frames ≠ [])) ∧
      transacts row lead id fun x r u => if r.removes x.count then less u else u := by
  simp only [List.mem_cons, List.not_mem_nil, or_false, Prod.mk.injEq] at h
  rcases h with ⟨rfl, rfl, rfl, rfl⟩ | ⟨rfl, rfl, rfl, rfl⟩
  · exact ⟨0x5B, rfl, fixes_responseRead s, responseRead_transacts⟩
  · exact ⟨0x5C, rfl, fixes_reportRead s, reportRead_transacts⟩

theorem removes_iff (t : Transaction) (n : Nat) : t.removes n = true ↔ t.queued = true ∧ t.frame.length ≤ n := by
  simp [Transaction.removes]

end Sys2Proof.Machine

section

open Sys2Proof Sys2Proof.Machine Sys2Proof.Rules

/-- Settles O51: a mask clears the bits it names of whatever stands, and an event sets its own. -/
theorem noticesAreReadAndCleared : Obligations.NoticesAreReadAndCleared := by
  unfold Obligations.NoticesAreReadAndCleared
  refine ⟨fun s mask event h => ⟨exec_clearNotices h mask, fun i hmask hevent => ⟨?_, ?_⟩⟩, ?_⟩
  · refine ⟨_, exec_clearNotices (ready_noticed h event) mask, ?_, _, rfl, ?_⟩
    · simp [answered, hmask]
    · simp [noticed, hevent]
  · refine ⟨_, exec_clearNotices h mask, ?_, ?_⟩
    · simp [answered, hmask]
    · simp [noticed, hevent]
  · intro s bytes extra hidle hfull hsome hother
    refine ⟨_, exec_commandWrite_framed hidle hsome hother extra, ?_⟩
    rw [framed, if_neg (by exact not_lt.mpr hfull)]
    rfl

/-- Settles O6: the flags by their bits, and each row of transactions moment by moment. -/
theorem statusAndInterruptLine : Obligations.StatusAndInterruptLine := by
  unfold Obligations.StatusAndInterruptLine
  refine ⟨fun s r p m t h => exec_setInterrupts h r p m t, fun s _ => portStatus_toNat s, hint_iff,
    fun s row lead x hrow hlead => ⟨fun hidle => transaction_begins hrow hlead hidle x,
      fun hignored => transaction_ignored hrow hlead hignored x⟩, spdoDriven_iff,
    fun s status lead kind row hbusy hrow => ?_, fun s b part hb => exec_voidTransaction_of_named hb part s,
    fun s status => ⟨fun hbusy => ?_, fun frame n extra hbusy => statusRead_transacts.rise hbusy ⟨n, extra⟩⟩,
    fun s status b n extra hb => ⟨fun hbusy => ⟨?_, rfl, exec_voidTransaction_rise hbusy ⟨0, extra⟩⟩, fun hbusy => ?_⟩⟩
  · obtain ⟨hkind, effect, h⟩ := transacts_of_lead hrow
    exact ⟨commandWrite_transacts.leads s, leadByte_eq_named 0x5A hbusy, h.leads s, _, _,
      hkind ▸ leadByte_eq_named lead hbusy⟩
  · rw [statusRead_transacts.leads, leadByte_eq_named 0x5D hbusy, ← statusRecord_eq]
    rfl
  · rw [(voidTransaction_transacts hb).leads, leadByte_eq_named b hbusy, transferOf_of_other hb]
    rfl
  · exact (voidTransaction_transacts hb).rise ((transferOf_of_other hb).symm ▸ hbusy) ⟨n, extra⟩

/-- Settles O5: each moment, and the frame taken by whether it is empty, RESTART's or another. -/
theorem commandWriteTakesAFrame : Obligations.CommandWriteTakesAFrame := by
  unfold Obligations.CommandWriteTakesAFrame
  intro s bytes extra
  refine ⟨fun hidle => ⟨commandWrite_transacts.fall hidle, ?_⟩, fun status hbusy => ?_, fun status hbusy => ?_,
    fun hignored => commandWrite_transacts.ignored hignored ⟨bytes, extra⟩⟩
  · rw [commandWrite_transacts.whole hidle, leadByte_selected]
    rfl
  · rw [commandWrite_transacts.leads, leadByte_eq_named 0x5A hbusy]
    rfl
  · refine ⟨fun hempty => ?_, fun hrestart => ?_, fun hsome hother => ?_⟩
    · rw [commandWrite_transacts.rise hbusy, if_pos (by simpa using hempty)]
    · subst hrestart
      rw [commandWrite_transacts.rise hbusy, if_neg (by simp)]
      exact congrArg _ (takeFrame_of_restart _)
    · rw [commandWrite_transacts.rise hbusy, if_neg (by simpa using hsome), takeFrame_of_other _ hother]

/-- Settles O7: what a read fixes on, and its rise, which a whole read takes right after its lead byte. -/
theorem oldestRecordIsReadWhole : Obligations.OldestRecordIsReadWhole := by
  unfold Obligations.OldestRecordIsReadWhole
  intro s row kind frames less x hrow
  obtain ⟨lead, rfl, hfixes, h⟩ := read_of_row hrow
  refine ⟨fun hidle => ?_, fun status hbusy => ?_, fun status fixed queued hbusy => ?_⟩
  · rw [h.whole hidle, leadByte_selected, hfixes, h.rise rfl, transferOver_named hidle]
    simp only [removes_iff, decide_eq_true_eq, id]
  · rw [h.leads, leadByte_eq_named lead hbusy, hfixes]
  · rw [h.rise hbusy]
    simp only [removes_iff, id]

end
end

section
/-!
PROOF. The frame of a command and the command its bytes spell; a command row and its frame on the wire
(R162 to R166, R185).
-/

namespace Sys2Proof.Machine

open Sys2Proof Sys2Proof.Rules

/-! ### Numbers read back from their bytes (R185) -/

theorem word16_extract (v : BitVec 16) : word16 (v.extractLsb' 8 8) (v.extractLsb' 0 8) = v := by
  have hall : v.extractLsb' 8 8 ++ v.extractLsb' 0 8 = v.extractLsb' 0 16 :=
    BitVec.extractLsb'_append_extractLsb'_eq_extractLsb' rfl
  rw [word16, hall, BitVec.extractLsb'_eq_self]

theorem word32_extract (v : BitVec 32) : word32 (v.extractLsb' 24 8) (v.extractLsb' 16 8) (v.extractLsb' 8 8)
    (v.extractLsb' 0 8) = v := by
  have hhigh : v.extractLsb' 24 8 ++ v.extractLsb' 16 8 = v.extractLsb' 16 16 :=
    BitVec.extractLsb'_append_extractLsb'_eq_extractLsb' rfl
  have hmiddle : v.extractLsb' 16 16 ++ v.extractLsb' 8 8 = v.extractLsb' 8 24 :=
    BitVec.extractLsb'_append_extractLsb'_eq_extractLsb' rfl
  have hall : v.extractLsb' 8 24 ++ v.extractLsb' 0 8 = v.extractLsb' 0 32 :=
    BitVec.extractLsb'_append_extractLsb'_eq_extractLsb' rfl
  rw [word32, hhigh, hmiddle, hall, BitVec.extractLsb'_eq_self]

/-- The bytes above the lowest one of a number. -/
theorem extractLsb'_append_byte {n : Nat} (high : BitVec n) (low : Byte) (k : Nat) :
    (high ++ low).extractLsb' (k + 8) 8 = high.extractLsb' k 8 := by
  rw [BitVec.extractLsb'_append_eq_of_le (Nat.le_add_left 8 k), Nat.add_sub_cancel]

theorem bytesOf16_word16 (a b : Byte) : bytesOf16 (word16 a b) = [a, b] :=
  congrArg₂ (fun x y => [x, y]) BitVec.extractLsb'_append_eq_left BitVec.extractLsb'_append_eq_right

theorem bytesOf24_word24 (a b c : Byte) : bytesOf24 (word24 a b c) = [a, b, c] := by
  have hbytes : bytesOf24 (word24 a b c) = bytesOf16 (word16 a b) ++ [c] :=
    congrArg₂ (· ++ ·) (congrArg₂ (fun x y => [x, y]) (extractLsb'_append_byte (word16 a b) c 8)
      (extractLsb'_append_byte (word16 a b) c 0)) (congrArg ([·]) BitVec.extractLsb'_append_eq_right)
  rw [hbytes, bytesOf16_word16]
  rfl

theorem bytesOf32_word32 (a b c d : Byte) : bytesOf32 (word32 a b c d) = [a, b, c, d] := by
  have hbytes : bytesOf32 (word32 a b c d) = bytesOf24 (word24 a b c) ++ [d] :=
    congrArg₂ (· ++ ·) (congr (congrArg₂ (fun x y z => [x, y, z]) (extractLsb'_append_byte (word24 a b c) d 16)
      (extractLsb'_append_byte (word24 a b c) d 8)) (extractLsb'_append_byte (word24 a b c) d 0))
      (congrArg ([·]) BitVec.extractLsb'_append_eq_right)
  rw [hbytes, bytesOf24_word24]
  rfl

/-! ### Outlines and counted texts (R165, R181, R185) -/

theorem length_eq_of_byteCount {n : Nat} (h : n ≤ 255) : (BitVec.ofNat 8 n).toNat = n :=
  Nat.mod_eq_of_lt (by omega)

theorem readStrokes_strokeBytes : ∀ (o : List Stroke) (rest : List Byte),
    readStrokes o.length (strokeBytes o ++ rest) = some (o, rest)
  | [], _ => rfl
  | v :: o, rest => by
      have htail := readStrokes_strokeBytes o rest
      simp only [strokeBytes, bytesOf24, List.length_cons, List.cons_append, List.nil_append, readStrokes, htail,
        Option.map_some, word24_extract]

theorem strokeBytes_of_readStrokes : ∀ {k : Nat} {bytes : List Byte} {o : List Stroke} {rest : List Byte},
    readStrokes k bytes = some (o, rest) → o.length = k ∧ bytes = strokeBytes o ++ rest
  | 0, bytes, o, rest, h => by cases h; exact ⟨rfl, rfl⟩
  | k + 1, [], o, rest, h | k + 1, [_], o, rest, h | k + 1, [_, _], o, rest, h => by cases h
  | k + 1, a :: b :: c :: more, o, rest, h => by
      obtain ⟨⟨tail, left⟩, htail, heq⟩ := Option.map_eq_some_iff.mp h
      obtain ⟨hlength, hmore⟩ := strokeBytes_of_readStrokes htail
      cases heq
      exact ⟨congrArg (· + 1) hlength, by rw [strokeBytes, bytesOf24_word24, hmore]; rfl⟩

theorem readOutline_outlineBytes {o : List Stroke} (h : o.length ≤ 255) (rest : List Byte) :
    readOutline (outlineBytes o ++ rest) = some (o, rest) := by
  rw [outlineBytes, List.cons_append, readOutline, length_eq_of_byteCount h, readStrokes_strokeBytes]

theorem outlineBytes_of_readOutline {bytes : List Byte} {o : List Stroke} {rest : List Byte}
    (h : readOutline bytes = some (o, rest)) : bytes = outlineBytes o ++ rest := by
  cases bytes with
  | nil => cases h
  | cons k bytes =>
      obtain ⟨hlength, hbytes⟩ := strokeBytes_of_readStrokes h
      rw [outlineBytes, hlength, BitVec.ofNat_toNat, BitVec.setWidth_eq, hbytes]
      rfl

theorem readCounted_countedBytes {text : List Byte} (h : text.length ≤ 255) :
    readCounted (countedBytes text) = some text := by
  rw [countedBytes, readCounted, length_eq_of_byteCount h, if_pos rfl]

theorem countedBytes_of_readCounted {bytes text : List Byte} (h : readCounted bytes = some text) :
    bytes = countedBytes text := by
  cases bytes with
  | nil => cases h
  | cons n bytes =>
      rw [readCounted] at h
      split at h
      · next hlength =>
        cases h
        rw [countedBytes, hlength, BitVec.ofNat_toNat, BitVec.setWidth_eq]
      · cases h

/-! ### The readers of parameters, backwards (R185) -/

/-- `c` has the code `n` of the catalogue and these parameter bytes. -/
def spelledBy (c : Command) (n : Nat) (params : List Byte) : Prop := c.code.toNat = n ∧ c.params = params

section

variable {n : Nat} {params : List Byte} {c : Command}

theorem read0_spelled {make : Command} (hmake : spelledBy make n []) (h : read0 make params = some c) :
    spelledBy c n params := by
  unfold read0 at h
  split at h <;> cases h
  exact hmake

theorem read1_spelled {make : Byte → Command} (hmake : ∀ v, spelledBy (make v) n [v])
    (h : read1 make params = some c) : spelledBy c n params := by
  unfold read1 at h
  split at h <;> cases h
  exact hmake _

theorem read2_spelled {make : Byte → Byte → Command} (hmake : ∀ a b, spelledBy (make a b) n [a, b])
    (h : read2 make params = some c) : spelledBy c n params := by
  unfold read2 at h
  split at h <;> cases h
  exact hmake _ _

theorem read4_spelled {make : Byte → Byte → Byte → Byte → Command}
    (hmake : ∀ a b c d, spelledBy (make a b c d) n [a, b, c, d]) (h : read4 make params = some c) :
    spelledBy c n params := by
  unfold read4 at h
  split at h <;> cases h
  exact hmake _ _ _ _

theorem read16_spelled {make : BitVec 16 → Command} (hmake : ∀ v, spelledBy (make v) n (bytesOf16 v))
    (h : read16 make params = some c) : spelledBy c n params := by
  unfold read16 at h
  split at h <;> cases h
  rw [← bytesOf16_word16]
  exact hmake _

theorem read24_spelled {make : Stroke → Command} (hmake : ∀ v, spelledBy (make v) n (bytesOf24 v))
    (h : read24 make params = some c) : spelledBy c n params := by
  unfold read24 at h
  split at h <;> cases h
  rw [← bytesOf24_word24]
  exact hmake _

theorem read32_spelled {make : BitVec 32 → Command} (hmake : ∀ v, spelledBy (make v) n (bytesOf32 v))
    (h : read32 make params = some c) : spelledBy c n params := by
  unfold read32 at h
  split at h <;> cases h
  rw [← bytesOf32_word32]
  exact hmake _

theorem readTiming_spelled (h : readTiming params = some c) : spelledBy c 0x10 params := by
  unfold readTiming at h
  split at h <;> cases h
  exact ⟨rfl, by rw [Command.params, bytesOf16_word16]; rfl⟩

theorem readWindow_spelled (h : readWindow params = some c) : spelledBy c 0x18 params := by
  unfold readWindow at h
  split at h <;> cases h
  exact ⟨rfl, by rw [Command.params, bytesOf32_word32, bytesOf32_word32]; rfl⟩

theorem readFormat_spelled (h : readFormat params = some c) : spelledBy c 0x19 params := by
  unfold readFormat at h
  split at h <;> cases h
  exact ⟨rfl, by rw [Command.params, bytesOf32_word32]; rfl⟩

theorem readChannel_spelled (h : readChannel params = some c) : spelledBy c 0x2A params := by
  unfold readChannel at h
  split at h <;> cases h
  exact ⟨rfl, by rw [Command.params, bytesOf16_word16, bytesOf16_word16]; rfl⟩

theorem readSpeaker_spelled (h : readSpeaker params = some c) : spelledBy c 0x27 params := by
  unfold readSpeaker at h
  split at h
  · obtain ⟨label, hlabel, rfl⟩ := Option.map_eq_some_iff.mp h
    exact ⟨rfl, by rw [Command.params, ← countedBytes_of_readCounted hlabel]; rfl⟩
  · cases h

theorem readEntryName_spelled {make : Byte → List Stroke → Command}
    (hmake : ∀ slot o, spelledBy (make slot o) n ([slot] ++ outlineBytes o))
    (h : readEntryName make params = some c) : spelledBy c n params := by
  unfold readEntryName at h
  split at h
  · next slot rest =>
    split at h
    · next o houtline =>
      cases h
      rw [outlineBytes_of_readOutline houtline, List.append_nil]
      exact hmake slot o
    · cases h
  · cases h

theorem readEntryWrite_spelled {make : Byte → List Stroke → Byte → List Byte → Command}
    (hmake : ∀ slot o flags text, spelledBy (make slot o flags text) n
      ([slot] ++ outlineBytes o ++ [flags] ++ countedBytes text))
    (h : readEntryWrite make params = some c) : spelledBy c n params := by
  unfold readEntryWrite at h
  split at h
  · next slot rest =>
    split at h
    · next o flags more houtline =>
      obtain ⟨text, htext, rfl⟩ := Option.map_eq_some_iff.mp h
      rw [outlineBytes_of_readOutline houtline, countedBytes_of_readCounted htext]
      simpa using hmake slot o flags text
    · cases h
  · cases h

end

/-- Bytes that spell a command are its parameters, and the code is its code. -/
theorem parseParams_spelled {code : Byte} {params : List Byte} {c : Command} (h : parseParams code params = some c) :
    spelledBy c code.toNat params := by
  unfold parseParams at h
  generalize code.toNat = n at h ⊢
  split at h
  case h_1 => exact readTiming_spelled h
  case h_2 | h_3 | h_5 => exact read24_spelled (fun _ => ⟨rfl, rfl⟩) h
  case h_4 | h_7 | h_8 | h_11 | h_14 | h_15 | h_20 | h_23 | h_28 | h_29 | h_30 | h_31 =>
    exact read1_spelled (fun _ => ⟨rfl, rfl⟩) h
  case h_6 => exact read32_spelled (fun _ => ⟨rfl, rfl⟩) h
  case h_9 => exact readWindow_spelled h
  case h_10 => exact readFormat_spelled h
  case h_12 => exact read2_spelled (fun _ _ => ⟨rfl, rfl⟩) h
  case h_13 | h_32 => exact read4_spelled (fun _ _ _ _ => ⟨rfl, rfl⟩) h
  case h_16 | h_17 => exact readEntryWrite_spelled (fun _ _ _ _ => ⟨rfl, rfl⟩) h
  case h_18 | h_19 => exact readEntryName_spelled (fun _ _ => ⟨rfl, rfl⟩) h
  case h_21 | h_22 | h_26 => exact read0_spelled ⟨rfl, rfl⟩ h
  case h_24 => exact readSpeaker_spelled h
  case h_25 => exact read16_spelled (fun _ => ⟨rfl, rfl⟩) h
  case h_27 => exact readChannel_spelled h
  case h_33 => cases h

/-! ### A command's own frame (R162, R185) -/

/-- A frame can carry a command exactly where its length byte counts the parameters. -/
theorem wf_iff (c : Command) : c.wf = true ↔ c.params.length + 1 ≤ 255 := by
  cases c with
  | addEntry | replaceEntry | retireEntry | fetchEntry | setSpeaker =>
      simp only [Command.wf, frameFits, Command.params, outlineBytes, countedBytes, List.length_append,
        List.length_cons, List.length_nil, length_strokeBytes, decide_eq_true_eq]
      omega
  | _ => exact iff_of_true rfl (by simp [Command.params, bytesOf16, bytesOf24, bytesOf32])

theorem readEntryName_params (make : Byte → List Stroke → Command) (slot : Byte) {o : List Stroke}
    (h : o.length ≤ 255) : readEntryName make ([slot] ++ outlineBytes o) = some (make slot o) := by
  rw [List.singleton_append, ← List.append_nil (outlineBytes o), readEntryName, readOutline_outlineBytes h]

theorem readEntryWrite_params (make : Byte → List Stroke → Byte → List Byte → Command) (slot flags : Byte)
    {o : List Stroke} {text : List Byte} (ho : o.length ≤ 255) (htext : text.length ≤ 255) :
    readEntryWrite make ([slot] ++ outlineBytes o ++ [flags] ++ countedBytes text) =
      some (make slot o flags text) := by
  rw [List.singleton_append, List.append_assoc, List.cons_append, readEntryWrite, readOutline_outlineBytes ho,
    List.singleton_append]
  dsimp only
  rw [readCounted_countedBytes htext]
  rfl

theorem readSpeaker_params (number : Byte) {label : List Byte} (h : label.length ≤ 255) :
    readSpeaker ([number] ++ countedBytes label) = some (.setSpeaker number label) := by
  rw [List.singleton_append, readSpeaker, readCounted_countedBytes h]
  rfl

/-- An outline or a text in parameters that a frame can carry is counted by one byte. -/
theorem counted_of_wf {k text : Nat} (h : frameFits (4 + 3 * k + text) = true) : k ≤ 255 ∧ text ≤ 255 := by
  have hfits : 4 + 3 * k + text + 1 ≤ 255 := of_decide_eq_true h
  omega

theorem counted_of_nameWf {k : Nat} (h : frameFits (2 + 3 * k) = true) : k ≤ 255 := by
  have hfits : 2 + 3 * k + 1 ≤ 255 := of_decide_eq_true h
  omega

theorem counted_of_labelWf {k : Nat} (h : frameFits (2 + k) = true) : k ≤ 255 := by
  have hfits : 2 + k + 1 ≤ 255 := of_decide_eq_true h
  omega

/-- A command's own code and parameters spell it. -/
theorem parseParams_params {c : Command} (h : c.wf = true) : parseParams c.code c.params = some c := by
  cases c with
  | setKeyTiming d g st => exact congrArg (fun w => some (Command.setKeyTiming d g w)) (word16_extract st)
  | setKeyPolarity v => exact congrArg (fun w => some (Command.setKeyPolarity w)) (word24_extract v)
  | setKeyMask v => exact congrArg (fun w => some (Command.setKeyMask w)) (word24_extract v)
  | injectStroke v => exact congrArg (fun w => some (Command.injectStroke w)) (word24_extract v)
  | setClock v => exact congrArg (fun w => some (Command.setClock w)) (word32_extract v)
  | setWindow n b z =>
      exact congrArg₂ (fun w x => some (Command.setWindow n w x)) (word32_extract b) (word32_extract z)
  | format n b => exact congrArg (fun w => some (Command.format n w)) (word32_extract b)
  | addEntry n o f t | replaceEntry n o f t =>
      obtain ⟨ho, ht⟩ := counted_of_wf h
      exact readEntryWrite_params _ n f ho ht
  | retireEntry n o | fetchEntry n o => exact readEntryName_params _ n (counted_of_nameWf h)
  | setSpeaker n l => exact readSpeaker_params n (counted_of_labelWf h)
  | setSettleTime v => exact congrArg (fun w => some (Command.setSettleTime w)) (word16_extract v)
  | setChannel ch m f d r st ka =>
      exact congrArg₂ (fun w x => some (Command.setChannel ch m f w x st ka)) (word16_extract d) (word16_extract r)
  | _ => rfl

theorem length_frame_le {c : Command} (h : c.wf = true) : c.frame.length ≤ 256 := by
  have hparams := (wf_iff c).mp h
  simp only [Command.frame, List.length_cons]
  omega

/-- A command's own frame spells it. -/
theorem parseFrame_frame {c : Command} (h : c.wf = true) : parseFrame c.frame false = some c := by
  have hlength : (BitVec.ofNat 8 (c.params.length + 1)).toNat = c.params.length + 1 :=
    length_eq_of_byteCount ((wf_iff c).mp h)
  rw [Command.frame, parseFrame, hlength, if_neg (by simp)]
  exact parseParams_params h

/-- No bytes but its frame spell a command. -/
theorem frame_of_parseFrame {bytes : List Byte} {overLong : Bool} {c : Command}
    (h : parseFrame bytes overLong = some c) : overLong = false ∧ c.wf = true ∧ bytes = c.frame := by
  unfold parseFrame at h
  split at h
  · next len code params =>
    split at h
    · cases h
    · next hform =>
      obtain ⟨hshort, hlength⟩ : overLong = false ∧ len.toNat = params.length + 1 := by simpa using hform
      obtain ⟨hcode, hparams⟩ := parseParams_spelled h
      have hcount : BitVec.ofNat 8 (c.params.length + 1) = len := by
        rw [hparams, ← hlength, BitVec.ofNat_toNat, BitVec.setWidth_eq]
      refine ⟨hshort, (wf_iff c).mpr ?_, ?_⟩
      · have hbyte : len.toNat < 256 := len.isLt
        rw [hparams]
        omega
      · rw [Command.frame, hcount, BitVec.eq_of_toNat_eq hcode, hparams]
  · cases h

/-! ### A command row and its frame (R162 to R166) -/

theorem commandOf_rowOf (c : Command) : commandOf (rowOf c) = some c := by
  cases c with
  | fetchEntry n o =>
      by_cases h : n = 0xFF
      · rw [rowOf, if_pos h, h]; rfl
      · rw [rowOf, if_neg h]; rfl
  | windowInfo v =>
      by_cases h : v = 0
      · rw [rowOf, if_pos h, h]; rfl
      · rw [rowOf, if_neg h]; rfl
  | _ => rfl

theorem exec_rowOf (c : Command) (s : State) : exec (rowOf c) s = .next (hostCommand c (runCommand c) s) :=
  exec_of_command (commandOf_rowOf c) s

theorem exec_rowOf_of_ready {s : State} (h : Ready s) (c : Command) :
    exec (rowOf c) s = .next (runCommand c (s.beginExecution c.code)) := by
  rw [exec_rowOf, hostCommand_of_ready h]

theorem canBegin_iff (s : State) : s.canBegin = true ↔
    s.cp.executing = none ∧ s.cp.restarts = 0 ∧ s.cp.responses.length < 8 := by
  simp [State.canBegin, and_assoc]

theorem keepFrame_frame {c : Command} (h : c.wf = true) : keepFrame c.frame = ⟨c.frame, false⟩ := by
  have hlength := length_frame_le h
  rw [keepFrame, List.take_of_length_le hlength, decide_eq_false (not_lt.mpr hlength)]

/-- Where the Command Port is not ready a command row is the arrival of a frame that waits or is dropped. -/
theorem exec_rowOf_of_not_ready {s : State} (h : ¬Ready s) {c : Command} (hc : c.wf = true) :
    exec (rowOf c) s = .next (framed s ⟨c.frame, false⟩) := by
  have hbusy : ¬(s.canBegin && s.cp.queue.isEmpty) = true := fun hboth => by
    obtain ⟨hbegin, hqueue⟩ := Bool.and_eq_true_iff.mp hboth
    obtain ⟨hcommand, hrestart, hroom⟩ := (canBegin_iff s).mp hbegin
    exact h ⟨hcommand, hrestart, hroom, List.isEmpty_iff.mp hqueue⟩
  rw [exec_rowOf, hostCommand, if_neg hbusy, keepFrame_frame hc]
  rfl

/-- The frame of a command is not RESTART's. -/
theorem frame_ne_restart {c : Command} (h : c.wf = true) : c.frame ≠ [0x01, 0x2E] := fun hrestart => by
  have hparse := parseFrame_frame h
  rw [hrestart] at hparse
  cases hparse

/-- A command write of a command's frame leaves it waiting, or drops it. -/
theorem exec_commandWrite_frame {s : State} (hidle : s.spi = .idle) {c : Command} (h : c.wf = true) :
    exec (.commandWrite (.whole ⟨c.frame, 0⟩)) s =
      .next (framed (s.withSpdo (shifted s.portStatus [] c.frame.length 0)) ⟨c.frame, false⟩) := by
  have hlength := length_frame_le h
  rw [exec_commandWrite_framed hidle (by simp [Command.frame]) (frame_ne_restart h),
    List.take_of_length_le hlength, decide_eq_false (not_lt.mpr hlength)]

/-! ### COMMAND_BEGIN (R164, R165) -/

/-- `s` with another command queue. -/
def State.withQueue (s : State) (q : List Frame) : State := s.withCp { s.cp with queue := q }

theorem State.withQueue_self {s : State} {q : List Frame} (h : s.cp.queue = q) : s.withQueue q = s := by
  subst h; rfl

theorem exec_commandBegin {s : State} {f : Frame} {rest : List Frame} (hqueue : s.cp.queue = f :: rest)
    (h : s.canBegin = true) : exec .commandBegin s = .next (s.beginFrame f rest) := by
  refine congrArg Host.Outcome.next ?_
  rw [hqueue]
  exact if_pos h

theorem exec_commandBegin_of_not_free {s : State} {f : Frame} {rest : List Frame} (hqueue : s.cp.queue = f :: rest)
    (h : ¬s.canBegin = true) : exec .commandBegin s = .next s := by
  refine congrArg Host.Outcome.next ?_
  rw [hqueue]
  exact if_neg h

/-- A frame of a command begins that command, the frames behind it waiting on. -/
theorem beginFrame_of_command (s : State) {c : Command} (h : c.wf = true) (rest : List Frame) :
    s.beginFrame ⟨c.frame, false⟩ rest =
      runCommand c ((s.withQueue rest).beginExecution c.code) := by
  unfold State.beginFrame
  dsimp only
  rw [parseFrame_frame h]
  rfl

theorem beginFrame_of_malformed (s : State) {f : Frame} (h : parseFrame f.bytes f.overLong = none)
    (rest : List Frame) : s.beginFrame f rest =
      ((s.withQueue rest).beginExecution (echoOf f.bytes)).refuse .badFrame := by
  unfold State.beginFrame
  dsimp only
  rw [h]
  rfl

/-- A frame that is no command's is malformed. -/
theorem parseFrame_eq_none {f : Frame} (h : ∀ c : Command, c.wf = true → f ≠ ⟨c.frame, false⟩) :
    parseFrame f.bytes f.overLong = none := by
  refine Option.eq_none_iff_forall_ne_some.mpr fun c hparse => ?_
  obtain ⟨hshort, hc, hbytes⟩ := frame_of_parseFrame hparse
  exact h c hc (congrArg₂ Frame.mk hbytes hshort)

/-- The frame placed where the Command Port is ready is the one that COMMAND_BEGIN takes. -/
theorem exec_commandBegin_framed {s : State} (h : Ready s) {c : Command} (hc : c.wf = true) :
    exec .commandBegin (framed s ⟨c.frame, false⟩) = exec (rowOf c) s := by
  have hplaced : framed s ⟨c.frame, false⟩ = s.withQueue [⟨c.frame, false⟩] := by
    rw [framed, h.noFrame]
    rfl
  have hbegin : (s.withQueue [⟨c.frame, false⟩]).canBegin = true :=
    (canBegin_iff s).mpr ⟨h.noCommand, h.noRestart, h.room⟩
  have hemptied : (s.withQueue [⟨c.frame, false⟩]).withQueue [] = s := State.withQueue_self h.noFrame
  rw [hplaced, exec_commandBegin (s := s.withQueue [⟨c.frame, false⟩]) rfl hbegin, beginFrame_of_command _ hc,
    hemptied, exec_rowOf_of_ready h]

end Sys2Proof.Machine

section

open Sys2Proof Sys2Proof.Machine Sys2Proof.Rules

/-- Settles O2: a command's parameters read back, and the readers of parameters backwards. -/
theorem frameSpellsExactlyOneCommand : Obligations.FrameSpellsExactlyOneCommand := by
  unfold Obligations.FrameSpellsExactlyOneCommand
  exact ⟨fun c h => ⟨length_frame_le h, parseFrame_frame h⟩, fun _ _ _ h => frame_of_parseFrame h⟩

/-- Settles O3: the frame waits alone, and COMMAND_BEGIN takes it; or it arrives, on either path. -/
theorem commandRowIsItsFrameOnTheWire : Obligations.CommandRowIsItsFrameOnTheWire := by
  unfold Obligations.CommandRowIsItsFrameOnTheWire
  refine fun c s hc hidle => ⟨fun h => ⟨_, exec_commandWrite_frame hidle hc, ?_⟩,
    fun h => ⟨exec_commandWrite_frame hidle hc, exec_rowOf_of_not_ready h hc⟩⟩
  exact exec_commandBegin_framed (s := s.withSpdo (shifted s.portStatus [] c.frame.length 0))
    ⟨h.noCommand, h.noRestart, h.room, h.noFrame⟩ hc

end
end

section
/-!
SUPPORT. No command looks at the frames that wait behind it: each operation that a command is made of commutes with
a replacement of the command queue (R164).
-/

namespace Sys2Proof.Machine

open Sys2Proof Sys2Proof.Rules

section

variable (s : State) (q : List Frame)

/-! ### Reading and replacing the other blocks -/

@[simp] theorem State.withQueue_ksu : (s.withQueue q).ksu = s.ksu := rfl
@[simp] theorem State.withQueue_strokeQueue : (s.withQueue q).strokeQueue = s.strokeQueue := rfl
@[simp] theorem State.withQueue_dict : (s.withQueue q).dict = s.dict := rfl
@[simp] theorem State.withQueue_mp : (s.withQueue q).mp = s.mp := rfl
@[simp] theorem State.withQueue_te : (s.withQueue q).te = s.te := rfl
@[simp] theorem State.withQueue_speakers : (s.withQueue q).speakers = s.speakers := rfl
@[simp] theorem State.slot_withQueue (n : SlotNo) : (s.withQueue q).slot n = s.slot n := rfl
@[simp] theorem State.gate_withQueue (n : SlotNo) : (s.withQueue q).gate n = s.gate n := rfl
@[simp] theorem State.chan_withQueue (n : ChanNo) : (s.withQueue q).chan n = s.chan n := rfl
@[simp] theorem State.openText_withQueue : (s.withQueue q).openText = s.openText := rfl
@[simp] theorem State.freeReports_withQueue : (s.withQueue q).freeReports = s.freeReports := rfl

@[simp] theorem withQueue_withKsu (u : Ksu) : (s.withQueue q).withKsu u = (s.withKsu u).withQueue q := rfl
@[simp] theorem withQueue_withStrokeQueue (l : List StrokeRecord) :
    (s.withQueue q).withStrokeQueue l = (s.withStrokeQueue l).withQueue q := rfl
@[simp] theorem withQueue_withDict (d : Dict) : (s.withQueue q).withDict d = (s.withDict d).withQueue q := rfl
@[simp] theorem withQueue_withSlot (n : SlotNo) (d : Slot) :
    (s.withQueue q).withSlot n d = (s.withSlot n d).withQueue q := rfl
@[simp] theorem withQueue_withMp (m : Mp) : (s.withQueue q).withMp m = (s.withMp m).withQueue q := rfl
@[simp] theorem withQueue_withGate (n : SlotNo) (g : Gate) :
    (s.withQueue q).withGate n g = (s.withGate n g).withQueue q := rfl
@[simp] theorem withQueue_withTe (t : Te) : (s.withQueue q).withTe t = (s.withTe t).withQueue q := rfl
@[simp] theorem withQueue_withSpeakers (v : Vector (List Byte) 16) :
    (s.withQueue q).withSpeakers v = (s.withSpeakers v).withQueue q := rfl
@[simp] theorem withQueue_withChan (n : ChanNo) (c : Channel) :
    (s.withQueue q).withChan n c = (s.withChan n c).withQueue q := rfl
@[simp] theorem withQueue_setNotices (m : Byte) : (s.withQueue q).setNotices m = (s.setNotices m).withQueue q := rfl
@[simp] theorem withQueue_pushReport (r : Report) : (s.withQueue q).pushReport r = (s.pushReport r).withQueue q := rfl

@[simp] theorem ite_withQueue (p : Prop) [Decidable p] (t u : State) :
    (if p then t.withQueue q else u.withQueue q) = (if p then t else u).withQueue q :=
  (apply_ite (State.withQueue · q) p t u).symm

/-! ### The end of a command (R166) -/

@[simp] theorem withQueue_respond (st : Status) (d : List Byte) :
    (s.withQueue q).respond st d = (s.respond st d).withQueue q := by
  have hrestarts : (s.withQueue q).cp.restarts = s.cp.restarts := rfl
  rw [State.respond, State.respond, hrestarts]
  split <;> rfl

@[simp] theorem withQueue_done : (s.withQueue q).done = s.done.withQueue q := withQueue_respond s q _ _

@[simp] theorem withQueue_refuse (st : Status) : (s.withQueue q).refuse st = (s.refuse st).withQueue q :=
  withQueue_respond s q _ _

/-! ### Keys (chapter 1) -/

theorem closeStroke_withQueue (split : Bool) : (s.withQueue q).closeStroke split = (s.closeStroke split).withQueue q :=
  closeStroke_comm (·.withQueue q) s split rfl rfl rfl rfl rfl rfl

@[simp] theorem stopHold_withQueue (k : Key) : (s.withQueue q).stopHold k = (s.stopHold k).withQueue q := rfl


@[simp] theorem releaseKey_withQueue (k : Key) : (s.withQueue q).releaseKey k = (s.releaseKey k).withQueue q := by
  simp [State.releaseKey, State.afterRelease, closeStroke_withQueue]

@[simp] theorem cutKey_withQueue (k : Key) : (s.withQueue q).cutKey k = (s.cutKey k).withQueue q := by
  simp [State.cutKey]

@[simp] theorem maskKey_withQueue (k : Key) : (s.withQueue q).maskKey k = (s.maskKey k).withQueue q := by
  simp [State.maskKey]

@[simp] theorem unmaskKey_withQueue (k : Key) : (s.withQueue q).unmaskKey k = (s.unmaskKey k).withQueue q := rfl

@[simp] theorem turnKey_withQueue (k : Key) (wasDown : Bool) :
    (s.withQueue q).turnKey k wasDown = (s.turnKey k wasDown).withQueue q := by
  cases wasDown with
  | true => simp [State.turnKey]
  | false => rw [turnKey_false, turnKey_false, unmaskKey_withQueue]; exact ite_withQueue q _ _ _

/-- What one key's handling does not look at, the handling of keys one after another does not look at. -/
@[simp] theorem foldl_withQueue (f : State → Key → State) (hf : ∀ s k, f (s.withQueue q) k = (f s k).withQueue q)
    (keys : List Key) : keys.foldl f (s.withQueue q) = (keys.foldl f s).withQueue q :=
  List.foldl_hom (State.withQueue · q) fun s k => hf s k

/-! ### Claims at the slot gates (R65, R66) -/

@[simp] theorem finishRelease_withQueue (n : SlotNo) :
    (s.withQueue q).finishRelease n = (s.finishRelease n).withQueue q := by
  simp [State.finishRelease]

end

theorem takeClaims_withQueue (n : SlotNo) (q : List Frame) : ∀ (claims : List Claim) (s : State),
    takeClaims n claims (s.withQueue q) = (takeClaims n claims s).withQueue q
  | [], _ => rfl
  | .probe _ :: _, _ => rfl
  | .upkeep :: rest, s => by
      have hnext := takeClaims_withQueue n q rest (s.finishRelease n)
      rw [takeClaims, takeClaims, State.withQueue_mp, finishRelease_withQueue, hnext]
      split <;> rfl

section

variable (s : State) (q : List Frame)

theorem serveGate_withQueue (n : SlotNo) : (s.withQueue q).serveGate n = (s.serveGate n).withQueue q := by
  unfold State.serveGate
  rw [State.gate_withQueue, takeClaims_withQueue]
  split <;> rfl

@[simp] theorem beginUpkeep_withQueue (n : SlotNo) (op : UpkeepOp) :
    (s.withQueue q).beginUpkeep n op = (s.beginUpkeep n op).withQueue q := by
  simp [State.beginUpkeep, State.claimGate, serveGate_withQueue]

@[simp] theorem beginEntryOp_withQueue (kind : EntryKind) (n : SlotNo) (o : List Stroke) (f : Byte) (t : List Byte)
    (any : Bool) (later : List SlotNo) :
    (s.withQueue q).beginEntryOp kind n o f t any later = (s.beginEntryOp kind n o f t any later).withQueue q := by
  simp [State.beginEntryOp]

/-! ### The window and the TE's work (chapters 5 to 7) -/

@[simp] theorem signalRescan_withQueue : (s.withQueue q).signalRescan = s.signalRescan.withQueue q := by
  simp [State.signalRescan, State.setRescanPending]

@[simp] theorem noteViewChange_withQueue : (s.withQueue q).noteViewChange = s.noteViewChange.withQueue q := rfl

@[simp] theorem changeWindow_withQueue (w : List Record) :
    (s.withQueue q).changeWindow w = (s.changeWindow w).withQueue q := by
  unfold State.changeWindow State.settleRecords
  dsimp only
  split <;> rfl

@[simp] theorem becomeIdle_withQueue : (s.withQueue q).becomeIdle = s.becomeIdle.withQueue q := rfl

@[simp] theorem testView_withQueue (t : ProbeTable) : (s.withQueue q).testView t = (s.testView t).withQueue q := by
  simp [State.testView, State.setRescanPending]

@[simp] theorem clearTable_withQueue (t : ProbeTable) :
    (s.withQueue q).clearTable t = (s.clearTable t).withQueue q := rfl

end

theorem serveSettleDue_withQueue (q : List Frame) : ∀ (w : List Record) (s : State),
    serveSettleDue w (s.withQueue q) = (serveSettleDue w s).withQueue q
  | [], _ => rfl
  | r :: rest, s => by
      have hnext := serveSettleDue_withQueue q rest (s.settleOldest r rest)
      have hsettled : (s.withQueue q).settleOldest r rest = (s.settleOldest r rest).withQueue q := rfl
      rw [serveSettleDue, serveSettleDue, State.freeReports_withQueue, hsettled, hnext, ite_withQueue]

theorem replayFrom_withQueue (q : List Frame) : ∀ (strokes : List Stroke) (window : List Record) (s : State),
    replayFrom strokes window (s.withQueue q) = (replayFrom strokes window s).withQueue q
  | [], window, s => congrArg State.becomeIdle (changeWindow_withQueue s q window)
  | v :: rest, window, s => by
      by_cases h : undecided (s.dict.probeTable window v).pairs
      · rw [replayFrom_of_undecided h, replayFrom_of_undecided (by exact h)]
        rfl
      · rw [replayFrom_of_decided h, replayFrom_of_decided (by exact h)]
        exact replayFrom_withQueue q rest _ s

section

variable (s : State) (q : List Frame)

@[simp] theorem tryDecide_withQueue : (s.withQueue q).tryDecide = s.tryDecide.withQueue q := by
  have hresolution (t : ProbeTable) (d : Decision) :
      (s.withQueue q).completeResolution t d = (s.completeResolution t d).withQueue q := by
    simp [State.completeResolution]
  have hreplayed (t : ProbeTable) (r : Replay) (d : Decision) :
      (s.withQueue q).completeReplayed t r d = (s.completeReplayed t r d).withQueue q := by
    simp [State.completeReplayed, replayFrom_withQueue]
  simp only [State.tryDecide, State.withQueue_te, hresolution, hreplayed]
  split
  · rfl
  · split
    · rfl
    · split <;> rfl

theorem giveAccess_withQueue (n : SlotNo) (a : Access) :
    (s.withQueue q).giveAccess n a = (s.giveAccess n a).withQueue q := by
  simp [State.giveAccess, State.answerMiss, State.deliver]

@[simp] theorem beginRescan_withQueue : (s.withQueue q).beginRescan = s.beginRescan.withQueue q := by
  simp [State.beginRescan, replayFrom_withQueue]

theorem takeStroke_withQueue (r : StrokeRecord) (rest : List StrokeRecord) :
    (s.withQueue q).takeStroke r rest = (s.takeStroke r rest).withQueue q := by
  have hreport : (s.withQueue q).strokeReport r = s.strokeReport r := rfl
  simp [State.takeStroke, State.undo, State.resolve, hreport]

theorem serviceOrder_withQueue : (s.withQueue q).serviceOrder = s.serviceOrder.withQueue q := by
  have hrescan : (s.withQueue q).rescanReady = s.rescanReady := rfl
  have hsettle : (s.withQueue q).settleReady = s.settleReady := rfl
  have hstroke : (s.withQueue q).serviceStroke = s.serviceStroke.withQueue q := by
    have hready : (s.withQueue q).strokeReady = s.strokeReady := rfl
    simp only [State.serviceStroke, State.withQueue_strokeQueue, hready, takeStroke_withQueue]
    split
    · rfl
    · exact ite_withQueue q _ _ _
  simp [State.serviceOrder, hrescan, hsettle, hstroke, serveSettleDue_withQueue]

/-! ### Commands, chapter by chapter -/

/-- The commands of chapter 1 do not look at the frames that wait. -/
theorem runCommand_withQueue_of_keyboard {c : Command} (h : ofKeyboard c = true) :
    runCommand c (s.withQueue q) = (runCommand c s).withQueue q := by
  cases c with
  | setKeyTiming d g st => simp [runCommand, cmdSetKeyTiming]
  | setKeyPolarity v =>
      simp only [runCommand, cmdSetKeyPolarity]
      split <;> simp
  | setKeyMask v =>
      simp only [runCommand, cmdSetKeyMask]
      split
      · simp
      · simp [foldl_withQueue _ q State.unmaskKey (unmaskKey_withQueue · q)]
  | setStacking v =>
      simp only [runCommand, cmdSetStacking]
      split <;> simp
  | injectStroke v => simp [runCommand, cmdInjectStroke]
  | setClock v => simp [runCommand, cmdSetClock]
  | keyInfo v =>
      have hdata : (s.withQueue q).keyInfoData = s.keyInfoData := rfl
      simp only [runCommand, cmdKeyInfo, hdata]
      split <;> simp
  | _ => cases h

theorem cmdSetMemory_withQueue (mib : Byte) :
    cmdSetMemory mib (s.withQueue q) = (cmdSetMemory mib s).withQueue q := by simp [cmdSetMemory]

theorem cmdSetWindow_withQueue (slot : Byte) (base size : BitVec 32) :
    cmdSetWindow slot base size (s.withQueue q) = (cmdSetWindow slot base size s).withQueue q := by
  have hoverlaps (n : SlotNo) (b z : Nat) : (s.withQueue q).overlaps n b z = s.overlaps n b z := rfl
  unfold cmdSetWindow
  split <;> simp [hoverlaps]

theorem cmdFormat_withQueue (slot : Byte) (buckets : BitVec 32) :
    cmdFormat slot buckets (s.withQueue q) = (cmdFormat slot buckets s).withQueue q := by
  unfold cmdFormat
  split <;> simp

theorem cmdReleaseSlot_withQueue (slot : Byte) :
    cmdReleaseSlot slot (s.withQueue q) = (cmdReleaseSlot slot s).withQueue q := by
  unfold cmdReleaseSlot
  split <;> simp

theorem cmdSetAccess_withQueue (slot code : Byte) :
    cmdSetAccess slot code (s.withQueue q) = (cmdSetAccess slot code s).withQueue q := by
  unfold cmdSetAccess
  split <;> simp [giveAccess_withQueue]

theorem cmdSetRanks_withQueue (a b c d : Byte) :
    cmdSetRanks a b c d (s.withQueue q) = (cmdSetRanks a b c d s).withQueue q := by
  unfold cmdSetRanks
  split <;> simp

theorem cmdLockSlot_withQueue (slot : Byte) : cmdLockSlot slot (s.withQueue q) = (cmdLockSlot slot s).withQueue q := by
  unfold cmdLockSlot
  split <;> simp

theorem cmdSlotInfo_withQueue (slot : Byte) : cmdSlotInfo slot (s.withQueue q) = (cmdSlotInfo slot s).withQueue q := by
  unfold cmdSlotInfo
  split <;> simp

theorem cmdEntryWrite_withQueue (kind : EntryKind) (slot : Byte) (o : List Stroke) (f : Byte) (t : List Byte) :
    cmdEntryWrite kind slot o f t (s.withQueue q) = (cmdEntryWrite kind slot o f t s).withQueue q := by
  simp only [cmdEntryWrite, State.slot_withQueue]
  split
  · simp
  · split <;> simp

theorem cmdFetchEntry_withQueue (slot : Byte) (o : List Stroke) :
    cmdFetchEntry slot o (s.withQueue q) = (cmdFetchEntry slot o s).withQueue q := by
  have hnamed : cmdFetchNamed slot o (s.withQueue q) = (cmdFetchNamed slot o s).withQueue q := by
    unfold cmdFetchNamed
    split <;> simp
  have hany : cmdFetchAny o (s.withQueue q) = (cmdFetchAny o s).withQueue q := by
    simp only [cmdFetchAny, State.withQueue_dict]
    split
    · simp
    · split <;> simp
  simp [cmdFetchEntry, hnamed, hany]

theorem cmdStart_withQueue : cmdStart (s.withQueue q) = (cmdStart s).withQueue q := by
  simp [cmdStart, serviceOrder_withQueue]

theorem cmdWindowInfo_withQueue (record : Byte) :
    cmdWindowInfo record (s.withQueue q) = (cmdWindowInfo record s).withQueue q := by
  have hdata : (s.withQueue q).windowData = s.windowData := rfl
  simp only [cmdWindowInfo, hdata, withQueue_refuse, withQueue_respond, State.withQueue_te]
  split
  · rfl
  · split
    · rfl
    · split <;> rfl

theorem cmdSetSpeaker_withQueue (number : Byte) (label : List Byte) :
    cmdSetSpeaker number label (s.withQueue q) = (cmdSetSpeaker number label s).withQueue q := by
  unfold cmdSetSpeaker
  split <;> simp

theorem cmdSetChannel_withQueue (ch m f : Byte) (d r : BitVec 16) (st ka : Byte) :
    cmdSetChannel ch m f d r st ka (s.withQueue q) = (cmdSetChannel ch m f d r st ka s).withQueue q := by
  unfold cmdSetChannel
  split <;> simp

theorem cmdChannelOn_withQueue (ch : Byte) : cmdChannelOn ch (s.withQueue q) = (cmdChannelOn ch s).withQueue q := by
  unfold cmdChannelOn
  split <;> simp

theorem cmdChannelOff_withQueue (ch : Byte) :
    cmdChannelOff ch (s.withQueue q) = (cmdChannelOff ch s).withQueue q := by
  unfold cmdChannelOff
  split <;> simp

theorem cmdChannelInfo_withQueue (ch : Byte) :
    cmdChannelInfo ch (s.withQueue q) = (cmdChannelInfo ch s).withQueue q := by
  unfold cmdChannelInfo
  split <;> simp

/-- No command looks at the frames that wait. -/
theorem runCommand_withQueue (c : Command) : runCommand c (s.withQueue q) = (runCommand c s).withQueue q := by
  cases c with
  | setKeyTiming | setKeyPolarity | setKeyMask | setStacking | injectStroke | setClock | keyInfo =>
      exact runCommand_withQueue_of_keyboard s q rfl
  | setMemory v => exact cmdSetMemory_withQueue s q v
  | setWindow n b z => exact cmdSetWindow_withQueue s q n b z
  | format n b => exact cmdFormat_withQueue s q n b
  | releaseSlot n => exact cmdReleaseSlot_withQueue s q n
  | setAccess n a => exact cmdSetAccess_withQueue s q n a
  | setRanks a b c d => exact cmdSetRanks_withQueue s q a b c d
  | lockSlot n => exact cmdLockSlot_withQueue s q n
  | slotInfo n => exact cmdSlotInfo_withQueue s q n
  | addEntry n o f t | replaceEntry n o f t => exact cmdEntryWrite_withQueue s q _ n o f t
  | retireEntry n o => exact cmdEntryWrite_withQueue s q _ n o 0 []
  | fetchEntry n o => exact cmdFetchEntry_withQueue s q n o
  | setMaintShare v => simp [runCommand, cmdSetMaintShare]
  | start => exact cmdStart_withQueue s q
  | stop =>
      exact withQueue_done (s.withTe { s.te with
        run := false
        state := if s.te.state = .waiting then .stopped else s.te.state }) q
  | setSettleTime v => simp [runCommand, cmdSetSettleTime]
  | flush => simp [runCommand, cmdFlush, State.setSettleDue]
  | clearNotices m =>
      exact withQueue_respond (s.withCp { s.cp with notices := s.cp.notices &&& ~~~m }) q .done [s.cp.notices]
  | setInterrupts r p m t =>
      exact withQueue_done (s.withCp { s.cp with
        respEnable := r != 0
        reportEnable := p != 0
        noticeEnable := m
        trigger := clamp 1 64 t.toNat }) q
  | windowInfo v => exact cmdWindowInfo_withQueue s q v
  | setSpeaker n l => exact cmdSetSpeaker_withQueue s q n l
  | setChannel ch m f d r st ka => exact cmdSetChannel_withQueue s q ch m f d r st ka
  | channelOn ch => exact cmdChannelOn_withQueue s q ch
  | channelOff ch => exact cmdChannelOff_withQueue s q ch
  | channelInfo ch => exact cmdChannelInfo_withQueue s q ch

/-- A command leaves the frames that wait behind it as they are. -/
theorem runCommand_queue (c : Command) : (runCommand c s).cp.queue = s.cp.queue := by
  have hself : s.withQueue s.cp.queue = s := State.withQueue_self rfl
  rw [← hself, runCommand_withQueue]
  rfl

end

/-- A frame of a command does what the command's row does with no frame waiting. -/
theorem exec_commandBegin_command {s : State} {rest : List Frame} {c : Command} (hc : c.wf = true)
    (hqueue : s.cp.queue = ⟨c.frame, false⟩ :: rest) (h : s.canBegin = true) :
    ∃ u, exec (rowOf c) (s.withQueue []) = .next u ∧ u.cp.queue = [] ∧
      exec .commandBegin s = .next (u.withQueue rest) := by
  obtain ⟨hcommand, hrestart, hroom⟩ := (canBegin_iff s).mp h
  refine ⟨_, exec_rowOf_of_ready (s := s.withQueue []) ⟨hcommand, hrestart, hroom, rfl⟩ c, runCommand_queue _ c, ?_⟩
  rw [exec_commandBegin hqueue h, beginFrame_of_command s hc, ← runCommand_withQueue]
  rfl

/-- A frame that spells no command is answered BAD_FRAME, and nothing else changes. -/
theorem exec_commandBegin_malformed {s : State} {f : Frame} {rest : List Frame} (hqueue : s.cp.queue = f :: rest)
    (h : s.canBegin = true) (hbad : ∀ c : Command, c.wf = true → f ≠ ⟨c.frame, false⟩) :
    exec .commandBegin s = .next (answered (s.withQueue rest) .badFrame ((f.bytes[1]?).getD 0) []) := by
  obtain ⟨hcommand, hrestart, -⟩ := (canBegin_iff s).mp h
  rw [exec_commandBegin hqueue h, beginFrame_of_malformed s (parseFrame_eq_none hbad)]
  exact congrArg _ (respond_beginExecution (s := s.withQueue rest) hcommand hrestart _ _ _)

end Sys2Proof.Machine

section

open Sys2Proof Sys2Proof.Machine Sys2Proof.Rules

/-- Settles O4: the oldest frame is malformed or a command's, and no command looks at the frames behind it. -/
theorem commandBeginTakesTheOldestFrame : Obligations.CommandBeginTakesTheOldestFrame := by
  unfold Obligations.CommandBeginTakesTheOldestFrame
  refine fun s f rest hqueue => ⟨fun hfree => ⟨fun hbad => ?_, fun c hc hf => ?_⟩, fun hbusy => ?_⟩
  · exact exec_commandBegin_malformed hqueue ((canBegin_iff s).mpr hfree) hbad
  · subst hf
    exact exec_commandBegin_command hc hqueue ((canBegin_iff s).mpr hfree)
  · exact exec_commandBegin_of_not_free hqueue (mt (canBegin_iff s).mp hbusy)

end
end

section
/-!
SUPPORT. The two branches of a step, and the totality of `exec`: a row that stands for a command is the arrival of
its frame, and every other row answers the state that its block moves to; none faults or is refused (chapter 9).
-/

namespace Sys2Proof.Machine

open Sys2Proof Sys2Proof.Rules

theorem step_of_pending {s : State} {c : Instr} {rest : List Instr} (h : s.pending = c :: rest) :
    step s = exec c (s.withPending rest) := by
  rw [step, h]

theorem step_of_idle {s : State} (h : s.pending = []) : step s = .next s := by
  rw [step, h]

theorem exec_next (i : Instr) (s : State) : ∃ t, exec i s = .next t := by
  cases hc : commandOf i with
  | some c => exact ⟨_, exec_of_command hc s⟩
  | none =>
      cases i with
      -- the hard reset, the keys and their timers
      | hardReset | lineLevelChange | debounceExpiry | holdTimerExpiry | strokeClockTick
      -- the Command Port
      | commandWrite | responseRead | reportRead | statusRead | voidTransaction | commandBegin
      | restart | restartTakesEffect
      -- the dictionary's gates and its upkeep
      | arbiterGrant | probeIssue | probeEnd | formatComplete | upkeepOperationEnd
      -- translation
      | takeStroke | settleDueService | settleTimerExpiry | rescan
      -- the channels
      | transmitByte | byteComplete | inboundByte | fclrChange | breakReceived | stallTimerExpiry
      | keepaliveTimerExpiry | returnToMark => exact ⟨_, rfl⟩
      -- the rows that stand for commands
      | _ => cases hc

end Sys2Proof.Machine

section

open Sys2Proof Sys2Proof.Machine Sys2Proof.Rules

/-- Settles O1: a step has two branches, and no row of the table faults or is refused. -/
theorem stepRunsTheFrontCommand : Obligations.StepRunsTheFrontCommand := by
  unfold Obligations.StepRunsTheFrontCommand
  exact ⟨fun _ _ _ => step_of_pending, fun _ => step_of_idle, exec_next⟩

end
end
